-- ==== Sys2Proof/Word.lean ====
section
/-!
DEFINITION. The words of the module: bytes, 32-bit and 64-bit words (R3, R5).
-/

namespace Sys2Proof

/-- A byte of memory. -/
abbrev Byte := BitVec 8

/-- A 32-bit element (FP32 bits, stream words). -/
abbrev W32 := BitVec 32

/-- A 64-bit control register (R5). -/
abbrev Word := BitVec 64

end Sys2Proof
end

