-- ==== Sys2Proof/Syntax.lean ====
section
/-!
DEFINITION. The commands of the module: one constructor per row of spec/opcode_table.json. The table gives
its rows no operand bits; the operands are what the row's rules leave to the outside: who sends, which
unit, which measured value.
-/

namespace Sys2Proof

/-- One OCT request as it arrives at hub AM (R375, R376): the address and UDP port it came from, and the fields of
its header but OPCODE, which the command gives; and its payload. -/
structure OctHdr where
  src : Nat
  port : Nat
  version : Nat
  flags : Nat := 0
  ctx : Nat := 0xFF
  status : Nat := 0
  detailSrc : Nat := 0
  detail : Nat := 0
  session : Nat
  seq : Nat
  length : Nat := 0
  count : Nat := 0
  target : Nat := 0
  payload : List Byte := []
  deriving DecidableEq, Repr

/-- A read or write request as it reaches the home of its address (R164 to R166): its number, the die it
comes from and the partition of its work, the address, the bytes read (a read) or the data written, whether
the write is plain (R168), the 64-bit words or bursts that it finds in uncorrectable error, those it finds corrected, and
the block, instance and context of its requester. -/
structure MemReq where
  tag : Nat
  die : Nat
  part : Option Nat
  addr : Nat
  len : Nat
  write : Bool
  plain : Bool
  data : List Byte
  damage : List Nat
  fixed : List (Nat × Nat) := []
  block : Nat := 0
  inst : Nat := 0
  ctx : Nat := 0
  deriving DecidableEq, Repr

/-- The profiles that R192 names, accepted or not, and any other. -/
inductive VProfile where
  | mpeg2Main | mpeg2Y422 | mpeg2High | mpeg2Snr | mpeg2Spatial
  | avcBaseline | avcConstrainedBaseline | avcMain | avcHigh | avcHigh10 | avcHigh422 | avcHigh422Intra
  | hevcMain | hevcMain10 | hevcMain422x10 | hevcMain12 | hevcRext444 | hevcScc | hevcLayered
  | vvcMain10 | vvcLayered
  | av1Main | av1High | av1Professional
  | j2kBroadcast
  | jxsLight422x10 | jxsMain422x10 | jxsMain444x12 | jxsHigh444x12
  | other
  deriving DecidableEq, Repr

/-- A 16 by 16 luma block of a decoded picture (R197): the mean of its list-0 vectors, the sum of its squared luma residuals,
and its type (0 intra, 1 inter, 2 skip). -/
structure VBlock where
  mvx : Int
  mvy : Int
  sq : Nat
  type : Nat
  deriving DecidableEq, Repr

/-- A picture as the codec's own standard decodes it (R192): geometry and colour codes of R195, its blocks in raster
order (R197), the runs of samples that were damaged (R196: plane, first sample, samples), and the planes, each its
samples row by row. -/
structure VFrame where
  width : Nat
  height : Nat
  layout : Nat
  sample : Nat
  depth : Nat
  prim : Nat
  transfer : Nat
  matrix : Nat
  rgb : Bool
  nits : Nat
  range : Nat
  pts : Nat
  key : Bool
  blocks : List VBlock
  damage : List (Nat × Nat × Nat)
  planes : List (List Nat)
  deriving DecidableEq, Repr

/-- What decoding one ES unit yields under its codec's standard: its profile, its level (R192: ten times its number;
MPEG-2 10 Low, 20 Main, 30 High-1440, 40 High; JPEG XS its place among the levels, 4k-1 being 30), whether it needs a tool that R192
leaves out, whether it keeps the level's own limits on pictures and on the decoded picture buffer, the error met (0 none, 4 a
syntax error, 6 a missing reference), the pictures that become ready for output, in output order, and the caption user data
of the unit. -/
structure VUnit where
  profile : VProfile
  level : Nat
  tools : Bool
  within : Bool
  error : Nat
  frames : List VFrame
  userData : List Byte
  deriving DecidableEq, Repr

/-- A block of decoded audio (R195, R198): rate, presentation time, samples per channel, and one plane per channel. -/
structure ABlock where
  rate : Nat
  pts : Nat
  samples : Nat
  channels : List (List Byte)
  deriving DecidableEq, Repr

/-- A caption record (R195, R199), with the teletext page it stands on and whether that page is marked as subtitle. -/
structure CapRec where
  service : Nat
  channel : Nat
  lang : Nat
  duration : Nat
  pts : Nat
  text : List Byte
  bmW : Nat
  bmH : Nat
  page : Nat
  sub : Bool
  deriving DecidableEq, Repr

/-- A RoCEv2 packet as it arrives (R370): queue pair, kind (0 SEND, 1 WRITE, 2 READ request, 3 any other
operation), first and last of its message, packet sequence number, CE mark, virtual address, R_Key, length of a
READ or WRITE message, and payload. -/
structure RdmaPkt where
  qp : Nat
  op : Nat
  first : Bool
  last : Bool
  psn : Nat
  ce : Bool
  va : Nat
  rkey : Nat
  len : Nat
  data : List Byte
  deriving DecidableEq, Repr

/-- A reduction frame as it travels (R253): the trailer's fields, the 30 bytes at 0x22, and the payload. -/
structure Frame where
  channel : Nat
  pass : Nat
  flags : Nat
  redId : Nat
  epoch : Nat
  step : Nat
  seg : Nat
  segs : Nat
  elems : Nat
  present : Nat
  carried : Nat
  firstNf : Nat
  esc : Nat
  sender : Nat
  ext : List Byte
  payload : List Byte
  deriving DecidableEq, Repr

/-- A frame received on the Ethernet port, as the MAC delivers it (R368): kind 0 an ARP request, 1 an IPv6
Neighbour Solicitation, 2 an ICMP echo request, 3 an ICMPv6 echo request, 4 a UDP datagram, others anything
else; bytes from the IP header onwards; whether it carries IPv4 options, IPv6 extension headers or a
fragment; source and destination addresses (IPv4 as ::ffff:a.b.c.d) and ports; the datagram's payload; and,
for port 4791, the RoCEv2 request packet that it holds. -/
structure EthFrame where
  kind : Nat
  len : Nat
  exts : Bool
  src : Nat
  dst : Nat
  srcPort : Nat
  dstPort : Nat
  payload : List Byte
  rdma : Option RdmaPkt
  deriving DecidableEq, Repr

inductive Instr where
  /-- R9: REGISTER_WRITE. -/
  | registerWrite (addr value : Nat)
  /-- R64: REGION_STOP. -/
  | regionStop (h : OctHdr)
  /-- R61: REGION_DRAINED. -/
  | regionDrained (region : Nat)
  /-- R62: DRAIN_TIMEOUT. -/
  | drainTimeout (region : Nat)
  /-- R66: REGION_LOAD. -/
  | regionLoad (h : OctHdr) (fault : Bool)
  /-- R60: REGION_START. -/
  | regionStart (h : OctHdr)
  /-- R60: REGION_UNITS_INITIALISED. -/
  | regionUnitsInitialised (region : Nat) (ok : Bool)
  /-- R84: MXC_QTAIL_WRITE. -/
  | mxcQtailWrite (die core ctx tail : Nat)
  /-- R104: QUEUE_ENABLE. -/
  | queueEnable (block die inst ctx size : Nat)
  /-- R95: QUEUE_RESUME. -/
  | queueResume (block die inst ctx : Nat)
  /-- R104: TOKEN_CLEAR. -/
  | tokenClear (die core : Nat)
  /-- R85: DESCRIPTOR_TAKE. -/
  | descriptorTake (die core : Nat)
  /-- R91: TOKEN_WAIT_MET. -/
  | tokenWaitMet (mover : Bool) (die core ctx : Nat)
  /-- R83: PRODUCT_START. -/
  | productStart (die core starved : Nat) (fillers : Nat := 0)
  /-- R82: PRODUCT_COMPLETE. -/
  | productComplete (die core stall : Nat) (fixed : List (Nat × Nat) := [])
  /-- R87: BARRIER_COMPLETE. -/
  | barrierComplete (die core ctx : Nat)
  /-- R86: LOCK_LIMIT_EXPIRE. -/
  | lockLimitExpire (die core : Nat)
  /-- R102: GROUP_SLEEP. -/
  | groupSleep (die core fillers : Nat)
  /-- R102: GROUP_WAKE. -/
  | groupWake (die core fillers : Nat)
  /-- R103: ACC_ECC_UNCORR. -/
  | accEccUncorr (die core tile : Nat)
  /-- R103: FEED_PARITY. -/
  | feedParity (die core : Nat)
  /-- R128: POST_CHAIN_START. -/
  | postChainStart (die core : Nat)
  /-- R142: CHAIN_COMPLETE. -/
  | chainComplete (die core cycles stalled : Nat) (fixed : List (Nat × Nat) := [])
  /-- R148: ROUTED_PRODUCT_COMPLETE. -/
  | routedProductComplete (die core cycles : Nat) (fixed : List (Nat × Nat) := [])
  /-- R150: TB_ECC_UNCORR. -/
  | tbEccUncorr (die core tb : Nat) (rows : Nat := 0)
  /-- R155: SPAD_QTAIL_WRITE. -/
  | spadQtailWrite (die core ctx tail : Nat)
  /-- R158: MOVE_TAKE. -/
  | moveTake (die core : Nat)
  /-- R157: MOVE_COMPLETE. -/
  | moveComplete (die core cycles : Nat) (fixed : List (Nat × Nat) := [])
  /-- R154: SPAD_ECC_UNCORR. -/
  | spadEccUncorr (die core off : Nat)
  /-- R166: MEMORY_REQUEST. -/
  | memoryRequest (q : MemReq)
  /-- R164: RLC_FILL_RETURN. -/
  | rlcFillReturn (die line : Nat)
  /-- R165: RLC_INVALIDATION. -/
  | rlcInvalidation (die line : Nat)
  /-- R162: PATROL_SCRUB. -/
  | patrolScrub (die stack result addr : Nat)
  /-- R162: DRAM_REFRESH. -/
  | dramRefresh (die stack chan : Nat)
  /-- R173: FAR_SPILL_ACK. -/
  | farSpillAck (die core cycles : Nat) (host : List Byte)
  /-- R185: RESERVOIR_PACKET. -/
  | reservoirPacket (p : RdmaPkt)
  /-- R185: RESERVOIR_CHUNK_COMPLETE. -/
  | reservoirChunkComplete (qp : Nat)
  /-- R188: DEMUX_CHUNK. -/
  | demuxChunk (hub inst : Nat)
  /-- R191: VDEC_UNIT. -/
  | vdecUnit (hub inst : Nat) (u : VUnit)
  /-- R198: ADEC_AUDIO_BLOCK. -/
  | adecAudioBlock (hub inst error : Nat) (blocks : List ABlock)
  /-- R199: ADEC_CAPTION. -/
  | adecCaption (hub inst error : Nat) (recs : List CapRec)
  /-- R200: XFORM_FRAME. -/
  | xformFrame (hub inst : Nat)
  /-- R202: TOKEN_TILE. -/
  | tokenTile (hub inst : Nat)
  /-- R204: DELIVERY_ENTRY. -/
  | deliveryEntry (hub inst : Nat)
  /-- R205: DELIVERY_CONSUMED_POLL. -/
  | deliveryConsumedPoll (hub inst : Nat)
  /-- R206: STAGE_ROOM_RESUME. -/
  | stageRoomResume (hub block inst : Nat)
  /-- R214: PERM_GEN_BLOCK. -/
  | permGenBlock (hub : Nat)
  /-- R215: PERM_HOST_GO. -/
  | permHostGo (hub : Nat)
  /-- R215: PERM_HOST_DONE. -/
  | permHostDone (hub : Nat)
  /-- R216: SHUFFLE_ENTRY. -/
  | shuffleEntry (hub : Nat)
  /-- R216: SHUFFLE_FLUSH. -/
  | shuffleFlush (hub : Nat)
  /-- R220: SETE_BLOCK. -/
  | seteBlock (hub inst : Nat)
  /-- R222: SETE_QTAIL_WRITE. -/
  | seteQtailWrite (hub ctx tail : Nat)
  /-- R224: SET_DESC_TAKE. -/
  | setDescTake (hub : Nat)
  /-- R224: SET_DESC_COMPLETE. -/
  | setDescComplete (hub cycles : Nat)
  /-- R228: STEP_BEGIN. -/
  | stepBegin (p : Nat)
  /-- R227: STEP_ADVANCE. -/
  | stepAdvance (p : Nat)
  /-- R238: DISCARD_ACCUM. -/
  | discardAccum (p : Nat)
  /-- R238: DISCARD_ACCUM_DONE. -/
  | discardAccumDone (p : Nat)
  /-- R227: STEP_ABORT. -/
  | stepAbort (p : Nat)
  /-- R278: UPD_TABLE_REPORT. -/
  | updTableReport (die : Nat)
  /-- R231: CLOSING_REDUCTION_ISSUE. -/
  | closingReductionIssue (p : Nat)
  /-- R234: VERDICT. -/
  | verdict (p : Nat)
  /-- R280: UPD_APPLY_DONE. -/
  | updApplyDone (die : Nat)
  /-- R235: VERDICT_TIMEOUT. -/
  | verdictTimeout (p : Nat)
  /-- R291: UPD_COMMIT_FAULT. -/
  | updCommitFault (die entry addr : Nat)
  /-- R249: RED_QTAIL_WRITE. -/
  | redQtailWrite (chan tail : Nat)
  /-- R251: RED_REQUEST_TAKE. -/
  | redRequestTake (chan : Nat)
  /-- R248: RED_REQUEST_START. -/
  | redRequestStart (chan : Nat)
  /-- R256: EXPONENT_FRAME. -/
  | exponentFrame (hop part : Nat) (f : Frame)
  /-- R254: REDUCE_SCATTER_FRAME. -/
  | reduceScatterFrame (hop part : Nat) (f : Frame)
  /-- R255: ALL_GATHER_FRAME. -/
  | allGatherFrame (hop part : Nat) (f : Frame)
  /-- R253: ROLL_CALL_FRAME. -/
  | rollCallFrame (hop part : Nat) (f : Frame)
  /-- R258: STRAGGLER_DECISION. -/
  | stragglerDecision (chan : Nat)
  /-- R263: RED_HANG. -/
  | redHang (chan : Nat)
  /-- R270: PEER_REPLAY. -/
  | peerReplay (port : Nat) (rx : Bool)
  /-- R270: PEER_LINK_DOWN. -/
  | peerLinkDown (port : Nat)
  /-- R415: PEER_LINK_UP. -/
  | peerLinkUp (port lanes partnerMax partnerPart : Nat) (retrainOk : Bool)
  /-- R415: PEER_LINK_RETRY. -/
  | peerLinkRetry (port lanes partnerMax partnerPart : Nat) (retrainOk : Bool)
  /-- R294: ALLGATHER_SHARD_FRAME. -/
  | allgatherShardFrame (hop part : Nat) (f : Frame)
  /-- R296: GATHER_CONSUMED_POLL. -/
  | gatherConsumedPoll (chan : Nat)
  /-- R300: PERMUTE_START. -/
  | permuteStart (chan : Nat)
  /-- R301: PERMUTE_MOVE_FRAME. -/
  | permuteMoveFrame (hop part : Nat) (f : Frame)
  /-- R301: PERMUTE_COMPLETE. -/
  | permuteComplete (chan : Nat)
  /-- R309: ARB_GRANT. -/
  | arbGrant (die inst : Nat) (arrivals : List (Nat × Nat))
  /-- R312: ARB_AGED. -/
  | arbAged (die inst cls : Nat)
  /-- R314: ARB_FREEZE. -/
  | arbFreeze (die inst v : Nat)
  /-- R323: WEAVE_RETRAIN. -/
  | weaveRetrain (die : Nat)
  /-- R323: WEAVE_TRAIN_DONE. -/
  | weaveTrainDone (die : Nat) (goodA goodB : Bool)
  /-- R322: WEAVE_WORD_ERROR. -/
  | weaveWordError (die : Nat) (atDie same : Bool)
  /-- R323: WEAVE_DOWN_RETRY. -/
  | weaveDownRetry (die : Nat)
  /-- R336: SEAM_RETRAIN. -/
  | seamRetrain (hub : Nat)
  /-- R327: SEAM_RECEIVER_LOCK. -/
  | seamReceiverLock (hub : Nat)
  /-- R327: SEAM_LANE_TEST_END. -/
  | seamLaneTestEnd (hub mask : Nat)
  /-- R329: SEAM_TRAINING_SET. -/
  | seamTrainingSet (hub : Nat) (set : List Byte)
  /-- R331: SEAM_AGREE_LIMIT. -/
  | seamAgreeLimit (hub : Nat)
  /-- R330: SEAM_CONFIRM_END. -/
  | seamConfirmEnd (hub : Nat) (error : Bool)
  /-- R332: SEAM_LOSS_LIMIT. -/
  | seamLossLimit (hub : Nat)
  /-- R331: SEAM_UP_STABLE. -/
  | seamUpStable (hub : Nat)
  /-- R327: SEAM_DOWN_RETRY. -/
  | seamDownRetry (hub : Nat)
  /-- R326: SEAM_FLIT_ERROR. -/
  | seamFlitError (hub : Nat) (same : Bool)
  /-- R351: FENCE. -/
  | fence (h : OctHdr)
  /-- R351: FENCE_PROBE. -/
  | fenceProbe (number entry : Nat)
  /-- R351: FENCE_WATERMARK_SEND. -/
  | fenceWatermarkSend (number entry : Nat)
  /-- R351: FENCE_WATERMARK_ARRIVE. -/
  | fenceWatermarkArrive (number entry : Nat)
  /-- R352: FENCE_TIMEOUT. -/
  | fenceTimeout (number : Nat)
  /-- R341: PLL_LOCK_LOST. -/
  | pllLockLost (die domain : Nat)
  /-- R342: REFERENCE_LOST. -/
  | referenceLost (osc : Nat)
  /-- R407: POWER_APPLIED. -/
  | powerApplied (mode : Bool)
  /-- R355: VIN_SAMPLE. -/
  | vinSample (tenmv : Nat)
  /-- R355: POWER_LOST. -/
  | powerLost
  /-- R359: POWER_READING. -/
  | powerReading (watts average : Nat)
  /-- R359: POWER_MS_BOUNDARY. -/
  | powerMsBoundary (temps : List (Nat × Nat))
  /-- R358: THROTTLE_STEP. -/
  | throttleStep (die : Nat)
  /-- R360: THERMAL_TRIP. -/
  | thermalTrip (die temp : Nat)
  /-- R361: COOLANT_FAULT. -/
  | coolantFault (tIn tOut flow : Nat)
  /-- R361: COOLANT_CLEAR. -/
  | coolantClear (tIn tOut flow : Nat)
  /-- R364: EMERGENCY_RESET. -/
  | emergencyReset
  /-- R367: ETH_SPEED_TRY. -/
  | ethSpeedTry
  /-- R367: ETH_LINK_LOSS. -/
  | ethLinkLoss
  /-- R367: ETH_SPEEDS_WRITE. -/
  | ethSpeedsWrite (v : Nat)
  /-- R368: ETH_RX_FRAME. -/
  | ethRxFrame (f : EthFrame)
  /-- R369: PFC_RX. -/
  | pfcRx (prios : Nat) (quanta : List Nat)
  /-- R369: PFC_REFRESH. -/
  | pfcRefresh
  /-- R372: RDMA_PACKET_RX. -/
  | rdmaPacketRx (p : RdmaPkt)
  /-- R373: RDMA_CNP_RX. -/
  | rdmaCnpRx (qp : Nat)
  /-- R373: RDMA_RATE_RECOVER. -/
  | rdmaRateRecover (qp : Nat)
  /-- R374: RDMA_ACK_TIMEOUT. -/
  | rdmaAckTimeout (qp : Nat)
  /-- R371: QP_LOAD. -/
  | qpLoad (qp : Nat)
  /-- R374: QP_TO_ERROR. -/
  | qpToError (qp : Nat)
  /-- R374: QP_TO_RESET. -/
  | qpToReset (qp : Nat)
  /-- R376: NEGOTIATE. -/
  | negotiate (h : OctHdr)
  /-- R376: CLOSE. -/
  | close (h : OctHdr)
  /-- R379: CSR_READ. -/
  | csrRead (h : OctHdr)
  /-- R379: CSR_WRITE. -/
  | csrWrite (h : OctHdr)
  /-- R378: MEM_READ. -/
  | memRead (h : OctHdr)
  /-- R378: MEM_WRITE. -/
  | memWrite (h : OctHdr)
  /-- R383: DOORBELL. -/
  | doorbell (h : OctHdr)
  /-- R384: CTX_OPEN. -/
  | ctxOpen (h : OctHdr)
  /-- R384: CTX_CLOSE. -/
  | ctxClose (h : OctHdr)
  /-- R384: CTX_STOP_CONFIRMED. -/
  | ctxStopConfirmed (ctx : Nat)
  /-- R384: CTX_CLOSED. -/
  | ctxClosed (ctx : Nat)
  /-- R387: CTX_DRAIN_LIMIT. -/
  | ctxDrainLimit (ctx : Nat)
  /-- R381: SUBSCRIBE. -/
  | subscribe (h : OctHdr)
  /-- R376: OCT_SESSION_IDLE. -/
  | octSessionIdle (src port session : Nat)
  /-- R402: ATTEST_IDENTITY. -/
  | attestIdentity (h : OctHdr)
  /-- R403: ATTEST_REPORT. -/
  | attestReport (h : OctHdr)
  /-- R398: INSTALL_FW. -/
  | installFw (h : OctHdr)
  /-- R398: INSTALL_STREAM. -/
  | installStream (h : OctHdr)
  /-- R398: PREFER. -/
  | prefer (h : OctHdr)
  /-- R400: RAISE_SVN. -/
  | raiseSvn (h : OctHdr)
  /-- R399: INSTALL_BACKGROUND_DONE. -/
  | installBackgroundDone (flashOk : Bool)
  /-- R408: DAYBREAK_STEP_COMPLETE. -/
  | daybreakStepComplete (fails : List (Nat × Nat))
  /-- R411: DAYBREAK_GO. -/
  | daybreakGo
  /-- R413: PLL_LOCK_TIMEOUT. -/
  | pllLockTimeout (die domain : Nat)
  /-- R413: WEAVE_STEP_TIMEOUT. -/
  | weaveStepTimeout (die : Nat)
  /-- R414: SEAM_WAIT_TIMEOUT. -/
  | seamWaitTimeout
  /-- R415: PEER_STEP_TIMEOUT. -/
  | peerStepTimeout
  /-- R416: ETH_STEP_TIMEOUT. -/
  | ethStepTimeout
  /-- R416: ANNOUNCE_REPEAT. -/
  | announceRepeat
  /-- R427: WATCHDOG_EXPIRE. -/
  | watchdogExpire (die block inst : Nat)
  /-- R429: FW_WATCHDOG_EXPIRE. -/
  | fwWatchdogExpire
  /-- R429: RST_KICK. -/
  | rstKick
  /-- R433: RESET_ENGINE. -/
  | resetEngine (h : OctHdr)
  /-- R433: RESET_DIE. -/
  | resetDie (h : OctHdr)
  /-- R433: RESET_HALF. -/
  | resetHalf (h : OctHdr)
  /-- R434: RESET_MODULE. -/
  | resetModule (h : OctHdr)
  /-- R430: DUSK_DRAINED. -/
  | duskDrained (die : Nat)
  /-- R430: DUSK_LIMIT. -/
  | duskLimit (die outstanding : Nat)
  /-- R438: DUMP_DONE. -/
  | dumpDone
  /-- R438: DEBUG_RING_TIMEOUT. -/
  | debugRingTimeout (write : Bool) (die bank : Nat)
  /-- R431: RESET_RELEASED. -/
  | resetReleased (die : Nat) (fails : List Nat)
  /-- R432: RESET_ESCALATE. -/
  | resetEscalate (die : Nat)
  /-- R436: QUARANTINE_TURN_END. -/
  | quarantineTurnEnd (die inst : Nat)
  /-- R436: REPLAY_WINDOW_EXPIRE. -/
  | replayWindowExpire (die inst : Nat)
  /-- R439: DUMP_ON_DEMAND. -/
  | dumpOnDemand (dies : Nat)
  /-- R443: J20_UART_COMMAND. -/
  | j20UartCommand (line : List Byte)
  /-- R443: J20_TAP_ACCESS. -/
  | j20TapAccess (reg : Nat)
  /-- R367: PCS_LOCK. -/
  | pcsLock (lanes : Nat)
  /-- R364: EMRST_N_RELEASE. -/
  | emrstNRelease
  /-- R369: PAUSE_QUANTA_EXPIRE. -/
  | pauseQuantaExpire (prio : Nat)
  /-- R374: NAK_RECEIVED. -/
  | nakReceived (qp : Nat)
  deriving DecidableEq, Repr

end Sys2Proof
end

