-- ==== Sys2Proof/Decode.lean ====
section
/-!
DEFINITION. The table gives no command any bits (spec/opcode_table.json: every row's fields are empty), so no
word spells a command.
-/

namespace Sys2Proof

/-- No word spells a command. -/
def decodeTableWord (_nbits _w : Nat) : Option Instr := none

end Sys2Proof
end

