-- ==== Sys2Proof/Config.lean ====
section
/-!
DEFINITION. What an implementation fixes and the spec leaves open: constants without a body, so that no
proof can see their value. A statement about them holds whatever they are.
-/

namespace Sys2Proof.Config

/-- R33: the silicon stepping of a die ("per silicon"). -/
opaque stepping : Nat → Nat

/-- A value the spec calls undefined, by the event that left it open (a counter of State) and a place in it. -/
opaque free : Nat → Nat → Nat

/-- R134, R135: EXP2, LOG2, RCP, RSQRT and the activation functions where no FP32 value is the exact
result: a fixed, undocumented function of (operation, selector, operand bits). -/
opaque vecFn : Nat → Nat → W32 → W32

/-- R233: the RED_ID that closing reductions carry, which the spec does not give. -/
opaque closingRedId : Nat

/-- R165: the directory set of a line, which the spec does not give. -/
opaque dirSet : Nat → Nat

/-- R390: the port's MAC address, fixed per device. -/
opaque mac : Nat

/-- R394, R402: device identity values fixed at manufacture (by item number). -/
opaque device : Nat → List Byte

/-- R396, R401: does a signature (by kind) verify for a digest under a key? -/
opaque verify : Nat → List Byte → List Byte → List Byte → Bool

/-- R403: the device's signatures (by kind and one-time index) of a message. -/
opaque sign : Nat → Nat → List Byte → List Byte

end Sys2Proof.Config
end

