-- ==== Sys2Proof/Machine/Bits.lean ====
section
/-!
DEFINITION. Bit fields, byte order (R3, R4) and small list helpers.
-/

namespace Sys2Proof.Machine

/-- Bits [lo + w - 1 : lo] of a number (R3). -/
def bits (x lo w : Nat) : Nat := (x >>> lo) % 2 ^ w

/-- Bit i of a number. -/
def bit (x i : Nat) : Bool := (x >>> i) % 2 == 1

/-- A number with bits [lo + w - 1 : lo] replaced by v. -/
def setBits (x lo w v : Nat) : Nat :=
  x % 2 ^ lo + (v % 2 ^ w) * 2 ^ lo + (x >>> (lo + w)) * 2 ^ (lo + w)

def b2n (b : Bool) : Nat := if b then 1 else 0

/-- The n bytes of a number, least significant first (R4). -/
def leBytes : Nat → Nat → List Byte
  | 0, _ => []
  | n + 1, x => BitVec.ofNat 8 x :: leBytes n (x / 256)

/-- The number that bytes spell, least significant first (R4). -/
def leVal : List Byte → Nat
  | [] => 0
  | b :: t => b.toNat + 256 * leVal t

/-- The n bytes of a number, most significant first (network order, R4). -/
def beBytes (n x : Nat) : List Byte := (leBytes n x).reverse

/-- The number that bytes spell, most significant first. -/
def beVal (l : List Byte) : Nat := leVal l.reverse

/-- The signed value of a w-bit number. -/
def toInt (w x : Nat) : Int := if x % 2 ^ w < 2 ^ (w - 1) then (x % 2 ^ w : Nat) else ((x % 2 ^ w : Nat) : Int) - (2 ^ w : Nat)

/-- The w-bit two's complement of an integer. -/
def ofInt (w : Nat) (i : Int) : Nat := (i % (2 ^ w : Nat)).toNat

/-- How many bits of the low n are set. -/
def popcount : Nat → Nat → Nat
  | 0, _ => 0
  | n + 1, x => x % 2 + popcount n (x / 2)

/-- The lowest set bit among the low n. -/
def lowBit (n x : Nat) : Option Nat := (List.range n).find? (fun i => bit x i)

def roundUp (x m : Nat) : Nat := ((x + m - 1) / m) * m
def ceilDiv (x m : Nat) : Nat := (x + m - 1) / m

/-- Cut a list into pieces of n, with fuel for as many pieces. -/
def chunks {α : Type} (n : Nat) : Nat → List α → List (List α)
  | 0, _ => []
  | _ + 1, [] => []
  | k + 1, l => l.take n :: chunks n k (l.drop n)

/-- The element at a place, or d. -/
def nth {α : Type} (l : List α) (i : Nat) (d : α) : α := l.getD i d

/-- A little-endian field of n bytes at an offset of a byte string. -/
def fieldAt (l : List Byte) (off n : Nat) : Nat := leVal ((l.drop off).take n)

/-- A list with the element at a place replaced (unchanged if there is none). -/
def setAt {α : Type} (l : List α) (i : Nat) (v : α) : List α := l.set i v

/-- Do two byte ranges meet? -/
def overlap (a la b lb : Nat) : Bool := a < b + lb && b < a + la && 0 < la && 0 < lb

/-- Insert an element before the first one that it does not come after. -/
def insertBy {α : Type} (le : α → α → Bool) (a : α) : List α → List α
  | [] => [a]
  | b :: t => if le a b then a :: b :: t else b :: insertBy le a t

/-- A list in order, equal elements in the order they had. -/
def sortBy {α : Type} (le : α → α → Bool) : List α → List α
  | [] => []
  | a :: t => insertBy le a (sortBy le t)

end Sys2Proof.Machine
end

