-- ==== Sys2Proof/Machine/Fp.lean ====
section
/-!
DEFINITION. The number formats (R105 to R109), conversion and rounding (R114 to R116), MX blocks (R110)
and BS16 groups (R117, R118). Values are computed exactly and narrowed once.
-/

namespace Sys2Proof.Machine

/-- An exact value: a NaN, an infinity, or (-1)^neg * m * 2^e. -/
inductive FV where
  | nan
  | inf (neg : Bool)
  | fin (neg : Bool) (m : Nat) (e : Int)
  deriving DecidableEq, Repr

/-- What a format's top exponent code holds (R106). -/
inductive Special where
  | ieee      -- infinities and NaNs at the top exponent
  | e4m3      -- only S.1111.111 is a NaN
  | none
  deriving DecidableEq, Repr

/-- A floating-point format (R105). -/
structure FFmt where
  ebits : Nat
  mbits : Nat
  bias : Nat
  special : Special
  deriving DecidableEq, Repr

def fp32 : FFmt := ⟨8, 23, 127, .ieee⟩
def bf16 : FFmt := ⟨8, 7, 127, .ieee⟩
def fp16 : FFmt := ⟨5, 10, 15, .ieee⟩
def e4m3 : FFmt := ⟨4, 3, 7, .e4m3⟩
def e5m2 : FFmt := ⟨5, 2, 15, .ieee⟩
def e3m2 : FFmt := ⟨3, 2, 3, .none⟩
def e2m3 : FFmt := ⟨2, 3, 1, .none⟩
def e2m1 : FFmt := ⟨2, 1, 1, .none⟩

/-- R105: the format of a code (integer formats and BS16 have no FFmt). -/
def fmtOf : Nat → Option FFmt
  | 0 => some fp32 | 1 => some bf16 | 2 => some fp16 | 3 => some e4m3 | 4 => some e5m2
  | 5 => some e3m2 | 6 => some e2m3 | 7 => some e2m1 | _ => none

/-- R105: element width in bits of a format code 0x0 to 0x9 (0 for any other). -/
def fmtWidth : Nat → Nat
  | 0 => 32 | 1 => 16 | 2 => 16 | 3 => 8 | 4 => 8 | 5 => 6 | 6 => 6 | 7 => 4 | 8 => 8 | 9 => 4 | _ => 0

/-- The largest finite magnitude as (m, e) (R106). -/
def FFmt.maxFin (f : FFmt) : Nat × Int :=
  match f.special with
  | .ieee => (2 ^ (f.mbits + 1) - 1, (2 ^ f.ebits - 2 : Int) - f.bias - f.mbits)
  | .e4m3 => (2 ^ (f.mbits + 1) - 2, (2 ^ f.ebits - 1 : Int) - f.bias - f.mbits)
  | .none => (2 ^ (f.mbits + 1) - 1, (2 ^ f.ebits - 1 : Int) - f.bias - f.mbits)

/-- The value of a bit pattern (R105, R106). -/
def FFmt.decode (f : FFmt) (x : Nat) : FV :=
  let neg := bit x (f.ebits + f.mbits)
  let e := bits x f.mbits f.ebits
  let m := bits x 0 f.mbits
  let fin := if e = 0 then FV.fin neg m (1 - (f.bias : Int) - f.mbits)
             else FV.fin neg (2 ^ f.mbits + m) ((e : Int) - f.bias - f.mbits)
  match f.special with
  | .ieee => if e = 2 ^ f.ebits - 1 then (if m = 0 then .inf neg else .nan) else fin
  | .e4m3 => if e = 2 ^ f.ebits - 1 ∧ m = 2 ^ f.mbits - 1 then .nan else fin
  | .none => fin

/-- R107: the canonical NaN of a format (sign 0). -/
def FFmt.canonNaN (f : FFmt) : Nat :=
  match f.special with
  | .ieee => (2 ^ f.ebits - 1) * 2 ^ f.mbits + 2 ^ (f.mbits - 1)
  | .e4m3 => 2 ^ (f.ebits + f.mbits) - 1
  | .none => 0

/-- How a conversion rounds (R114): to nearest even, or stochastically with a 16-bit number. -/
inductive Rounding where
  | rne
  | stochastic (u : Nat)
  deriving DecidableEq, Repr

/-- m * 2^(-d) rounded to an integer (R114). -/
def roundShift (r : Rounding) (m d : Nat) : Nat :=
  let k := m >>> d
  let rem := m % 2 ^ d
  match r with
  | .rne =>
    if 2 * rem > 2 ^ d ∨ (2 * rem = 2 ^ d ∧ k % 2 = 1 ∧ 0 < d) then k + 1 else k
  | .stochastic u =>
    let dd := if d ≥ 16 then rem >>> (d - 16) else rem <<< (16 - d)
    if dd + u % 2 ^ 16 ≥ 2 ^ 16 then k + 1 else k

/-- A magnitude m * 2^e rounded to the last place of a format: (k, q) with value k * 2^q. -/
def FFmt.roundMag (f : FFmt) (r : Rounding) (m : Nat) (e : Int) : Nat × Int :=
  let emin : Int := 1 - (f.bias : Int) - f.mbits
  let q := max ((Nat.log2 m : Int) + e - f.mbits) emin
  if q ≤ e then (m <<< (e - q).toNat, q) else (roundShift r m (q - e).toNat, q)

/-- Is k * 2^q greater than m * 2^e? -/
def magGt (k : Nat) (q : Int) (m : Nat) (e : Int) : Bool :=
  if q ≥ e then decide (k <<< (q - e).toNat > m) else decide (k > m <<< (e - q).toNat)

/-- The bit pattern of a rounded magnitude k * 2^q that the format holds. -/
def FFmt.pack (f : FFmt) (neg : Bool) (k : Nat) (q : Int) : Nat :=
  let emin : Int := 1 - (f.bias : Int) - f.mbits
  let kq := if k = 2 ^ (f.mbits + 1) then (2 ^ f.mbits, q + 1) else (k, q)
  let body := if kq.1 < 2 ^ f.mbits then kq.1
              else ((kq.2 - emin).toNat + 1) * 2 ^ f.mbits + (kq.1 - 2 ^ f.mbits)
  b2n neg * 2 ^ (f.ebits + f.mbits) + body

/-- What a finite magnitude beyond the range becomes (R115). -/
inductive Over where
  | toInf | toMax
  deriving DecidableEq, Repr

/-- A finite value in a format, and whether it went beyond the range. -/
def FFmt.encodeFin (f : FFmt) (r : Rounding) (o : Over) (neg : Bool) (m : Nat) (e : Int) : Nat × Bool :=
  if m = 0 then (b2n neg * 2 ^ (f.ebits + f.mbits), false)
  else
    let (k, q) := f.roundMag r m e
    let (mm, me) := f.maxFin
    if magGt k q mm me then
      match o with
      | .toInf => (b2n neg * 2 ^ (f.ebits + f.mbits) + (2 ^ f.ebits - 1) * 2 ^ f.mbits, true)
      | .toMax => (f.pack neg mm me, true)
    else (f.pack neg k q, false)

/-- The FP32 pattern of an exact value, rounded once to nearest even (R107, R111). -/
def toF32 (v : FV) : W32 :=
  BitVec.ofNat 32 (match v with
    | .nan => fp32.canonNaN
    | .inf neg => b2n neg * 2 ^ 31 + 0x7F800000
    | .fin neg m e => (fp32.encodeFin .rne .toInf neg m e).1)

/-- The exact value of an FP32 pattern. -/
def ofF32 (x : W32) : FV := fp32.decode x.toNat

def f32Nan : W32 := 0x7FC00000#32
def f32Zero : W32 := 0#32
def f32One : W32 := 0x3F800000#32

/-- ±∞ or NaN. -/
def f32NonFinite (x : W32) : Bool := bits x.toNat 23 8 == 255
def f32IsNan (x : W32) : Bool := f32NonFinite x && bits x.toNat 0 23 != 0
def f32IsZero (x : W32) : Bool := bits x.toNat 0 31 == 0

/-- Sign-and-magnitude sum at a common exponent. -/
def signedOf (neg : Bool) (m : Nat) : Int := if neg then -(m : Int) else m

/-- The exact sum, with IEEE 754 signs of zero. -/
def FV.add : FV → FV → FV
  | .nan, _ => .nan
  | _, .nan => .nan
  | .inf a, .inf b => if a = b then .inf a else .nan
  | .inf a, _ => .inf a
  | _, .inf b => .inf b
  | .fin na ma ea, .fin nb mb eb =>
    if ma = 0 ∧ mb = 0 then .fin (na && nb) 0 0
    else if ma = 0 then .fin nb mb eb
    else if mb = 0 then .fin na ma ea
    else
      let e := min ea eb
      let x := signedOf na (ma <<< (ea - e).toNat) + signedOf nb (mb <<< (eb - e).toNat)
      .fin (decide (x < 0)) x.natAbs e

def FV.neg : FV → FV
  | .nan => .nan
  | .inf a => .inf (!a)
  | .fin n m e => .fin (!n) m e

def FV.isNeg : FV → Bool
  | .nan => false
  | .inf a => a
  | .fin n _ _ => n

def FV.isZero : FV → Bool
  | .fin _ 0 _ => true
  | _ => false

/-- The exact product, with the IEEE 754 special cases. -/
def FV.mul : FV → FV → FV
  | .nan, _ => .nan
  | _, .nan => .nan
  | .inf a, .inf b => .inf (a != b)
  | .inf a, .fin b m _ => if m = 0 then .nan else .inf (a != b)
  | .fin b m _, .inf a => if m = 0 then .nan else .inf (a != b)
  | .fin na ma ea, .fin nb mb eb => .fin (na != nb) (ma * mb) (ea + eb)

/-- The quotient, carried to 256 places below the dividend's last with a sticky last place, so that one
rounding of it is the rounding of the exact quotient. -/
def FV.div : FV → FV → FV
  | .nan, _ => .nan
  | _, .nan => .nan
  | .inf _, .inf _ => .nan
  | .inf a, .fin b _ _ => .inf (a != b)
  | .fin a _ _, .inf b => .fin (a != b) 0 0
  | .fin na ma ea, .fin nb mb eb =>
    if mb = 0 then (if ma = 0 then .nan else .inf (na != nb))
    else
      let n := ma <<< 256
      let q := n / mb
      .fin (na != nb) (2 * q + b2n (n % mb != 0)) (ea - eb - 257)

/-- The integer square root by halving, with fuel. -/
def isqrtAux (n : Nat) : Nat → Nat → Nat → Nat
  | 0, lo, _ => lo
  | k + 1, lo, hi =>
    let mid := (lo + hi + 1) / 2
    if mid * mid ≤ n then isqrtAux n k mid hi else isqrtAux n k lo (mid - 1)

def isqrt (n : Nat) : Nat := isqrtAux n (Nat.log2 n + 2) 0 (2 ^ (Nat.log2 n / 2 + 1))

/-- The square root, carried with a sticky last place as the quotient is. -/
def FV.sqrt : FV → FV
  | .nan => .nan
  | .inf neg => if neg then .nan else .inf false
  | .fin neg m e =>
    if m = 0 then .fin neg 0 0
    else if neg then .nan
    else
      let n := if e % 2 = 0 then m <<< 128 else m <<< 129
      let e' := if e % 2 = 0 then e - 128 else e - 129
      let r := isqrt n
      .fin false (2 * r + b2n (r * r != n)) (e' / 2 - 1)

/-- Order of two values that are not NaN: x < y. -/
def FV.lt (x y : FV) : Bool :=
  match x, y with
  | .nan, _ => false
  | _, .nan => false
  | .inf a, .inf b => a && !b
  | .inf a, _ => a
  | _, .inf b => !b
  | .fin na ma ea, .fin nb mb eb =>
    let e := min ea eb
    decide (signedOf na (ma <<< (ea - e).toNat) < signedOf nb (mb <<< (eb - e).toNat))

def FV.scale2 (v : FV) (k : Int) : FV :=
  match v with
  | .fin n m e => .fin n m (e + k)
  | v => v

/-- FP32 operations, each rounded once to nearest even. -/
def f32Add (x y : W32) : W32 := toF32 ((ofF32 x).add (ofF32 y))
def f32Sub (x y : W32) : W32 := toF32 ((ofF32 x).add (ofF32 y).neg)
def f32Mul (x y : W32) : W32 := toF32 ((ofF32 x).mul (ofF32 y))
def f32Fma (x y z : W32) : W32 := toF32 (((ofF32 x).mul (ofF32 y)).add (ofF32 z))
def f32Div (x y : W32) : W32 := toF32 ((ofF32 x).div (ofF32 y))
def f32Sqrt (x : W32) : W32 := toF32 (ofF32 x).sqrt
def f32Lt (x y : W32) : Bool := (ofF32 x).lt (ofF32 y)
def f32Neg (x : W32) : W32 := if f32IsNan x then f32Nan else x ^^^ 0x80000000#32
def f32Abs (x : W32) : W32 := if f32IsNan x then f32Nan else x &&& 0x7FFFFFFF#32

/-- An integer as an exact value. -/
def FV.ofInt (i : Int) : FV := .fin (decide (i < 0)) i.natAbs 0

/-- ⌊log₂|x|⌋ of a finite nonzero value, subnormals at their true exponent (R119). -/
def FV.log2Floor : FV → Int
  | .fin _ m e => (Nat.log2 m : Int) + e
  | _ => 0

/-- A finite value rounded to an integer (R114). -/
def FV.toIntR (r : Rounding) : FV → Int
  | .fin neg m e => signedOf neg (if e ≥ 0 then m <<< e.toNat else roundShift r m (-e).toNat)
  | _ => 0

/-- The value that a stored element of a format code stands for under a scaling mode, before scales
(R105, R109): under mode 2 the integers carry their implied factors. -/
def elemValue (fmt mode q : Nat) : FV :=
  match fmtOf fmt with
  | some f => f.decode q
  | none =>
    if fmt = 8 then (FV.ofInt (toInt 8 q)).scale2 (if mode = 2 then -6 else 0)
    else if fmt = 9 then (FV.ofInt (toInt 4 q)).scale2 (if mode = 2 then -2 else 0)
    else .nan

/-- R109: the factor of an E8M0 byte; 0xFF is NaN. -/
def e8m0 (b : Nat) : FV := if b % 256 = 255 then .nan else .fin false 1 (((b % 256 : Nat) : Int) - 127)

/-- R114, R115: an FP32 value in a target format and scaling mode. The second component says that the
conversion counts as non-finite (R116), the third that a finite value saturated. INT8 and INT4 keep their least integer
under mode 2 too (DESIGN CHOICE, log 76). -/
def convertElem (fmt mode : Nat) (r : Rounding) (v : FV) : Nat × Bool × Bool :=
  match fmtOf fmt with
  | some f =>
    let sgn (neg : Bool) (x : Nat) := b2n neg * 2 ^ (f.ebits + f.mbits) + x
    let maxPat (neg : Bool) := f.pack neg f.maxFin.1 f.maxFin.2
    let infPat (neg : Bool) := sgn neg ((2 ^ f.ebits - 1) * 2 ^ f.mbits)
    match v with
    | .nan => (f.canonNaN, true, false)
    | .inf neg =>
      (if fmt = 4 ∨ fmt ≤ 2 then infPat neg else maxPat neg, true, false)
    | .fin neg m e =>
      if fmt = 0 then
        let (x, o) := f.encodeFin .rne .toInf neg m e
        (x, o, false)
      else if fmt ≤ 2 then
        let (x, o) := f.encodeFin r .toInf neg m e
        (x, o, false)
      else
        let (x, o) := f.encodeFin r .toMax neg m e
        (x, false, o)
  | none =>
    let w := if fmt = 8 then 8 else 4
    let lo : Int := -(2 ^ (w - 1) : Nat)
    let hi : Int := (2 ^ (w - 1) : Nat) - 1
    match v with
    | .nan => (0, true, false)
    | .inf neg => (ofInt w (if neg then lo else hi), true, false)
    | .fin _ _ _ =>
      let v' := if mode = 2 then v.scale2 (if fmt = 8 then 6 else 2) else v
      let i := v'.toIntR r
      if i < lo then (ofInt w lo, false, true)
      else if i > hi then (ofInt w hi, false, true)
      else (ofInt w i, false, false)

/-- R110: emax of an element format. -/
def emaxOf : Nat → Int
  | 3 => 8 | 4 => 15 | 5 => 4 | 6 => 2 | 7 => 2 | _ => 0

/-- R110: the shared exponent of a mode-2 block and its E8M0 byte. `none` as exponent: all elements zero. -/
def mxBlockScale (fmt : Nat) (vs : List FV) : Option Int × Nat :=
  if vs.any (fun v => match v with | .fin _ _ _ => false | _ => true) then (none, 255)
  else
    match vs.filter (fun v => !v.isZero) with
    | [] => (some (-127), 0)
    | nz =>
      let top := nz.foldl (fun a v => max a v.log2Floor) (-100000)
      let x := max (-127) (min 127 (top - emaxOf fmt))
      (some x, (x + 127).toNat)

/-- R110: a block encoded in mode 2: its E8M0 byte, its elements, and the non-finite and saturated flags. -/
def mxEncode (fmt : Nat) (vs : List (FV × Rounding)) : Nat × List Nat × Bool × Bool :=
  match mxBlockScale fmt (vs.map (·.1)) with
  | (none, b) => (b, vs.map (fun _ => 0), true, false)
  | (some x, b) =>
    let es := vs.map (fun p => convertElem fmt 2 p.2 (p.1.scale2 (-x)))
    (b, es.map (·.1), es.any (·.2.1), es.any (·.2.2))

/-! ### Rows of packed elements (R108) -/

/-- The bits of a row of elements of width w, packed from bit 0. -/
def packElems (w : Nat) : List Nat → Nat
  | [] => 0
  | q :: t => q % 2 ^ w + 2 ^ w * packElems w t

/-- R108: the bytes of a packed row, unused bits zero. -/
def packRow (w : Nat) (qs : List Nat) : List Byte :=
  leBytes (ceilDiv (w * qs.length) 8) (packElems w qs)

/-- Element i of a packed row. -/
def elemAt (w i : Nat) (row : Nat) : Nat := bits row (w * i) w

/-- The elements of a packed row. -/
def unpackRow (w n : Nat) (row : List Byte) : List Nat :=
  let x := leVal row
  (List.range n).map (fun i => elemAt w i x)

/-! ### BS16 (R117, R118) -/

/-- R118: encode at an agreed exponent: m = RNE(x * 2^(15 - G)), not yet limited to 16 bits. -/
def bs16Mant (g : Int) (x : W32) : Int := ((ofF32 x).scale2 (15 - g)).toIntR .rne

/-- R118: decode a mantissa at exponent G. -/
def bs16Value (g : Int) (m : Nat) : W32 :=
  let i := toInt 16 m
  if i = 0 then 0 else toF32 ((FV.ofInt i).scale2 (g - 15))

/-- R117, R118: the 32 FP32 values of a 66-byte group. -/
def bs16Decode (grp : List Byte) : List W32 :=
  let g := toInt 8 (fieldAt grp 0x40 1)
  let fl := fieldAt grp 0x41 1
  (List.range 32).map fun i =>
    if bit fl 0 || bit fl 1 then f32Nan else bs16Value g (fieldAt grp (2 * i) 2)

end Sys2Proof.Machine
end

