-- ==== Sys2Proof/Machine/Approx.lean ====
section
/-!
DEFINITION. The vector engine's functions of a real variable (R134, R135): their exact values to some 100 bits below the
point, and the results that their tolerances allow. Which of these the hardware gives is a free value.
-/

namespace Sys2Proof.Machine

/-! ### Fixed point with 128 places -/

def fxOne : Nat := 2 ^ 128
/-- ln 2, log₂ e and √(2/π), cut off after 128 places. -/
def fxLn2 : Nat := 235865763225513294137944142764154484399
def fxLog2e : Nat := 490923683258796565746369346286093237521
def fxGelu : Nat := 271506046879672464325182014351570923903

/-- Terms of e^y from term n on, y in fixed point. -/
def expTerms : Nat → Nat → Nat → Nat → Nat
  | 0, _, _, _ => 0
  | k + 1, n, y, t => t + expTerms k (n + 1) y (t * y / fxOne / n)

/-- 2^f for a fraction f below 1. -/
def fxExp2 (f : Nat) : Nat := expTerms 36 1 (f * fxLn2 / fxOne) fxOne

/-- Terms z^(2i+1) / (2i+1) of artanh z. -/
def artanhTerms : Nat → Nat → Nat → Nat → Nat
  | 0, _, _, _ => 0
  | k + 1, n, zz, t => t / n + artanhTerms k (n + 2) zz (t * zz / fxOne)

/-- ln m for 1 ≤ m ≤ 2. -/
def fxLn (m : Nat) : Nat :=
  let z := (m - fxOne) * fxOne / (m + fxOne)
  2 * artanhTerms 46 1 (z * z / fxOne) z

/-- A finite value in fixed point, cut off towards zero. -/
def fxOf : FV → Int
  | .fin neg m e => signedOf neg (if e ≥ -128 then m <<< (e + 128).toNat else m >>> (-128 - e).toNat)
  | _ => 0

def fxValue (i : Int) : FV := .fin (decide (i < 0)) i.natAbs (-128)

/-- e^(-x) for x ≥ 0; too small to matter from 128 on. -/
def fxExpNeg (x : Nat) : Nat :=
  if x ≥ 128 * fxOne then 0
  else
    let y := x * fxLog2e / fxOne
    fxOne * fxOne / fxExp2 (y % fxOne) / 2 ^ (y / fxOne)

def fxMul (x y : Int) : Int := x * y / fxOne

/-- σ(x) = 1 ÷ (1 + e^(-x)). -/
def fxSigmoid (x : Int) : Int :=
  let t := fxExpNeg x.natAbs
  ((if x < 0 then t else fxOne) * fxOne / (fxOne + t) : Nat)

def fxTanh (x : Int) : Int :=
  let t := fxExpNeg (2 * x.natAbs)
  signedOf (decide (x < 0)) ((fxOne - t) * fxOne / (fxOne + t))

/-! ### Exact values -/

/-- The tiny value of a sign that an underflow rounds to zero. -/
def tinyValue (neg : Bool) : FV := .fin neg 1 (-400)

/-- Is a finite value at least 2^k in magnitude? -/
def atLeast2 (v : FV) (k : Int) : Bool := !v.isZero && decide (v.log2Floor ≥ k)

/-- 2^x. -/
def exp2Value (x : FV) : FV :=
  if atLeast2 x 9 then (if x.isNeg then tinyValue false else .inf false)
  else
    let i := fxOf x
    .fin false (fxExp2 (i % fxOne).toNat) (i / fxOne - 128)

/-- log₂ (m * 2^e), m nonzero. -/
def log2Value (m : Nat) (e : Int) : FV :=
  let k := Nat.log2 m
  fxValue ((k + e) * fxOne + (fxLn (m * fxOne / 2 ^ k) * fxLog2e / fxOne : Nat))

/-- R135: u = √(2/π)(x + 0.044715 x³), and its derivative in x. -/
def geluArg (x : Int) : Int := fxMul fxGelu (x + fxMul (fxMul x x) x * 44715 / 1000000)
def geluSlope (x : Int) : Int := fxMul fxGelu (fxOne + fxMul x x * 134145 / 1000000)

/-- R135: f(x) by AUX 1 to 5, x finite and nonzero. -/
def actValue (aux : Nat) (x : FV) : FV :=
  let i := fxOf x
  if atLeast2 x 7 then
    match aux, x.isNeg with
    | 3, false => .fin false 1 0
    | 4, neg => .fin neg 1 0
    | 3, true | 5, true => tinyValue false
    | _, true => tinyValue true
    | _, false => x
  else
    let v : Int := match aux with
      | 1 => fxMul i (fxOne + fxTanh (geluArg i)) / 2
      | 2 => fxMul i (fxSigmoid i)
      | 3 => fxSigmoid i
      | 4 => fxTanh i
      | _ => max i 0 + fxLn (fxOne + fxExpNeg i.natAbs)
    -- GELU, SILU and TANH have the sign of x, however small
    .fin ((aux == 1 || aux == 2 || aux == 4) && x.isNeg) v.natAbs (-128)

/-- R135: f′(x) by AUX 1 to 5, x finite and nonzero. -/
def gradValue (aux : Nat) (x : FV) : FV :=
  let i := fxOf x
  if atLeast2 x 7 then
    match aux, x.isNeg with
    | 1, true | 2, true => tinyValue true
    | 1, false | 2, false | 5, false => .fin false 1 0
    | _, _ => tinyValue false
  else
    fxValue (match aux with
      | 1 =>
        let t := fxTanh (geluArg i)
        (fxOne + t) / 2 + fxMul (fxMul i (fxOne - fxMul t t)) (geluSlope i) / 2
      | 2 => let g := fxSigmoid i; fxMul g (fxOne + fxMul i (fxOne - g))
      | 3 => let g := fxSigmoid i; fxMul g (fxOne - g)
      | 4 => let t := fxTanh i; fxOne - fxMul t t
      | _ => fxSigmoid i)

/-! ### What a tolerance allows -/

def FV.abs : FV → FV
  | .fin _ m e => .fin false m e
  | .inf _ => .inf false
  | .nan => .nan

/-- Is an FP32 result within a tolerance of an exact value? A zero keeps the value's sign (R135). -/
def within (v tol : FV) (r : W32) : Bool :=
  !f32NonFinite r && !tol.lt ((ofF32 r).add v.neg).abs && (!f32IsZero r || (ofF32 r).isNeg == v.isNeg)

/-- n units in the last place of FP32 at a value (R134). -/
def ulps (n : Nat) (v : FV) : FV := .fin false n (max (v.log2Floor - 23) (-149))

/-- R135: a relative error of 2^-18, or an absolute error of 2^-24, whichever is larger. -/
def actTol (v : FV) : FV :=
  let rel := v.abs.scale2 (-18)
  if rel.lt (.fin false 1 (-24)) then .fin false 1 (-24) else rel

/-- R134, R135: the engine's result for operation `op` and selector `aux` at x, where the exact value is v and no FP32 value:
the fixed, undocumented function's, which lies within its tolerance; an overflow gives an infinity. -/
def engineFn (op aux : Nat) (x : W32) (v tol : FV) : W32 :=
  if f32NonFinite (toF32 v) then toF32 v
  else
    let r := Config.vecFn op aux x
    if within v tol r then r else toF32 v

end Sys2Proof.Machine
end

