-- ==== Sys2Proof/Machine/NMap.lean ====
section
/-!
DEFINITION. A finite map from Nat keys, kept as a list in rising key order. Control registers, memory
bytes and every table of the module that is indexed by a number are held in one of these, so that the
state stays plain data.
-/

namespace Sys2Proof.Machine

/-- The value listed under a key. -/
def nfind {α : Type} (k : Nat) : List (Nat × α) → Option α
  | [] => none
  | (k', v) :: t => if k = k' then some v else nfind k t

/-- List a value under a key, in its place. -/
def nset {α : Type} (k : Nat) (v : α) : List (Nat × α) → List (Nat × α)
  | [] => [(k, v)]
  | (k', v') :: t =>
    if k = k' then (k, v) :: t
    else if k < k' then (k, v) :: (k', v') :: t
    else (k', v') :: nset k v t

/-- Take a key out. -/
def nerase {α : Type} (k : Nat) (m : List (Nat × α)) : List (Nat × α) :=
  m.filter (fun p => p.1 != k)

/-- The value under a key, or `d` where none is listed. -/
def ngetD {α : Type} (m : List (Nat × α)) (k : Nat) (d : α) : α := (nfind k m).getD d

/-- Keys rise strictly. -/
def nsorted {α : Type} : List (Nat × α) → Bool
  | [] => true
  | [_] => true
  | (a, _) :: (b, v) :: t => decide (a < b) && nsorted ((b, v) :: t)

end Sys2Proof.Machine
end

