-- ==== Sys2Proof/Machine/Csr.lean ====
section
/-!
DEFINITION. What a control register is: access codes (R9, R10), fields, and the addresses of R5.
-/

namespace Sys2Proof.Machine

/-- The access codes of R9. `sticky` (R10) is a flag beside them. -/
inductive Acc where
  | rw | ro | wo | w1c | w1s | rc | rwl
  deriving DecidableEq, Repr

/-- The dies a register stands on (the register tables and R31). -/
inductive Site where
  | every | comp | hubs | am | notAm
  deriving DecidableEq, Repr

/-- One field of a register table: lowest bit, width, access code, STICKY, reset value. -/
structure FieldDef where
  lo : Nat
  width : Nat
  acc : Acc
  sticky : Bool
  reset : Nat
  deriving DecidableEq, Repr

/-- One register table: block code, dies, the one instance it exists on (if any), offset, stride and
count of an indexed register, and its fields. -/
structure RegDef where
  block : Nat
  site : Site
  inst : Option Nat
  off : Nat
  stride : Nat
  count : Nat
  fields : List FieldDef
  deriving DecidableEq, Repr

/-- A field, named with its register. -/
structure Fld where
  reg : RegDef
  lo : Nat
  width : Nat
  deriving DecidableEq, Repr

/-- R5: the control-register address of a register on a die, instance and index. -/
def RegDef.addr (r : RegDef) (die inst idx : Nat) : Nat :=
  die * 2 ^ 36 + r.block * 2 ^ 28 + inst * 2 ^ 16 + r.off + r.stride * idx

/-- The parts of a control-register address (R5). -/
def csrDie (a : Nat) : Nat := (a / 2 ^ 36) % 16
def csrBlock (a : Nat) : Nat := (a / 2 ^ 28) % 256
def csrInst (a : Nat) : Nat := (a / 2 ^ 16) % 4096
def csrOff (a : Nat) : Nat := a % 2 ^ 16

/-- The index at which an offset falls in a register (0 for a register that is not indexed). -/
def RegDef.index? (r : RegDef) (off : Nat) : Option Nat :=
  if off < r.off then none
  else if r.stride = 0 then (if off = r.off then some 0 else none)
  else if (off - r.off) % r.stride = 0 ∧ (off - r.off) / r.stride < r.count then
    some ((off - r.off) / r.stride)
  else none

/-- A hub (die codes 0x0, 0x1) and a compute die (0x4 to 0x7), R1. -/
def isHub (d : Nat) : Bool := d == 0 || d == 1
def isComp (d : Nat) : Bool := d == 4 || d == 5 || d == 6 || d == 7
def isDie (d : Nat) : Bool := isHub d || isComp d

/-- Whether a register of this site stands on the die. -/
def Site.on : Site → Nat → Bool
  | .every, d => isDie d
  | .comp, d => isComp d
  | .hubs, d => isHub d
  | .am, d => d == 0
  | .notAm, d => isDie d && d != 0

/-- The value of the fields' reset values together (R10's Reset column). -/
def RegDef.resetBits (r : RegDef) : Nat :=
  r.fields.foldl (fun n f => n + f.reset * 2 ^ f.lo) 0

end Sys2Proof.Machine
end

