-- ==== Sys2Proof/Machine/Regs.lean ====
section
/-!
DEFINITION. Every control register of the module: its block, the dies it stands on, its offset and
its fields with their access codes and reset values, as the register tables of spec/ give them
(R33, R73, R104, R126, R151, R174 to R177, R208 to R210, R225, R243 to R245, R271 to R273, R292, R304,
R318, R335, R336, R354, R365, R390 to R392, R405, R419, R448 to R450). One RegDef per register, one Fld per field.
-/

namespace Sys2Proof.Machine.R
open Sys2Proof.Machine

/-! ### Block ID (code 0x0) -/

/-- R33: ID_PART. -/
def ID_PART : RegDef :=
  ⟨0x0, .every, none, 0x0, 0, 1,
   [⟨0, 16, .ro, false, 0xa4c⟩, ⟨16, 16, .ro, false, 0x41⟩, ⟨32, 8, .ro, false, 0x0⟩, ⟨40, 8, .ro, false, 0x2⟩, ⟨48, 8, .ro, false, 0x2⟩]⟩
def ID_PART_VENDOR : Fld := ⟨ID_PART, 0, 16⟩
def ID_PART_PART : Fld := ⟨ID_PART, 16, 16⟩
def ID_PART_STEPPING : Fld := ⟨ID_PART, 32, 8⟩
def ID_PART_OCT_MAX : Fld := ⟨ID_PART, 40, 8⟩
def ID_PART_OPP_MAX : Fld := ⟨ID_PART, 48, 8⟩
/-- R33: ID_DIE. -/
def ID_DIE : RegDef :=
  ⟨0x0, .every, none, 0x8, 0, 1,
   [⟨0, 4, .ro, false, 0x0⟩, ⟨4, 4, .ro, false, 0x0⟩, ⟨8, 1, .ro, false, 0x0⟩, ⟨16, 2, .ro, false, 0x0⟩, ⟨18, 1, .ro, false, 0x0⟩, ⟨19, 2, .ro, false, 0x0⟩]⟩
def ID_DIE_DIE_CODE : Fld := ⟨ID_DIE, 0, 4⟩
def ID_DIE_DIE_KIND : Fld := ⟨ID_DIE, 4, 4⟩
def ID_DIE_EXCLUDED : Fld := ⟨ID_DIE, 8, 1⟩
def ID_DIE_PARTITION : Fld := ⟨ID_DIE, 16, 2⟩
def ID_DIE_PARTITION_VALID : Fld := ⟨ID_DIE, 18, 1⟩
def ID_DIE_PARTITION_COUNT : Fld := ⟨ID_DIE, 19, 2⟩
/-- R33: ID_UNITS. -/
def ID_UNITS : RegDef :=
  ⟨0x0, .every, none, 0x10, 0, 1,
   [⟨0, 32, .ro, false, 0x0⟩, ⟨32, 8, .ro, false, 0x0⟩, ⟨40, 8, .ro, false, 0x0⟩]⟩
def ID_UNITS_MC_PRESENT : Fld := ⟨ID_UNITS, 0, 32⟩
def ID_UNITS_STACK_PRESENT : Fld := ⟨ID_UNITS, 32, 8⟩
def ID_UNITS_PEER_PRESENT : Fld := ⟨ID_UNITS, 40, 8⟩
/-! ### Block STREAM (code 0x1) -/

/-- R73: STREAM_STATUS. -/
def STREAM_STATUS : RegDef :=
  ⟨0x1, .am, none, 0x0, 0, 1,
   [⟨0, 16, .ro, false, 0x0⟩, ⟨16, 2, .ro, false, 0x0⟩, ⟨18, 1, .ro, false, 0x0⟩, ⟨19, 1, .ro, false, 0x0⟩, ⟨20, 1, .ro, false, 0x0⟩, ⟨32, 32, .ro, false, 0x0⟩]⟩
def STREAM_STATUS_FORMAT : Fld := ⟨STREAM_STATUS, 0, 16⟩
def STREAM_STATUS_SOURCE : Fld := ⟨STREAM_STATUS, 16, 2⟩
def STREAM_STATUS_GLOBAL_APPLIED : Fld := ⟨STREAM_STATUS, 18, 1⟩
def STREAM_STATUS_PARTIAL_LOADED : Fld := ⟨STREAM_STATUS, 19, 1⟩
def STREAM_STATUS_CSR_MODIFIED : Fld := ⟨STREAM_STATUS, 20, 1⟩
def STREAM_STATUS_STREAM_ID : Fld := ⟨STREAM_STATUS, 32, 32⟩
/-- R73: STREAM_BOOT. -/
def STREAM_BOOT : RegDef :=
  ⟨0x1, .am, none, 0x8, 0, 1,
   [⟨0, 2, .rw, true, 0x0⟩]⟩
def STREAM_BOOT_NEXT_SOURCE : Fld := ⟨STREAM_BOOT, 0, 2⟩
/-- R73: STREAM_ERROR. -/
def STREAM_ERROR : RegDef :=
  ⟨0x1, .am, none, 0x10, 0, 1,
   [⟨0, 8, .ro, false, 0x0⟩, ⟨8, 8, .ro, false, 0x0⟩, ⟨16, 16, .ro, false, 0x0⟩, ⟨32, 32, .ro, false, 0x0⟩]⟩
def STREAM_ERROR_STATUS : Fld := ⟨STREAM_ERROR, 0, 8⟩
def STREAM_ERROR_REGION : Fld := ⟨STREAM_ERROR, 8, 8⟩
def STREAM_ERROR_RECORD_INDEX : Fld := ⟨STREAM_ERROR, 16, 16⟩
def STREAM_ERROR_BYTE_OFFSET : Fld := ⟨STREAM_ERROR, 32, 32⟩
/-- R73: STREAM_DRAIN_LIMIT. -/
def STREAM_DRAIN_LIMIT : RegDef :=
  ⟨0x1, .am, none, 0x18, 0, 1,
   [⟨0, 24, .rw, false, 0x5f5e1⟩]⟩
def STREAM_DRAIN_LIMIT_LIMIT : Fld := ⟨STREAM_DRAIN_LIMIT, 0, 24⟩
/-- R73: STREAM_RWL_REJECTS. -/
def STREAM_RWL_REJECTS : RegDef :=
  ⟨0x1, .am, none, 0x20, 0, 1,
   [⟨0, 32, .rc, false, 0x0⟩]⟩
def STREAM_RWL_REJECTS_COUNT : Fld := ⟨STREAM_RWL_REJECTS, 0, 32⟩
/-- R73: STREAM_DIGEST. -/
def STREAM_DIGEST : RegDef :=
  ⟨0x1, .am, none, 0x40, 8, 6,
   [⟨0, 64, .ro, false, 0x0⟩]⟩
def STREAM_DIGEST_DIGEST : Fld := ⟨STREAM_DIGEST, 0, 64⟩
/-- R73: STREAM_REGION. -/
def STREAM_REGION : RegDef :=
  ⟨0x1, .am, none, 0x100, 8, 36,
   [⟨0, 3, .ro, false, 0x2⟩, ⟨3, 1, .ro, false, 0x0⟩, ⟨4, 1, .ro, false, 0x0⟩, ⟨8, 8, .ro, false, 0x0⟩, ⟨16, 32, .ro, false, 0x0⟩, ⟨48, 16, .ro, false, 0x0⟩]⟩
def STREAM_REGION_STATE : Fld := ⟨STREAM_REGION, 0, 3⟩
def STREAM_REGION_MODIFIED : Fld := ⟨STREAM_REGION, 3, 1⟩
def STREAM_REGION_FROM_PARTIAL : Fld := ⟨STREAM_REGION, 4, 1⟩
def STREAM_REGION_LAST_STATUS : Fld := ⟨STREAM_REGION, 8, 8⟩
def STREAM_REGION_LOAD_ID : Fld := ⟨STREAM_REGION, 16, 32⟩
def STREAM_REGION_LOAD_COUNT : Fld := ⟨STREAM_REGION, 48, 16⟩
/-- R73: STREAM_LOCAL. -/
def STREAM_LOCAL : RegDef :=
  ⟨0x1, .notAm, none, 0x0, 0, 1,
   [⟨0, 3, .ro, false, 0x2⟩, ⟨8, 3, .ro, false, 0x2⟩, ⟨32, 32, .ro, false, 0x0⟩]⟩
def STREAM_LOCAL_STATE_A : Fld := ⟨STREAM_LOCAL, 0, 3⟩
def STREAM_LOCAL_STATE_B : Fld := ⟨STREAM_LOCAL, 8, 3⟩
def STREAM_LOCAL_STREAM_ID : Fld := ⟨STREAM_LOCAL, 32, 32⟩
/-- R419: STREAM_DAYBREAK. -/
def STREAM_DAYBREAK : RegDef :=
  ⟨0x1, .am, none, 0x28, 0, 1,
   [⟨0, 4, .ro, false, 0x0⟩, ⟨4, 1, .ro, false, 0x0⟩, ⟨5, 1, .ro, false, 0x0⟩, ⟨6, 1, .ro, false, 0x0⟩, ⟨7, 1, .wo, false, 0x0⟩, ⟨8, 1, .ro, false, 0x0⟩, ⟨12, 4, .ro, false, 0x0⟩, ⟨32, 32, .ro, false, 0x0⟩]⟩
def STREAM_DAYBREAK_STEP : Fld := ⟨STREAM_DAYBREAK, 0, 4⟩
def STREAM_DAYBREAK_DONE : Fld := ⟨STREAM_DAYBREAK, 4, 1⟩
def STREAM_DAYBREAK_WAITING : Fld := ⟨STREAM_DAYBREAK, 5, 1⟩
def STREAM_DAYBREAK_RECOVERY : Fld := ⟨STREAM_DAYBREAK, 6, 1⟩
def STREAM_DAYBREAK_GO : Fld := ⟨STREAM_DAYBREAK, 7, 1⟩
def STREAM_DAYBREAK_DEGRADED : Fld := ⟨STREAM_DAYBREAK, 8, 1⟩
def STREAM_DAYBREAK_FIRST_FAIL : Fld := ⟨STREAM_DAYBREAK, 12, 4⟩
def STREAM_DAYBREAK_DONE_AT : Fld := ⟨STREAM_DAYBREAK, 32, 32⟩
/-! ### Block MXC (code 0x10) -/

/-- R104: MXC_STATUS. -/
def MXC_STATUS : RegDef :=
  ⟨0x10, .comp, none, 0x0, 0, 1,
   [⟨0, 2, .ro, false, 0x0⟩, ⟨2, 2, .ro, false, 0x0⟩, ⟨4, 5, .ro, false, 0x0⟩, ⟨9, 5, .ro, false, 0x0⟩, ⟨14, 1, .ro, false, 0x0⟩, ⟨15, 1, .ro, false, 0x0⟩, ⟨16, 6, .ro, false, 0x0⟩, ⟨22, 1, .ro, false, 0x0⟩, ⟨23, 2, .ro, false, 0x0⟩]⟩
def MXC_STATUS_RUN : Fld := ⟨MXC_STATUS, 0, 2⟩
def MXC_STATUS_UNIT : Fld := ⟨MXC_STATUS, 2, 2⟩
def MXC_STATUS_AWAKE : Fld := ⟨MXC_STATUS, 4, 5⟩
def MXC_STATUS_LEAD : Fld := ⟨MXC_STATUS, 9, 5⟩
def MXC_STATUS_PAUSED : Fld := ⟨MXC_STATUS, 14, 1⟩
def MXC_STATUS_LOCKED : Fld := ⟨MXC_STATUS, 15, 1⟩
def MXC_STATUS_LOCK_CTX : Fld := ⟨MXC_STATUS, 16, 6⟩
def MXC_STATUS_FAULTED : Fld := ⟨MXC_STATUS, 22, 1⟩
def MXC_STATUS_HELD : Fld := ⟨MXC_STATUS, 23, 2⟩
/-- R104: MXC_CTRL. -/
def MXC_CTRL : RegDef :=
  ⟨0x10, .comp, none, 0x8, 0, 1,
   [⟨0, 1, .rw, false, 0x0⟩, ⟨1, 1, .wo, false, 0x0⟩]⟩
def MXC_CTRL_PAUSE : Fld := ⟨MXC_CTRL, 0, 1⟩
def MXC_CTRL_TOKEN_CLEAR : Fld := ⟨MXC_CTRL, 1, 1⟩
/-- R104: MXC_POWER. -/
def MXC_POWER : RegDef :=
  ⟨0x10, .comp, none, 0x10, 0, 1,
   [⟨0, 16, .rwl, false, 0x800⟩]⟩
def MXC_POWER_HOLD : Fld := ⟨MXC_POWER, 0, 16⟩
/-- R104: MXC_LOCK_LIMIT. -/
def MXC_LOCK_LIMIT : RegDef :=
  ⟨0x10, .comp, none, 0x18, 0, 1,
   [⟨0, 24, .rw, false, 0xa4d⟩]⟩
def MXC_LOCK_LIMIT_LIMIT : Fld := ⟨MXC_LOCK_LIMIT, 0, 24⟩
/-- R104: MXC_ERROR. -/
def MXC_ERROR : RegDef :=
  ⟨0x10, .comp, none, 0x20, 0, 1,
   [⟨0, 8, .ro, false, 0x0⟩, ⟨8, 6, .ro, false, 0x0⟩, ⟨16, 16, .ro, false, 0x0⟩, ⟨32, 1, .w1c, false, 0x0⟩, ⟨33, 1, .w1c, true, 0x0⟩, ⟨34, 1, .w1c, true, 0x0⟩, ⟨35, 1, .w1c, false, 0x0⟩, ⟨36, 1, .w1c, false, 0x0⟩, ⟨37, 1, .w1c, false, 0x0⟩]⟩
def MXC_ERROR_STATUS : Fld := ⟨MXC_ERROR, 0, 8⟩
def MXC_ERROR_CONTEXT : Fld := ⟨MXC_ERROR, 8, 6⟩
def MXC_ERROR_TAG : Fld := ⟨MXC_ERROR, 16, 16⟩
def MXC_ERROR_DESC_FAIL : Fld := ⟨MXC_ERROR, 32, 1⟩
def MXC_ERROR_ACC_ECC_UNCORR : Fld := ⟨MXC_ERROR, 33, 1⟩
def MXC_ERROR_FEED_PARITY : Fld := ⟨MXC_ERROR, 34, 1⟩
def MXC_ERROR_QCFG : Fld := ⟨MXC_ERROR, 35, 1⟩
def MXC_ERROR_LOCK_BROKEN : Fld := ⟨MXC_ERROR, 36, 1⟩
def MXC_ERROR_FUSED_DOORBELL : Fld := ⟨MXC_ERROR, 37, 1⟩
/-- R104: MXC_BEATS. -/
def MXC_BEATS : RegDef :=
  ⟨0x10, .comp, none, 0x40, 0, 1,
   [⟨0, 48, .ro, false, 0x0⟩]⟩
def MXC_BEATS_COUNT : Fld := ⟨MXC_BEATS, 0, 48⟩
/-- R104: MXC_FILLERS. -/
def MXC_FILLERS : RegDef :=
  ⟨0x10, .comp, none, 0x48, 0, 1,
   [⟨0, 48, .ro, false, 0x0⟩]⟩
def MXC_FILLERS_COUNT : Fld := ⟨MXC_FILLERS, 0, 48⟩
/-- R104: MXC_STARVED. -/
def MXC_STARVED : RegDef :=
  ⟨0x10, .comp, none, 0x50, 0, 1,
   [⟨0, 48, .ro, false, 0x0⟩]⟩
def MXC_STARVED_COUNT : Fld := ⟨MXC_STARVED, 0, 48⟩
/-- R104: MXC_DESCS. -/
def MXC_DESCS : RegDef :=
  ⟨0x10, .comp, none, 0x58, 0, 1,
   [⟨0, 48, .ro, false, 0x0⟩]⟩
def MXC_DESCS_COUNT : Fld := ⟨MXC_DESCS, 0, 48⟩
/-- R104: MXC_ECC_CORR. -/
def MXC_ECC_CORR : RegDef :=
  ⟨0x10, .comp, none, 0x60, 0, 1,
   [⟨0, 48, .ro, false, 0x0⟩]⟩
def MXC_ECC_CORR_COUNT : Fld := ⟨MXC_ECC_CORR, 0, 48⟩
/-- R104: MXC_TOKEN. -/
def MXC_TOKEN : RegDef :=
  ⟨0x10, .comp, none, 0x100, 8, 16,
   [⟨0, 16, .rw, false, 0x0⟩]⟩
def MXC_TOKEN_COUNT : Fld := ⟨MXC_TOKEN, 0, 16⟩
/-- R104: MXC_QBASE. -/
def MXC_QBASE : RegDef :=
  ⟨0x10, .comp, none, 0x1000, 64, 64,
   [⟨0, 48, .rw, false, 0x0⟩]⟩
def MXC_QBASE_BASE : Fld := ⟨MXC_QBASE, 0, 48⟩
/-- R104: MXC_CQBASE. -/
def MXC_CQBASE : RegDef :=
  ⟨0x10, .comp, none, 0x1008, 64, 64,
   [⟨0, 48, .rw, false, 0x0⟩]⟩
def MXC_CQBASE_BASE : Fld := ⟨MXC_CQBASE, 0, 48⟩
/-- R104: MXC_QCFG. -/
def MXC_QCFG : RegDef :=
  ⟨0x10, .comp, none, 0x1010, 64, 64,
   [⟨0, 1, .rw, false, 0x0⟩, ⟨1, 5, .rw, false, 0x0⟩, ⟨6, 1, .ro, false, 0x0⟩, ⟨7, 1, .wo, false, 0x0⟩]⟩
def MXC_QCFG_ENABLE : Fld := ⟨MXC_QCFG, 0, 1⟩
def MXC_QCFG_SIZE_LOG2 : Fld := ⟨MXC_QCFG, 1, 5⟩
def MXC_QCFG_STOPPED : Fld := ⟨MXC_QCFG, 6, 1⟩
def MXC_QCFG_RESUME : Fld := ⟨MXC_QCFG, 7, 1⟩
/-- R104: MXC_QTAIL. -/
def MXC_QTAIL : RegDef :=
  ⟨0x10, .comp, none, 0x1018, 64, 64,
   [⟨0, 16, .rw, false, 0x0⟩]⟩
def MXC_QTAIL_TAIL : Fld := ⟨MXC_QTAIL, 0, 16⟩
/-- R104: MXC_QHEAD. -/
def MXC_QHEAD : RegDef :=
  ⟨0x10, .comp, none, 0x1020, 64, 64,
   [⟨0, 16, .ro, false, 0x0⟩]⟩
def MXC_QHEAD_HEAD : Fld := ⟨MXC_QHEAD, 0, 16⟩
/-- R104: MXC_CQHEAD. -/
def MXC_CQHEAD : RegDef :=
  ⟨0x10, .comp, none, 0x1028, 64, 64,
   [⟨0, 16, .rw, false, 0x0⟩]⟩
def MXC_CQHEAD_HEAD : Fld := ⟨MXC_CQHEAD, 0, 16⟩
/-- R104: MXC_CQTAIL. -/
def MXC_CQTAIL : RegDef :=
  ⟨0x10, .comp, none, 0x1030, 64, 64,
   [⟨0, 16, .ro, false, 0x0⟩]⟩
def MXC_CQTAIL_TAIL : Fld := ⟨MXC_CQTAIL, 0, 16⟩
/-! ### Block STEP (code 0x63) -/

/-- R126: STEP_FMT_CFG. -/
def STEP_FMT_CFG : RegDef :=
  ⟨0x63, .am, none, 0x800, 8, 4,
   [⟨0, 13, .rw, false, 0x0⟩, ⟨13, 1, .rw, false, 0x1⟩, ⟨14, 1, .rw, false, 0x0⟩, ⟨16, 5, .rw, false, 0xf⟩, ⟨21, 5, .rw, false, 0x1e⟩, ⟨26, 4, .rw, false, 0xa⟩, ⟨32, 8, .rw, false, 0x10⟩]⟩
def STEP_FMT_CFG_LAYERS : Fld := ⟨STEP_FMT_CFG, 0, 13⟩
def STEP_FMT_CFG_CHOOSE_EN : Fld := ⟨STEP_FMT_CFG, 13, 1⟩
def STEP_FMT_CFG_LSCALE_EN : Fld := ⟨STEP_FMT_CFG, 14, 1⟩
def STEP_FMT_CFG_D4 : Fld := ⟨STEP_FMT_CFG, 16, 5⟩
def STEP_FMT_CFG_D5 : Fld := ⟨STEP_FMT_CFG, 21, 5⟩
def STEP_FMT_CFG_TL : Fld := ⟨STEP_FMT_CFG, 26, 4⟩
def STEP_FMT_CFG_NARROW_AFTER : Fld := ⟨STEP_FMT_CFG, 32, 8⟩
/-- R126: STEP_FMT_BASE. -/
def STEP_FMT_BASE : RegDef :=
  ⟨0x63, .am, none, 0x820, 8, 4,
   [⟨0, 48, .rw, false, 0x0⟩]⟩
def STEP_FMT_BASE_BASE : Fld := ⟨STEP_FMT_BASE, 0, 48⟩
/-- R126: STEP_MON_BASE. -/
def STEP_MON_BASE : RegDef :=
  ⟨0x63, .am, none, 0x840, 8, 4,
   [⟨0, 48, .rw, false, 0x0⟩]⟩
def STEP_MON_BASE_BASE : Fld := ⟨STEP_MON_BASE, 0, 48⟩
/-- R126: STEP_LSCALE. -/
def STEP_LSCALE : RegDef :=
  ⟨0x63, .am, none, 0x860, 8, 4,
   [⟨0, 32, .rw, false, 0x47800000⟩]⟩
def STEP_LSCALE_SCALE : Fld := ⟨STEP_LSCALE, 0, 32⟩
/-- R126: STEP_LSCALE_CFG. -/
def STEP_LSCALE_CFG : RegDef :=
  ⟨0x63, .am, none, 0x880, 8, 4,
   [⟨0, 8, .rw, false, 0x0⟩, ⟨8, 8, .rw, false, 0x18⟩, ⟨16, 32, .rw, false, 0x7d0⟩]⟩
def STEP_LSCALE_CFG_MIN_LOG2 : Fld := ⟨STEP_LSCALE_CFG, 0, 8⟩
def STEP_LSCALE_CFG_MAX_LOG2 : Fld := ⟨STEP_LSCALE_CFG, 8, 8⟩
def STEP_LSCALE_CFG_GROWTH_INTERVAL : Fld := ⟨STEP_LSCALE_CFG, 16, 32⟩
/-- R126: STEP_LSCALE_RUN. -/
def STEP_LSCALE_RUN : RegDef :=
  ⟨0x63, .am, none, 0x8a0, 8, 4,
   [⟨0, 32, .ro, false, 0x0⟩]⟩
def STEP_LSCALE_RUN_COMMITS : Fld := ⟨STEP_LSCALE_RUN, 0, 32⟩
/-- R126: STEP_FMT_CHANGES. -/
def STEP_FMT_CHANGES : RegDef :=
  ⟨0x63, .am, none, 0x8c0, 8, 4,
   [⟨0, 32, .rc, false, 0x0⟩, ⟨32, 32, .rc, false, 0x0⟩]⟩
def STEP_FMT_CHANGES_NARROWED : Fld := ⟨STEP_FMT_CHANGES, 0, 32⟩
def STEP_FMT_CHANGES_WIDENED : Fld := ⟨STEP_FMT_CHANGES, 32, 32⟩
/-- R243: STEP_CMD. -/
def STEP_CMD : RegDef :=
  ⟨0x63, .am, none, 0x0, 8, 4,
   [⟨0, 4, .wo, false, 0x0⟩]⟩
def STEP_CMD_CMD : Fld := ⟨STEP_CMD, 0, 4⟩
/-- R243: STEP_STATE. -/
def STEP_STATE : RegDef :=
  ⟨0x63, .am, none, 0x20, 8, 4,
   [⟨0, 3, .ro, false, 0x0⟩, ⟨3, 1, .ro, false, 0x0⟩, ⟨4, 1, .ro, false, 0x0⟩, ⟨5, 1, .ro, false, 0x0⟩, ⟨6, 1, .ro, false, 0x0⟩, ⟨8, 8, .ro, false, 0x0⟩, ⟨16, 8, .ro, false, 0x0⟩, ⟨32, 16, .ro, false, 0x0⟩]⟩
def STEP_STATE_PHASE : Fld := ⟨STEP_STATE, 0, 3⟩
def STEP_STATE_DISCARD_PENDING : Fld := ⟨STEP_STATE, 3, 1⟩
def STEP_STATE_VERDICT : Fld := ⟨STEP_STATE, 4, 1⟩
def STEP_STATE_VERDICT_VALID : Fld := ⟨STEP_STATE, 5, 1⟩
def STEP_STATE_CLOSING : Fld := ⟨STEP_STATE, 6, 1⟩
def STEP_STATE_MB_INDEX : Fld := ⟨STEP_STATE, 8, 8⟩
def STEP_STATE_LAST_STATUS : Fld := ⟨STEP_STATE, 16, 8⟩
def STEP_STATE_OUTSTANDING : Fld := ⟨STEP_STATE, 32, 16⟩
/-- R243: STEP_CFG. -/
def STEP_CFG : RegDef :=
  ⟨0x63, .am, none, 0x40, 8, 4,
   [⟨0, 8, .rw, false, 0x1⟩, ⟨8, 1, .rw, false, 0x0⟩, ⟨9, 1, .rw, false, 0x1⟩, ⟨10, 1, .rwl, false, 0x0⟩]⟩
def STEP_CFG_MICRO_BATCHES : Fld := ⟨STEP_CFG, 0, 8⟩
def STEP_CFG_LAYER_MAJOR : Fld := ⟨STEP_CFG, 8, 1⟩
def STEP_CFG_TEL_EN : Fld := ⟨STEP_CFG, 9, 1⟩
def STEP_CFG_POLICY : Fld := ⟨STEP_CFG, 10, 1⟩
/-- R243: STEP_NUMBER. -/
def STEP_NUMBER : RegDef :=
  ⟨0x63, .am, none, 0x60, 8, 4,
   [⟨0, 32, .rw, false, 0x0⟩]⟩
def STEP_NUMBER_NUMBER : Fld := ⟨STEP_NUMBER, 0, 32⟩
/-- R243: STEP_LOSS_ADDR. -/
def STEP_LOSS_ADDR : RegDef :=
  ⟨0x63, .am, none, 0x80, 8, 4,
   [⟨0, 48, .rw, false, 0x0⟩]⟩
def STEP_LOSS_ADDR_ADDR : Fld := ⟨STEP_LOSS_ADDR, 0, 48⟩
/-- R243: STEP_SKIPS. -/
def STEP_SKIPS : RegDef :=
  ⟨0x63, .am, none, 0xa0, 8, 4,
   [⟨0, 32, .ro, false, 0x0⟩, ⟨32, 32, .ro, false, 0x0⟩]⟩
def STEP_SKIPS_TOTAL : Fld := ⟨STEP_SKIPS, 0, 32⟩
def STEP_SKIPS_RUN : Fld := ⟨STEP_SKIPS, 32, 32⟩
/-- R243: STEP_ERROR. -/
def STEP_ERROR : RegDef :=
  ⟨0x63, .am, none, 0xc0, 8, 4,
   [⟨0, 1, .w1c, false, 0x0⟩, ⟨1, 1, .w1c, false, 0x0⟩, ⟨2, 1, .w1c, false, 0x0⟩, ⟨3, 1, .w1c, false, 0x0⟩, ⟨4, 1, .w1c, false, 0x0⟩, ⟨5, 1, .w1c, false, 0x0⟩]⟩
def STEP_ERROR_CMD_REFUSED : Fld := ⟨STEP_ERROR, 0, 1⟩
def STEP_ERROR_BASE_FAULT : Fld := ⟨STEP_ERROR, 1, 1⟩
def STEP_ERROR_VERDICT_TIMEOUT : Fld := ⟨STEP_ERROR, 2, 1⟩
def STEP_ERROR_TABLE_FAULT : Fld := ⟨STEP_ERROR, 3, 1⟩
def STEP_ERROR_COMMIT_FAULT : Fld := ⟨STEP_ERROR, 4, 1⟩
def STEP_ERROR_WRITE_FAULT : Fld := ⟨STEP_ERROR, 5, 1⟩
/-- R243: STEP_VERDICT_LIMIT. -/
def STEP_VERDICT_LIMIT : RegDef :=
  ⟨0x63, .am, none, 0x100, 0, 1,
   [⟨0, 24, .rw, false, 0x3b9aca⟩]⟩
def STEP_VERDICT_LIMIT_LIMIT : Fld := ⟨STEP_VERDICT_LIMIT, 0, 24⟩
/-! ### Block VEC (code 0x11) -/

/-- R151: VEC_STATUS. -/
def VEC_STATUS : RegDef :=
  ⟨0x11, .comp, none, 0x0, 0, 1,
   [⟨0, 1, .ro, false, 0x0⟩, ⟨1, 1, .ro, false, 0x0⟩, ⟨2, 3, .ro, false, 0x0⟩]⟩
def VEC_STATUS_BUSY : Fld := ⟨VEC_STATUS, 0, 1⟩
def VEC_STATUS_ROUTED : Fld := ⟨VEC_STATUS, 1, 1⟩
def VEC_STATUS_PENDING : Fld := ⟨VEC_STATUS, 2, 3⟩
/-- R151: VEC_FLAGS. -/
def VEC_FLAGS : RegDef :=
  ⟨0x11, .comp, none, 0x8, 0, 1,
   [⟨0, 1, .w1c, false, 0x0⟩, ⟨1, 1, .w1c, false, 0x0⟩, ⟨2, 6, .w1c, false, 0x0⟩, ⟨8, 1, .w1c, false, 0x0⟩, ⟨9, 1, .w1c, false, 0x0⟩, ⟨10, 1, .w1c, false, 0x0⟩]⟩
def VEC_FLAGS_NF_ACC0 : Fld := ⟨VEC_FLAGS, 0, 1⟩
def VEC_FLAGS_NF_ACC1 : Fld := ⟨VEC_FLAGS, 1, 1⟩
def VEC_FLAGS_NF_TB : Fld := ⟨VEC_FLAGS, 2, 6⟩
def VEC_FLAGS_NF_OUT : Fld := ⟨VEC_FLAGS, 8, 1⟩
def VEC_FLAGS_NF_ROUTED : Fld := ⟨VEC_FLAGS, 9, 1⟩
def VEC_FLAGS_SAT : Fld := ⟨VEC_FLAGS, 10, 1⟩
/-- R151: VEC_ERROR. -/
def VEC_ERROR : RegDef :=
  ⟨0x11, .comp, none, 0x10, 0, 1,
   [⟨0, 1, .w1c, true, 0x0⟩]⟩
def VEC_ERROR_TB_ECC_UNCORR : Fld := ⟨VEC_ERROR, 0, 1⟩
/-- R151: VEC_RNG_KEY. -/
def VEC_RNG_KEY : RegDef :=
  ⟨0x11, .comp, none, 0x18, 0, 1,
   [⟨0, 64, .rw, false, 0x0⟩]⟩
def VEC_RNG_KEY_KEY : Fld := ⟨VEC_RNG_KEY, 0, 64⟩
/-- R151: VEC_RNG_CTR. -/
def VEC_RNG_CTR : RegDef :=
  ⟨0x11, .comp, none, 0x20, 0, 1,
   [⟨0, 40, .rw, false, 0x0⟩]⟩
def VEC_RNG_CTR_CTR : Fld := ⟨VEC_RNG_CTR, 0, 40⟩
/-- R151: VEC_CHAINS. -/
def VEC_CHAINS : RegDef :=
  ⟨0x11, .comp, none, 0x40, 0, 1,
   [⟨0, 48, .ro, false, 0x0⟩]⟩
def VEC_CHAINS_COUNT : Fld := ⟨VEC_CHAINS, 0, 48⟩
/-- R151: VEC_ROUTED. -/
def VEC_ROUTED : RegDef :=
  ⟨0x11, .comp, none, 0x48, 0, 1,
   [⟨0, 48, .ro, false, 0x0⟩]⟩
def VEC_ROUTED_COUNT : Fld := ⟨VEC_ROUTED, 0, 48⟩
/-- R151: VEC_STALLED. -/
def VEC_STALLED : RegDef :=
  ⟨0x11, .comp, none, 0x50, 0, 1,
   [⟨0, 48, .ro, false, 0x0⟩]⟩
def VEC_STALLED_COUNT : Fld := ⟨VEC_STALLED, 0, 48⟩
/-- R151: VEC_ECC_CORR. -/
def VEC_ECC_CORR : RegDef :=
  ⟨0x11, .comp, none, 0x58, 0, 1,
   [⟨0, 48, .ro, false, 0x0⟩]⟩
def VEC_ECC_CORR_COUNT : Fld := ⟨VEC_ECC_CORR, 0, 48⟩
/-- R151: VEC_OP_LO. -/
def VEC_OP_LO : RegDef :=
  ⟨0x11, .comp, none, 0x1000, 16, 64,
   [⟨0, 64, .rwl, false, 0x0⟩]⟩
def VEC_OP_LO_ENTRY : Fld := ⟨VEC_OP_LO, 0, 64⟩
/-- R151: VEC_OP_HI. -/
def VEC_OP_HI : RegDef :=
  ⟨0x11, .comp, none, 0x1008, 16, 64,
   [⟨0, 64, .rwl, false, 0x0⟩]⟩
def VEC_OP_HI_ENTRY : Fld := ⟨VEC_OP_HI, 0, 64⟩
/-! ### Block SPAD (code 0x12) -/

/-- R174: SPAD_ERROR. -/
def SPAD_ERROR : RegDef :=
  ⟨0x12, .comp, none, 0x0, 0, 1,
   [⟨0, 1, .w1c, true, 0x0⟩, ⟨1, 1, .w1c, false, 0x0⟩, ⟨2, 1, .w1c, false, 0x0⟩, ⟨8, 8, .ro, false, 0x0⟩, ⟨16, 6, .ro, false, 0x0⟩, ⟨32, 16, .ro, false, 0x0⟩]⟩
def SPAD_ERROR_ECC_UNCORR : Fld := ⟨SPAD_ERROR, 0, 1⟩
def SPAD_ERROR_MOVE_FAIL : Fld := ⟨SPAD_ERROR, 1, 1⟩
def SPAD_ERROR_QCFG : Fld := ⟨SPAD_ERROR, 2, 1⟩
def SPAD_ERROR_STATUS : Fld := ⟨SPAD_ERROR, 8, 8⟩
def SPAD_ERROR_CONTEXT : Fld := ⟨SPAD_ERROR, 16, 6⟩
def SPAD_ERROR_TAG : Fld := ⟨SPAD_ERROR, 32, 16⟩
/-- R174: SPAD_ECC_CORR. -/
def SPAD_ECC_CORR : RegDef :=
  ⟨0x12, .comp, none, 0x40, 0, 1,
   [⟨0, 48, .ro, false, 0x0⟩]⟩
def SPAD_ECC_CORR_COUNT : Fld := ⟨SPAD_ECC_CORR, 0, 48⟩
/-- R174: SPAD_CONFLICTS. -/
def SPAD_CONFLICTS : RegDef :=
  ⟨0x12, .comp, none, 0x48, 0, 1,
   [⟨0, 48, .ro, false, 0x0⟩]⟩
def SPAD_CONFLICTS_COUNT : Fld := ⟨SPAD_CONFLICTS, 0, 48⟩
/-- R174: SPAD_MOVED. -/
def SPAD_MOVED : RegDef :=
  ⟨0x12, .comp, none, 0x50, 0, 1,
   [⟨0, 48, .ro, false, 0x0⟩]⟩
def SPAD_MOVED_COUNT : Fld := ⟨SPAD_MOVED, 0, 48⟩
/-- R174: SPAD_QBASE. -/
def SPAD_QBASE : RegDef :=
  ⟨0x12, .comp, none, 0x1000, 64, 64,
   [⟨0, 48, .rw, false, 0x0⟩]⟩
def SPAD_QBASE_BASE : Fld := ⟨SPAD_QBASE, 0, 48⟩
/-- R174: SPAD_CQBASE. -/
def SPAD_CQBASE : RegDef :=
  ⟨0x12, .comp, none, 0x1008, 64, 64,
   [⟨0, 48, .rw, false, 0x0⟩]⟩
def SPAD_CQBASE_BASE : Fld := ⟨SPAD_CQBASE, 0, 48⟩
/-- R174: SPAD_QCFG. -/
def SPAD_QCFG : RegDef :=
  ⟨0x12, .comp, none, 0x1010, 64, 64,
   [⟨0, 1, .rw, false, 0x0⟩, ⟨1, 5, .rw, false, 0x0⟩, ⟨6, 1, .ro, false, 0x0⟩, ⟨7, 1, .wo, false, 0x0⟩]⟩
def SPAD_QCFG_ENABLE : Fld := ⟨SPAD_QCFG, 0, 1⟩
def SPAD_QCFG_SIZE_LOG2 : Fld := ⟨SPAD_QCFG, 1, 5⟩
def SPAD_QCFG_STOPPED : Fld := ⟨SPAD_QCFG, 6, 1⟩
def SPAD_QCFG_RESUME : Fld := ⟨SPAD_QCFG, 7, 1⟩
/-- R174: SPAD_QTAIL. -/
def SPAD_QTAIL : RegDef :=
  ⟨0x12, .comp, none, 0x1018, 64, 64,
   [⟨0, 16, .rw, false, 0x0⟩]⟩
def SPAD_QTAIL_TAIL : Fld := ⟨SPAD_QTAIL, 0, 16⟩
/-- R174: SPAD_QHEAD. -/
def SPAD_QHEAD : RegDef :=
  ⟨0x12, .comp, none, 0x1020, 64, 64,
   [⟨0, 16, .ro, false, 0x0⟩]⟩
def SPAD_QHEAD_HEAD : Fld := ⟨SPAD_QHEAD, 0, 16⟩
/-- R174: SPAD_CQHEAD. -/
def SPAD_CQHEAD : RegDef :=
  ⟨0x12, .comp, none, 0x1028, 64, 64,
   [⟨0, 16, .rw, false, 0x0⟩]⟩
def SPAD_CQHEAD_HEAD : Fld := ⟨SPAD_CQHEAD, 0, 16⟩
/-- R174: SPAD_CQTAIL. -/
def SPAD_CQTAIL : RegDef :=
  ⟨0x12, .comp, none, 0x1030, 64, 64,
   [⟨0, 16, .ro, false, 0x0⟩]⟩
def SPAD_CQTAIL_TAIL : Fld := ⟨SPAD_CQTAIL, 0, 16⟩
/-! ### Block RLC (code 0x13) -/

/-- R175: RLC_STATUS. -/
def RLC_STATUS : RegDef :=
  ⟨0x13, .comp, none, 0x0, 0, 1,
   [⟨0, 1, .ro, false, 0x0⟩, ⟨1, 21, .ro, false, 0x0⟩]⟩
def RLC_STATUS_CACHED : Fld := ⟨RLC_STATUS, 0, 1⟩
def RLC_STATUS_DIR_USED : Fld := ⟨RLC_STATUS, 1, 21⟩
/-- R175: RLC_FAULT_INFO. -/
def RLC_FAULT_INFO : RegDef :=
  ⟨0x13, .comp, none, 0x8, 0, 1,
   [⟨0, 4, .ro, false, 0x0⟩, ⟨8, 8, .ro, false, 0x0⟩, ⟨16, 6, .ro, false, 0x0⟩, ⟨32, 1, .w1c, false, 0x0⟩, ⟨33, 1, .w1c, false, 0x0⟩]⟩
def RLC_FAULT_INFO_KIND : Fld := ⟨RLC_FAULT_INFO, 0, 4⟩
def RLC_FAULT_INFO_REQUESTER : Fld := ⟨RLC_FAULT_INFO, 8, 8⟩
def RLC_FAULT_INFO_CONTEXT : Fld := ⟨RLC_FAULT_INFO, 16, 6⟩
def RLC_FAULT_INFO_VALID : Fld := ⟨RLC_FAULT_INFO, 32, 1⟩
def RLC_FAULT_INFO_MORE : Fld := ⟨RLC_FAULT_INFO, 33, 1⟩
/-- R175: RLC_FAULT_ADDR. -/
def RLC_FAULT_ADDR : RegDef :=
  ⟨0x13, .comp, none, 0x10, 0, 1,
   [⟨0, 48, .ro, false, 0x0⟩]⟩
def RLC_FAULT_ADDR_ADDR : Fld := ⟨RLC_FAULT_ADDR, 0, 48⟩
/-- R175: RLC_HITS. -/
def RLC_HITS : RegDef :=
  ⟨0x13, .comp, none, 0x40, 0, 1,
   [⟨0, 48, .ro, false, 0x0⟩]⟩
def RLC_HITS_COUNT : Fld := ⟨RLC_HITS, 0, 48⟩
/-- R175: RLC_MISSES. -/
def RLC_MISSES : RegDef :=
  ⟨0x13, .comp, none, 0x48, 0, 1,
   [⟨0, 48, .ro, false, 0x0⟩]⟩
def RLC_MISSES_COUNT : Fld := ⟨RLC_MISSES, 0, 48⟩
/-- R175: RLC_INVALS. -/
def RLC_INVALS : RegDef :=
  ⟨0x13, .comp, none, 0x50, 0, 1,
   [⟨0, 48, .ro, false, 0x0⟩]⟩
def RLC_INVALS_COUNT : Fld := ⟨RLC_INVALS, 0, 48⟩
/-- R175: RLC_DIR_EVICTS. -/
def RLC_DIR_EVICTS : RegDef :=
  ⟨0x13, .comp, none, 0x58, 0, 1,
   [⟨0, 48, .ro, false, 0x0⟩]⟩
def RLC_DIR_EVICTS_COUNT : Fld := ⟨RLC_DIR_EVICTS, 0, 48⟩
/-! ### Block HBMC (code 0x20) -/

/-- R176: HBMC_STATUS. -/
def HBMC_STATUS : RegDef :=
  ⟨0x20, .comp, none, 0x0, 0, 1,
   [⟨0, 1, .ro, false, 0x0⟩, ⟨1, 1, .ro, false, 0x0⟩, ⟨2, 1, .ro, false, 0x0⟩, ⟨8, 8, .ro, false, 0x0⟩]⟩
def HBMC_STATUS_TRAINED : Fld := ⟨HBMC_STATUS, 0, 1⟩
def HBMC_STATUS_EXCLUDED : Fld := ⟨HBMC_STATUS, 1, 1⟩
def HBMC_STATUS_HOT : Fld := ⟨HBMC_STATUS, 2, 1⟩
def HBMC_STATUS_TEMP : Fld := ⟨HBMC_STATUS, 8, 8⟩
/-- R176: HBMC_CFG. -/
def HBMC_CFG : RegDef :=
  ⟨0x20, .comp, none, 0x8, 0, 1,
   [⟨0, 1, .rwl, false, 0x1⟩, ⟨8, 8, .rwl, false, 0x18⟩]⟩
def HBMC_CFG_SCRUB_EN : Fld := ⟨HBMC_CFG, 0, 1⟩
def HBMC_CFG_SCRUB_HOURS : Fld := ⟨HBMC_CFG, 8, 8⟩
/-- R176: HBMC_ERROR. -/
def HBMC_ERROR : RegDef :=
  ⟨0x20, .comp, none, 0x10, 0, 1,
   [⟨0, 1, .w1c, true, 0x0⟩, ⟨1, 1, .w1c, true, 0x0⟩, ⟨8, 5, .ro, true, 0x0⟩]⟩
def HBMC_ERROR_UNCORR : Fld := ⟨HBMC_ERROR, 0, 1⟩
def HBMC_ERROR_OVERFLOW : Fld := ⟨HBMC_ERROR, 1, 1⟩
def HBMC_ERROR_CHANNEL : Fld := ⟨HBMC_ERROR, 8, 5⟩
/-- R176: HBMC_ERROR_ADDR. -/
def HBMC_ERROR_ADDR : RegDef :=
  ⟨0x20, .comp, none, 0x18, 0, 1,
   [⟨0, 48, .ro, true, 0x0⟩]⟩
def HBMC_ERROR_ADDR_ADDR : Fld := ⟨HBMC_ERROR_ADDR, 0, 48⟩
/-- R176: HBMC_RD_BYTES. -/
def HBMC_RD_BYTES : RegDef :=
  ⟨0x20, .comp, none, 0x40, 0, 1,
   [⟨0, 48, .ro, false, 0x0⟩]⟩
def HBMC_RD_BYTES_COUNT : Fld := ⟨HBMC_RD_BYTES, 0, 48⟩
/-- R176: HBMC_WR_BYTES. -/
def HBMC_WR_BYTES : RegDef :=
  ⟨0x20, .comp, none, 0x48, 0, 1,
   [⟨0, 48, .ro, false, 0x0⟩]⟩
def HBMC_WR_BYTES_COUNT : Fld := ⟨HBMC_WR_BYTES, 0, 48⟩
/-- R176: HBMC_ECC_CORR. -/
def HBMC_ECC_CORR : RegDef :=
  ⟨0x20, .comp, none, 0x50, 0, 1,
   [⟨0, 48, .ro, false, 0x0⟩]⟩
def HBMC_ECC_CORR_COUNT : Fld := ⟨HBMC_ECC_CORR, 0, 48⟩
/-! ### Block NMA (code 0x21) -/

/-- R177: NMA_STATUS. -/
def NMA_STATUS : RegDef :=
  ⟨0x21, .comp, none, 0x0, 0, 1,
   [⟨0, 1, .ro, false, 0x0⟩]⟩
def NMA_STATUS_OWNER : Fld := ⟨NMA_STATUS, 0, 1⟩
/-- R177: NMA_ADDS. -/
def NMA_ADDS : RegDef :=
  ⟨0x21, .comp, none, 0x40, 0, 1,
   [⟨0, 48, .ro, false, 0x0⟩]⟩
def NMA_ADDS_COUNT : Fld := ⟨NMA_ADDS, 0, 48⟩
/-- R177: NMA_NONFINITE. -/
def NMA_NONFINITE : RegDef :=
  ⟨0x21, .comp, none, 0x48, 0, 1,
   [⟨0, 48, .ro, false, 0x0⟩]⟩
def NMA_NONFINITE_COUNT : Fld := ⟨NMA_NONFINITE, 0, 48⟩
/-- R177: NMA_REFUSED. -/
def NMA_REFUSED : RegDef :=
  ⟨0x21, .comp, none, 0x50, 0, 1,
   [⟨0, 48, .ro, false, 0x0⟩]⟩
def NMA_REFUSED_COUNT : Fld := ⟨NMA_REFUSED, 0, 48⟩
/-! ### Block DEMUX (code 0x30) -/

/-- R208: DEMUX_STATUS. -/
def DEMUX_STATUS : RegDef :=
  ⟨0x30, .hubs, none, 0x0, 0, 1,
   [⟨0, 2, .ro, false, 0x0⟩, ⟨2, 1, .ro, false, 0x0⟩, ⟨8, 8, .ro, false, 0xff⟩]⟩
def DEMUX_STATUS_STATE : Fld := ⟨DEMUX_STATUS, 0, 2⟩
def DEMUX_STATUS_SPILLING : Fld := ⟨DEMUX_STATUS, 2, 1⟩
def DEMUX_STATUS_NODE : Fld := ⟨DEMUX_STATUS, 8, 8⟩
/-- R208: DEMUX_ERROR. -/
def DEMUX_ERROR : RegDef :=
  ⟨0x30, .hubs, none, 0x8, 0, 1,
   [⟨0, 1, .w1c, false, 0x0⟩, ⟨1, 1, .w1c, false, 0x0⟩, ⟨2, 1, .w1c, false, 0x0⟩, ⟨3, 1, .w1c, true, 0x0⟩, ⟨8, 8, .ro, false, 0x0⟩, ⟨16, 16, .ro, false, 0x0⟩, ⟨32, 32, .ro, false, 0x0⟩]⟩
def DEMUX_ERROR_STREAM_ERR : Fld := ⟨DEMUX_ERROR, 0, 1⟩
def DEMUX_ERROR_ITEM_ERR : Fld := ⟨DEMUX_ERROR, 1, 1⟩
def DEMUX_ERROR_ACCESS : Fld := ⟨DEMUX_ERROR, 2, 1⟩
def DEMUX_ERROR_ECC_UNCORR : Fld := ⟨DEMUX_ERROR, 3, 1⟩
def DEMUX_ERROR_LAST_CODE : Fld := ⟨DEMUX_ERROR, 8, 8⟩
def DEMUX_ERROR_LAST_SOURCE : Fld := ⟨DEMUX_ERROR, 16, 16⟩
def DEMUX_ERROR_LAST_ITEM : Fld := ⟨DEMUX_ERROR, 32, 32⟩
/-- R208: DEMUX_IN. -/
def DEMUX_IN : RegDef :=
  ⟨0x30, .hubs, none, 0x40, 0, 1,
   [⟨0, 48, .ro, false, 0x0⟩]⟩
def DEMUX_IN_COUNT : Fld := ⟨DEMUX_IN, 0, 48⟩
/-- R208: DEMUX_OUT. -/
def DEMUX_OUT : RegDef :=
  ⟨0x30, .hubs, none, 0x48, 0, 1,
   [⟨0, 48, .ro, false, 0x0⟩]⟩
def DEMUX_OUT_COUNT : Fld := ⟨DEMUX_OUT, 0, 48⟩
/-- R208: DEMUX_DROPPED. -/
def DEMUX_DROPPED : RegDef :=
  ⟨0x30, .hubs, none, 0x50, 0, 1,
   [⟨0, 48, .ro, false, 0x0⟩]⟩
def DEMUX_DROPPED_COUNT : Fld := ⟨DEMUX_DROPPED, 0, 48⟩
/-- R208: DEMUX_STALL_OUT. -/
def DEMUX_STALL_OUT : RegDef :=
  ⟨0x30, .hubs, none, 0x58, 0, 1,
   [⟨0, 48, .ro, false, 0x0⟩]⟩
def DEMUX_STALL_OUT_COUNT : Fld := ⟨DEMUX_STALL_OUT, 0, 48⟩
/-- R208: DEMUX_STARVED. -/
def DEMUX_STARVED : RegDef :=
  ⟨0x30, .hubs, none, 0x60, 0, 1,
   [⟨0, 48, .ro, false, 0x0⟩]⟩
def DEMUX_STARVED_COUNT : Fld := ⟨DEMUX_STARVED, 0, 48⟩
/-- R208: DEMUX_SPILL. -/
def DEMUX_SPILL : RegDef :=
  ⟨0x30, .hubs, none, 0x68, 0, 1,
   [⟨0, 48, .ro, false, 0x0⟩]⟩
def DEMUX_SPILL_COUNT : Fld := ⟨DEMUX_SPILL, 0, 48⟩
/-- R210: DEMUX_RES_CFG. -/
def DEMUX_RES_CFG : RegDef :=
  ⟨0x30, .hubs, some 0, 0x100, 0, 1,
   [⟨0, 3, .rwl, false, 0x3⟩, ⟨3, 1, .rwl, false, 0x1⟩]⟩
def DEMUX_RES_CFG_PFC_PRIO : Fld := ⟨DEMUX_RES_CFG, 0, 3⟩
def DEMUX_RES_CFG_PFC_EN : Fld := ⟨DEMUX_RES_CFG, 3, 1⟩
/-- R210: DEMUX_RES_STATUS. -/
def DEMUX_RES_STATUS : RegDef :=
  ⟨0x30, .hubs, some 0, 0x108, 0, 1,
   [⟨0, 40, .ro, false, 0x0⟩, ⟨40, 1, .ro, false, 0x0⟩, ⟨41, 1, .ro, false, 0x0⟩]⟩
def DEMUX_RES_STATUS_USED : Fld := ⟨DEMUX_RES_STATUS, 0, 40⟩
def DEMUX_RES_STATUS_ASSERTING : Fld := ⟨DEMUX_RES_STATUS, 40, 1⟩
def DEMUX_RES_STATUS_PRESENT : Fld := ⟨DEMUX_RES_STATUS, 41, 1⟩
/-- R210: DEMUX_DELIV. -/
def DEMUX_DELIV : RegDef :=
  ⟨0x30, .hubs, some 0, 0x200, 8, 8,
   [⟨0, 32, .ro, false, 0x0⟩, ⟨32, 1, .ro, false, 0x0⟩, ⟨33, 1, .w1c, false, 0x0⟩, ⟨34, 1, .w1c, false, 0x0⟩]⟩
def DEMUX_DELIV_PRODUCED : Fld := ⟨DEMUX_DELIV, 0, 32⟩
def DEMUX_DELIV_FULL : Fld := ⟨DEMUX_DELIV, 32, 1⟩
def DEMUX_DELIV_FAULT : Fld := ⟨DEMUX_DELIV, 33, 1⟩
def DEMUX_DELIV_DROPPED : Fld := ⟨DEMUX_DELIV, 34, 1⟩
/-- R210: DEMUX_RES_CHUNKS. -/
def DEMUX_RES_CHUNKS : RegDef :=
  ⟨0x30, .hubs, some 0, 0x110, 0, 1,
   [⟨0, 48, .ro, false, 0x0⟩]⟩
def DEMUX_RES_CHUNKS_COUNT : Fld := ⟨DEMUX_RES_CHUNKS, 0, 48⟩
/-- R210: DEMUX_RES_OVERFLOW. -/
def DEMUX_RES_OVERFLOW : RegDef :=
  ⟨0x30, .hubs, some 0, 0x118, 0, 1,
   [⟨0, 48, .ro, false, 0x0⟩]⟩
def DEMUX_RES_OVERFLOW_COUNT : Fld := ⟨DEMUX_RES_OVERFLOW, 0, 48⟩
/-- R210: DEMUX_RES_UNBOUND. -/
def DEMUX_RES_UNBOUND : RegDef :=
  ⟨0x30, .hubs, some 0, 0x120, 0, 1,
   [⟨0, 48, .ro, false, 0x0⟩]⟩
def DEMUX_RES_UNBOUND_COUNT : Fld := ⟨DEMUX_RES_UNBOUND, 0, 48⟩
/-- R210: DEMUX_RES_XOFF. -/
def DEMUX_RES_XOFF : RegDef :=
  ⟨0x30, .hubs, some 0, 0x128, 0, 1,
   [⟨0, 48, .ro, false, 0x0⟩]⟩
def DEMUX_RES_XOFF_COUNT : Fld := ⟨DEMUX_RES_XOFF, 0, 48⟩
/-! ### Block VDEC (code 0x31) -/

/-- R208: VDEC_STATUS. -/
def VDEC_STATUS : RegDef :=
  ⟨0x31, .hubs, none, 0x0, 0, 1,
   [⟨0, 2, .ro, false, 0x0⟩, ⟨2, 1, .ro, false, 0x0⟩, ⟨8, 8, .ro, false, 0xff⟩]⟩
def VDEC_STATUS_STATE : Fld := ⟨VDEC_STATUS, 0, 2⟩
def VDEC_STATUS_SPILLING : Fld := ⟨VDEC_STATUS, 2, 1⟩
def VDEC_STATUS_NODE : Fld := ⟨VDEC_STATUS, 8, 8⟩
/-- R208: VDEC_ERROR. -/
def VDEC_ERROR : RegDef :=
  ⟨0x31, .hubs, none, 0x8, 0, 1,
   [⟨0, 1, .w1c, false, 0x0⟩, ⟨1, 1, .w1c, false, 0x0⟩, ⟨2, 1, .w1c, false, 0x0⟩, ⟨3, 1, .w1c, true, 0x0⟩, ⟨8, 8, .ro, false, 0x0⟩, ⟨16, 16, .ro, false, 0x0⟩, ⟨32, 32, .ro, false, 0x0⟩]⟩
def VDEC_ERROR_STREAM_ERR : Fld := ⟨VDEC_ERROR, 0, 1⟩
def VDEC_ERROR_ITEM_ERR : Fld := ⟨VDEC_ERROR, 1, 1⟩
def VDEC_ERROR_ACCESS : Fld := ⟨VDEC_ERROR, 2, 1⟩
def VDEC_ERROR_ECC_UNCORR : Fld := ⟨VDEC_ERROR, 3, 1⟩
def VDEC_ERROR_LAST_CODE : Fld := ⟨VDEC_ERROR, 8, 8⟩
def VDEC_ERROR_LAST_SOURCE : Fld := ⟨VDEC_ERROR, 16, 16⟩
def VDEC_ERROR_LAST_ITEM : Fld := ⟨VDEC_ERROR, 32, 32⟩
/-- R208: VDEC_IN. -/
def VDEC_IN : RegDef :=
  ⟨0x31, .hubs, none, 0x40, 0, 1,
   [⟨0, 48, .ro, false, 0x0⟩]⟩
def VDEC_IN_COUNT : Fld := ⟨VDEC_IN, 0, 48⟩
/-- R208: VDEC_OUT. -/
def VDEC_OUT : RegDef :=
  ⟨0x31, .hubs, none, 0x48, 0, 1,
   [⟨0, 48, .ro, false, 0x0⟩]⟩
def VDEC_OUT_COUNT : Fld := ⟨VDEC_OUT, 0, 48⟩
/-- R208: VDEC_DROPPED. -/
def VDEC_DROPPED : RegDef :=
  ⟨0x31, .hubs, none, 0x50, 0, 1,
   [⟨0, 48, .ro, false, 0x0⟩]⟩
def VDEC_DROPPED_COUNT : Fld := ⟨VDEC_DROPPED, 0, 48⟩
/-- R208: VDEC_STALL_OUT. -/
def VDEC_STALL_OUT : RegDef :=
  ⟨0x31, .hubs, none, 0x58, 0, 1,
   [⟨0, 48, .ro, false, 0x0⟩]⟩
def VDEC_STALL_OUT_COUNT : Fld := ⟨VDEC_STALL_OUT, 0, 48⟩
/-- R208: VDEC_STARVED. -/
def VDEC_STARVED : RegDef :=
  ⟨0x31, .hubs, none, 0x60, 0, 1,
   [⟨0, 48, .ro, false, 0x0⟩]⟩
def VDEC_STARVED_COUNT : Fld := ⟨VDEC_STARVED, 0, 48⟩
/-- R208: VDEC_SPILL. -/
def VDEC_SPILL : RegDef :=
  ⟨0x31, .hubs, none, 0x68, 0, 1,
   [⟨0, 48, .ro, false, 0x0⟩]⟩
def VDEC_SPILL_COUNT : Fld := ⟨VDEC_SPILL, 0, 48⟩
/-! ### Block ADEC (code 0x32) -/

/-- R208: ADEC_STATUS. -/
def ADEC_STATUS : RegDef :=
  ⟨0x32, .hubs, none, 0x0, 0, 1,
   [⟨0, 2, .ro, false, 0x0⟩, ⟨2, 1, .ro, false, 0x0⟩, ⟨8, 8, .ro, false, 0xff⟩]⟩
def ADEC_STATUS_STATE : Fld := ⟨ADEC_STATUS, 0, 2⟩
def ADEC_STATUS_SPILLING : Fld := ⟨ADEC_STATUS, 2, 1⟩
def ADEC_STATUS_NODE : Fld := ⟨ADEC_STATUS, 8, 8⟩
/-- R208: ADEC_ERROR. -/
def ADEC_ERROR : RegDef :=
  ⟨0x32, .hubs, none, 0x8, 0, 1,
   [⟨0, 1, .w1c, false, 0x0⟩, ⟨1, 1, .w1c, false, 0x0⟩, ⟨2, 1, .w1c, false, 0x0⟩, ⟨3, 1, .w1c, true, 0x0⟩, ⟨8, 8, .ro, false, 0x0⟩, ⟨16, 16, .ro, false, 0x0⟩, ⟨32, 32, .ro, false, 0x0⟩]⟩
def ADEC_ERROR_STREAM_ERR : Fld := ⟨ADEC_ERROR, 0, 1⟩
def ADEC_ERROR_ITEM_ERR : Fld := ⟨ADEC_ERROR, 1, 1⟩
def ADEC_ERROR_ACCESS : Fld := ⟨ADEC_ERROR, 2, 1⟩
def ADEC_ERROR_ECC_UNCORR : Fld := ⟨ADEC_ERROR, 3, 1⟩
def ADEC_ERROR_LAST_CODE : Fld := ⟨ADEC_ERROR, 8, 8⟩
def ADEC_ERROR_LAST_SOURCE : Fld := ⟨ADEC_ERROR, 16, 16⟩
def ADEC_ERROR_LAST_ITEM : Fld := ⟨ADEC_ERROR, 32, 32⟩
/-- R208: ADEC_IN. -/
def ADEC_IN : RegDef :=
  ⟨0x32, .hubs, none, 0x40, 0, 1,
   [⟨0, 48, .ro, false, 0x0⟩]⟩
def ADEC_IN_COUNT : Fld := ⟨ADEC_IN, 0, 48⟩
/-- R208: ADEC_OUT. -/
def ADEC_OUT : RegDef :=
  ⟨0x32, .hubs, none, 0x48, 0, 1,
   [⟨0, 48, .ro, false, 0x0⟩]⟩
def ADEC_OUT_COUNT : Fld := ⟨ADEC_OUT, 0, 48⟩
/-- R208: ADEC_DROPPED. -/
def ADEC_DROPPED : RegDef :=
  ⟨0x32, .hubs, none, 0x50, 0, 1,
   [⟨0, 48, .ro, false, 0x0⟩]⟩
def ADEC_DROPPED_COUNT : Fld := ⟨ADEC_DROPPED, 0, 48⟩
/-- R208: ADEC_STALL_OUT. -/
def ADEC_STALL_OUT : RegDef :=
  ⟨0x32, .hubs, none, 0x58, 0, 1,
   [⟨0, 48, .ro, false, 0x0⟩]⟩
def ADEC_STALL_OUT_COUNT : Fld := ⟨ADEC_STALL_OUT, 0, 48⟩
/-- R208: ADEC_STARVED. -/
def ADEC_STARVED : RegDef :=
  ⟨0x32, .hubs, none, 0x60, 0, 1,
   [⟨0, 48, .ro, false, 0x0⟩]⟩
def ADEC_STARVED_COUNT : Fld := ⟨ADEC_STARVED, 0, 48⟩
/-- R208: ADEC_SPILL. -/
def ADEC_SPILL : RegDef :=
  ⟨0x32, .hubs, none, 0x68, 0, 1,
   [⟨0, 48, .ro, false, 0x0⟩]⟩
def ADEC_SPILL_COUNT : Fld := ⟨ADEC_SPILL, 0, 48⟩
/-! ### Block XFORM (code 0x33) -/

/-- R208: XFORM_STATUS. -/
def XFORM_STATUS : RegDef :=
  ⟨0x33, .hubs, none, 0x0, 0, 1,
   [⟨0, 2, .ro, false, 0x0⟩, ⟨2, 1, .ro, false, 0x0⟩, ⟨8, 8, .ro, false, 0xff⟩]⟩
def XFORM_STATUS_STATE : Fld := ⟨XFORM_STATUS, 0, 2⟩
def XFORM_STATUS_SPILLING : Fld := ⟨XFORM_STATUS, 2, 1⟩
def XFORM_STATUS_NODE : Fld := ⟨XFORM_STATUS, 8, 8⟩
/-- R208: XFORM_ERROR. -/
def XFORM_ERROR : RegDef :=
  ⟨0x33, .hubs, none, 0x8, 0, 1,
   [⟨0, 1, .w1c, false, 0x0⟩, ⟨1, 1, .w1c, false, 0x0⟩, ⟨2, 1, .w1c, false, 0x0⟩, ⟨3, 1, .w1c, true, 0x0⟩, ⟨8, 8, .ro, false, 0x0⟩, ⟨16, 16, .ro, false, 0x0⟩, ⟨32, 32, .ro, false, 0x0⟩]⟩
def XFORM_ERROR_STREAM_ERR : Fld := ⟨XFORM_ERROR, 0, 1⟩
def XFORM_ERROR_ITEM_ERR : Fld := ⟨XFORM_ERROR, 1, 1⟩
def XFORM_ERROR_ACCESS : Fld := ⟨XFORM_ERROR, 2, 1⟩
def XFORM_ERROR_ECC_UNCORR : Fld := ⟨XFORM_ERROR, 3, 1⟩
def XFORM_ERROR_LAST_CODE : Fld := ⟨XFORM_ERROR, 8, 8⟩
def XFORM_ERROR_LAST_SOURCE : Fld := ⟨XFORM_ERROR, 16, 16⟩
def XFORM_ERROR_LAST_ITEM : Fld := ⟨XFORM_ERROR, 32, 32⟩
/-- R208: XFORM_IN. -/
def XFORM_IN : RegDef :=
  ⟨0x33, .hubs, none, 0x40, 0, 1,
   [⟨0, 48, .ro, false, 0x0⟩]⟩
def XFORM_IN_COUNT : Fld := ⟨XFORM_IN, 0, 48⟩
/-- R208: XFORM_OUT. -/
def XFORM_OUT : RegDef :=
  ⟨0x33, .hubs, none, 0x48, 0, 1,
   [⟨0, 48, .ro, false, 0x0⟩]⟩
def XFORM_OUT_COUNT : Fld := ⟨XFORM_OUT, 0, 48⟩
/-- R208: XFORM_DROPPED. -/
def XFORM_DROPPED : RegDef :=
  ⟨0x33, .hubs, none, 0x50, 0, 1,
   [⟨0, 48, .ro, false, 0x0⟩]⟩
def XFORM_DROPPED_COUNT : Fld := ⟨XFORM_DROPPED, 0, 48⟩
/-- R208: XFORM_STALL_OUT. -/
def XFORM_STALL_OUT : RegDef :=
  ⟨0x33, .hubs, none, 0x58, 0, 1,
   [⟨0, 48, .ro, false, 0x0⟩]⟩
def XFORM_STALL_OUT_COUNT : Fld := ⟨XFORM_STALL_OUT, 0, 48⟩
/-- R208: XFORM_STARVED. -/
def XFORM_STARVED : RegDef :=
  ⟨0x33, .hubs, none, 0x60, 0, 1,
   [⟨0, 48, .ro, false, 0x0⟩]⟩
def XFORM_STARVED_COUNT : Fld := ⟨XFORM_STARVED, 0, 48⟩
/-- R208: XFORM_SPILL. -/
def XFORM_SPILL : RegDef :=
  ⟨0x33, .hubs, none, 0x68, 0, 1,
   [⟨0, 48, .ro, false, 0x0⟩]⟩
def XFORM_SPILL_COUNT : Fld := ⟨XFORM_SPILL, 0, 48⟩
/-! ### Block TOKEN (code 0x34) -/

/-- R208: TOKEN_STATUS. -/
def TOKEN_STATUS : RegDef :=
  ⟨0x34, .hubs, none, 0x0, 0, 1,
   [⟨0, 2, .ro, false, 0x0⟩, ⟨2, 1, .ro, false, 0x0⟩, ⟨8, 8, .ro, false, 0xff⟩]⟩
def TOKEN_STATUS_STATE : Fld := ⟨TOKEN_STATUS, 0, 2⟩
def TOKEN_STATUS_SPILLING : Fld := ⟨TOKEN_STATUS, 2, 1⟩
def TOKEN_STATUS_NODE : Fld := ⟨TOKEN_STATUS, 8, 8⟩
/-- R208: TOKEN_ERROR. -/
def TOKEN_ERROR : RegDef :=
  ⟨0x34, .hubs, none, 0x8, 0, 1,
   [⟨0, 1, .w1c, false, 0x0⟩, ⟨1, 1, .w1c, false, 0x0⟩, ⟨2, 1, .w1c, false, 0x0⟩, ⟨3, 1, .w1c, true, 0x0⟩, ⟨8, 8, .ro, false, 0x0⟩, ⟨16, 16, .ro, false, 0x0⟩, ⟨32, 32, .ro, false, 0x0⟩]⟩
def TOKEN_ERROR_STREAM_ERR : Fld := ⟨TOKEN_ERROR, 0, 1⟩
def TOKEN_ERROR_ITEM_ERR : Fld := ⟨TOKEN_ERROR, 1, 1⟩
def TOKEN_ERROR_ACCESS : Fld := ⟨TOKEN_ERROR, 2, 1⟩
def TOKEN_ERROR_ECC_UNCORR : Fld := ⟨TOKEN_ERROR, 3, 1⟩
def TOKEN_ERROR_LAST_CODE : Fld := ⟨TOKEN_ERROR, 8, 8⟩
def TOKEN_ERROR_LAST_SOURCE : Fld := ⟨TOKEN_ERROR, 16, 16⟩
def TOKEN_ERROR_LAST_ITEM : Fld := ⟨TOKEN_ERROR, 32, 32⟩
/-- R208: TOKEN_IN. -/
def TOKEN_IN : RegDef :=
  ⟨0x34, .hubs, none, 0x40, 0, 1,
   [⟨0, 48, .ro, false, 0x0⟩]⟩
def TOKEN_IN_COUNT : Fld := ⟨TOKEN_IN, 0, 48⟩
/-- R208: TOKEN_OUT. -/
def TOKEN_OUT : RegDef :=
  ⟨0x34, .hubs, none, 0x48, 0, 1,
   [⟨0, 48, .ro, false, 0x0⟩]⟩
def TOKEN_OUT_COUNT : Fld := ⟨TOKEN_OUT, 0, 48⟩
/-- R208: TOKEN_DROPPED. -/
def TOKEN_DROPPED : RegDef :=
  ⟨0x34, .hubs, none, 0x50, 0, 1,
   [⟨0, 48, .ro, false, 0x0⟩]⟩
def TOKEN_DROPPED_COUNT : Fld := ⟨TOKEN_DROPPED, 0, 48⟩
/-- R208: TOKEN_STALL_OUT. -/
def TOKEN_STALL_OUT : RegDef :=
  ⟨0x34, .hubs, none, 0x58, 0, 1,
   [⟨0, 48, .ro, false, 0x0⟩]⟩
def TOKEN_STALL_OUT_COUNT : Fld := ⟨TOKEN_STALL_OUT, 0, 48⟩
/-- R208: TOKEN_STARVED. -/
def TOKEN_STARVED : RegDef :=
  ⟨0x34, .hubs, none, 0x60, 0, 1,
   [⟨0, 48, .ro, false, 0x0⟩]⟩
def TOKEN_STARVED_COUNT : Fld := ⟨TOKEN_STARVED, 0, 48⟩
/-- R208: TOKEN_SPILL. -/
def TOKEN_SPILL : RegDef :=
  ⟨0x34, .hubs, none, 0x68, 0, 1,
   [⟨0, 48, .ro, false, 0x0⟩]⟩
def TOKEN_SPILL_COUNT : Fld := ⟨TOKEN_SPILL, 0, 48⟩
/-! ### Block PERM (code 0x35) -/

/-- R208: PERM_STATUS. -/
def PERM_STATUS : RegDef :=
  ⟨0x35, .hubs, none, 0x0, 0, 1,
   [⟨0, 2, .ro, false, 0x0⟩, ⟨2, 1, .ro, false, 0x0⟩, ⟨8, 8, .ro, false, 0xff⟩]⟩
def PERM_STATUS_STATE : Fld := ⟨PERM_STATUS, 0, 2⟩
def PERM_STATUS_SPILLING : Fld := ⟨PERM_STATUS, 2, 1⟩
def PERM_STATUS_NODE : Fld := ⟨PERM_STATUS, 8, 8⟩
/-- R208: PERM_ERROR. -/
def PERM_ERROR : RegDef :=
  ⟨0x35, .hubs, none, 0x8, 0, 1,
   [⟨0, 1, .w1c, false, 0x0⟩, ⟨1, 1, .w1c, false, 0x0⟩, ⟨2, 1, .w1c, false, 0x0⟩, ⟨3, 1, .w1c, true, 0x0⟩, ⟨4, 1, .w1c, false, 0x0⟩, ⟨5, 1, .w1c, false, 0x0⟩, ⟨6, 1, .w1c, false, 0x0⟩, ⟨8, 8, .ro, false, 0x0⟩, ⟨16, 16, .ro, false, 0x0⟩, ⟨32, 32, .ro, false, 0x0⟩]⟩
def PERM_ERROR_STREAM_ERR : Fld := ⟨PERM_ERROR, 0, 1⟩
def PERM_ERROR_ITEM_ERR : Fld := ⟨PERM_ERROR, 1, 1⟩
def PERM_ERROR_ACCESS : Fld := ⟨PERM_ERROR, 2, 1⟩
def PERM_ERROR_ECC_UNCORR : Fld := ⟨PERM_ERROR, 3, 1⟩
def PERM_ERROR_SET_ERR : Fld := ⟨PERM_ERROR, 4, 1⟩
def PERM_ERROR_DESC_FAIL : Fld := ⟨PERM_ERROR, 5, 1⟩
def PERM_ERROR_QCFG : Fld := ⟨PERM_ERROR, 6, 1⟩
def PERM_ERROR_LAST_CODE : Fld := ⟨PERM_ERROR, 8, 8⟩
def PERM_ERROR_LAST_SOURCE : Fld := ⟨PERM_ERROR, 16, 16⟩
def PERM_ERROR_LAST_ITEM : Fld := ⟨PERM_ERROR, 32, 32⟩
/-- R208: PERM_IN. -/
def PERM_IN : RegDef :=
  ⟨0x35, .hubs, none, 0x40, 0, 1,
   [⟨0, 48, .ro, false, 0x0⟩]⟩
def PERM_IN_COUNT : Fld := ⟨PERM_IN, 0, 48⟩
/-- R208: PERM_OUT. -/
def PERM_OUT : RegDef :=
  ⟨0x35, .hubs, none, 0x48, 0, 1,
   [⟨0, 48, .ro, false, 0x0⟩]⟩
def PERM_OUT_COUNT : Fld := ⟨PERM_OUT, 0, 48⟩
/-- R208: PERM_DROPPED. -/
def PERM_DROPPED : RegDef :=
  ⟨0x35, .hubs, none, 0x50, 0, 1,
   [⟨0, 48, .ro, false, 0x0⟩]⟩
def PERM_DROPPED_COUNT : Fld := ⟨PERM_DROPPED, 0, 48⟩
/-- R208: PERM_STALL_OUT. -/
def PERM_STALL_OUT : RegDef :=
  ⟨0x35, .hubs, none, 0x58, 0, 1,
   [⟨0, 48, .ro, false, 0x0⟩]⟩
def PERM_STALL_OUT_COUNT : Fld := ⟨PERM_STALL_OUT, 0, 48⟩
/-- R208: PERM_STARVED. -/
def PERM_STARVED : RegDef :=
  ⟨0x35, .hubs, none, 0x60, 0, 1,
   [⟨0, 48, .ro, false, 0x0⟩]⟩
def PERM_STARVED_COUNT : Fld := ⟨PERM_STARVED, 0, 48⟩
/-- R208: PERM_SPILL. -/
def PERM_SPILL : RegDef :=
  ⟨0x35, .hubs, none, 0x68, 0, 1,
   [⟨0, 48, .ro, false, 0x0⟩]⟩
def PERM_SPILL_COUNT : Fld := ⟨PERM_SPILL, 0, 48⟩
/-- R225: PERM_HOST_SEED. -/
def PERM_HOST_SEED : RegDef :=
  ⟨0x35, .hubs, none, 0x100, 0, 1,
   [⟨0, 64, .rw, false, 0x0⟩]⟩
def PERM_HOST_SEED_SEED : Fld := ⟨PERM_HOST_SEED, 0, 64⟩
/-- R225: PERM_HOST_N. -/
def PERM_HOST_N : RegDef :=
  ⟨0x35, .hubs, none, 0x108, 0, 1,
   [⟨0, 41, .rw, false, 0x0⟩]⟩
def PERM_HOST_N_N : Fld := ⟨PERM_HOST_N, 0, 41⟩
/-- R225: PERM_HOST_POS. -/
def PERM_HOST_POS : RegDef :=
  ⟨0x35, .hubs, none, 0x110, 0, 1,
   [⟨0, 40, .rw, false, 0x0⟩]⟩
def PERM_HOST_POS_FIRST : Fld := ⟨PERM_HOST_POS, 0, 40⟩
/-- R225: PERM_HOST_COUNT. -/
def PERM_HOST_COUNT : RegDef :=
  ⟨0x35, .hubs, none, 0x118, 0, 1,
   [⟨0, 32, .rw, false, 0x0⟩, ⟨32, 32, .rw, false, 0x0⟩]⟩
def PERM_HOST_COUNT_COUNT : Fld := ⟨PERM_HOST_COUNT, 0, 32⟩
def PERM_HOST_COUNT_STRIDE : Fld := ⟨PERM_HOST_COUNT, 32, 32⟩
/-- R225: PERM_HOST_EPOCH. -/
def PERM_HOST_EPOCH : RegDef :=
  ⟨0x35, .hubs, none, 0x120, 0, 1,
   [⟨0, 32, .rw, false, 0x0⟩]⟩
def PERM_HOST_EPOCH_EPOCH : Fld := ⟨PERM_HOST_EPOCH, 0, 32⟩
/-- R225: PERM_HOST_DEST. -/
def PERM_HOST_DEST : RegDef :=
  ⟨0x35, .hubs, none, 0x128, 0, 1,
   [⟨0, 48, .rw, false, 0x0⟩]⟩
def PERM_HOST_DEST_DEST : Fld := ⟨PERM_HOST_DEST, 0, 48⟩
/-- R225: PERM_HOST_CTRL. -/
def PERM_HOST_CTRL : RegDef :=
  ⟨0x35, .hubs, none, 0x130, 0, 1,
   [⟨0, 1, .wo, false, 0x0⟩, ⟨1, 1, .ro, false, 0x0⟩, ⟨2, 1, .w1c, false, 0x0⟩, ⟨3, 1, .w1c, false, 0x0⟩, ⟨8, 8, .ro, false, 0x0⟩, ⟨32, 32, .ro, false, 0x0⟩]⟩
def PERM_HOST_CTRL_GO : Fld := ⟨PERM_HOST_CTRL, 0, 1⟩
def PERM_HOST_CTRL_BUSY : Fld := ⟨PERM_HOST_CTRL, 1, 1⟩
def PERM_HOST_CTRL_DONE : Fld := ⟨PERM_HOST_CTRL, 2, 1⟩
def PERM_HOST_CTRL_REFUSED : Fld := ⟨PERM_HOST_CTRL, 3, 1⟩
def PERM_HOST_CTRL_STATUS : Fld := ⟨PERM_HOST_CTRL, 8, 8⟩
def PERM_HOST_CTRL_WRITTEN : Fld := ⟨PERM_HOST_CTRL, 32, 32⟩
/-- R225: PERM_GEN. -/
def PERM_GEN : RegDef :=
  ⟨0x35, .hubs, none, 0x140, 0, 1,
   [⟨0, 32, .ro, false, 0x0⟩, ⟨32, 32, .ro, false, 0x0⟩]⟩
def PERM_GEN_EPOCH : Fld := ⟨PERM_GEN, 0, 32⟩
def PERM_GEN_BLOCKS : Fld := ⟨PERM_GEN, 32, 32⟩
/-! ### Block SETE (code 0x36) -/

/-- R208: SETE_STATUS. -/
def SETE_STATUS : RegDef :=
  ⟨0x36, .hubs, none, 0x0, 0, 1,
   [⟨0, 2, .ro, false, 0x0⟩, ⟨2, 1, .ro, false, 0x0⟩, ⟨8, 8, .ro, false, 0xff⟩]⟩
def SETE_STATUS_STATE : Fld := ⟨SETE_STATUS, 0, 2⟩
def SETE_STATUS_SPILLING : Fld := ⟨SETE_STATUS, 2, 1⟩
def SETE_STATUS_NODE : Fld := ⟨SETE_STATUS, 8, 8⟩
/-- R208: SETE_ERROR. -/
def SETE_ERROR : RegDef :=
  ⟨0x36, .hubs, none, 0x8, 0, 1,
   [⟨0, 1, .w1c, false, 0x0⟩, ⟨1, 1, .w1c, false, 0x0⟩, ⟨2, 1, .w1c, false, 0x0⟩, ⟨3, 1, .w1c, true, 0x0⟩, ⟨4, 1, .w1c, false, 0x0⟩, ⟨5, 1, .w1c, false, 0x0⟩, ⟨6, 1, .w1c, false, 0x0⟩, ⟨8, 8, .ro, false, 0x0⟩, ⟨16, 16, .ro, false, 0x0⟩, ⟨32, 32, .ro, false, 0x0⟩]⟩
def SETE_ERROR_STREAM_ERR : Fld := ⟨SETE_ERROR, 0, 1⟩
def SETE_ERROR_ITEM_ERR : Fld := ⟨SETE_ERROR, 1, 1⟩
def SETE_ERROR_ACCESS : Fld := ⟨SETE_ERROR, 2, 1⟩
def SETE_ERROR_ECC_UNCORR : Fld := ⟨SETE_ERROR, 3, 1⟩
def SETE_ERROR_SET_ERR : Fld := ⟨SETE_ERROR, 4, 1⟩
def SETE_ERROR_DESC_FAIL : Fld := ⟨SETE_ERROR, 5, 1⟩
def SETE_ERROR_QCFG : Fld := ⟨SETE_ERROR, 6, 1⟩
def SETE_ERROR_LAST_CODE : Fld := ⟨SETE_ERROR, 8, 8⟩
def SETE_ERROR_LAST_SOURCE : Fld := ⟨SETE_ERROR, 16, 16⟩
def SETE_ERROR_LAST_ITEM : Fld := ⟨SETE_ERROR, 32, 32⟩
/-- R208: SETE_IN. -/
def SETE_IN : RegDef :=
  ⟨0x36, .hubs, none, 0x40, 0, 1,
   [⟨0, 48, .ro, false, 0x0⟩]⟩
def SETE_IN_COUNT : Fld := ⟨SETE_IN, 0, 48⟩
/-- R208: SETE_OUT. -/
def SETE_OUT : RegDef :=
  ⟨0x36, .hubs, none, 0x48, 0, 1,
   [⟨0, 48, .ro, false, 0x0⟩]⟩
def SETE_OUT_COUNT : Fld := ⟨SETE_OUT, 0, 48⟩
/-- R208: SETE_DROPPED. -/
def SETE_DROPPED : RegDef :=
  ⟨0x36, .hubs, none, 0x50, 0, 1,
   [⟨0, 48, .ro, false, 0x0⟩]⟩
def SETE_DROPPED_COUNT : Fld := ⟨SETE_DROPPED, 0, 48⟩
/-- R208: SETE_STALL_OUT. -/
def SETE_STALL_OUT : RegDef :=
  ⟨0x36, .hubs, none, 0x58, 0, 1,
   [⟨0, 48, .ro, false, 0x0⟩]⟩
def SETE_STALL_OUT_COUNT : Fld := ⟨SETE_STALL_OUT, 0, 48⟩
/-- R208: SETE_STARVED. -/
def SETE_STARVED : RegDef :=
  ⟨0x36, .hubs, none, 0x60, 0, 1,
   [⟨0, 48, .ro, false, 0x0⟩]⟩
def SETE_STARVED_COUNT : Fld := ⟨SETE_STARVED, 0, 48⟩
/-- R208: SETE_SPILL. -/
def SETE_SPILL : RegDef :=
  ⟨0x36, .hubs, none, 0x68, 0, 1,
   [⟨0, 48, .ro, false, 0x0⟩]⟩
def SETE_SPILL_COUNT : Fld := ⟨SETE_SPILL, 0, 48⟩
/-- R222: SETE_QBASE. -/
def SETE_QBASE : RegDef :=
  ⟨0x36, .hubs, some 3, 0x1000, 64, 64,
   [⟨0, 48, .rw, false, 0x0⟩]⟩
def SETE_QBASE_BASE : Fld := ⟨SETE_QBASE, 0, 48⟩
/-- R222: SETE_CQBASE. -/
def SETE_CQBASE : RegDef :=
  ⟨0x36, .hubs, some 3, 0x1008, 64, 64,
   [⟨0, 48, .rw, false, 0x0⟩]⟩
def SETE_CQBASE_BASE : Fld := ⟨SETE_CQBASE, 0, 48⟩
/-- R222: SETE_QCFG. -/
def SETE_QCFG : RegDef :=
  ⟨0x36, .hubs, some 3, 0x1010, 64, 64,
   [⟨0, 1, .rw, false, 0x0⟩, ⟨1, 5, .rw, false, 0x0⟩, ⟨6, 1, .ro, false, 0x0⟩, ⟨7, 1, .wo, false, 0x0⟩]⟩
def SETE_QCFG_ENABLE : Fld := ⟨SETE_QCFG, 0, 1⟩
def SETE_QCFG_SIZE_LOG2 : Fld := ⟨SETE_QCFG, 1, 5⟩
def SETE_QCFG_STOPPED : Fld := ⟨SETE_QCFG, 6, 1⟩
def SETE_QCFG_RESUME : Fld := ⟨SETE_QCFG, 7, 1⟩
/-- R222: SETE_QTAIL. -/
def SETE_QTAIL : RegDef :=
  ⟨0x36, .hubs, some 3, 0x1018, 64, 64,
   [⟨0, 16, .rw, false, 0x0⟩]⟩
def SETE_QTAIL_TAIL : Fld := ⟨SETE_QTAIL, 0, 16⟩
/-- R222: SETE_QHEAD. -/
def SETE_QHEAD : RegDef :=
  ⟨0x36, .hubs, some 3, 0x1020, 64, 64,
   [⟨0, 16, .ro, false, 0x0⟩]⟩
def SETE_QHEAD_HEAD : Fld := ⟨SETE_QHEAD, 0, 16⟩
/-- R222: SETE_CQHEAD. -/
def SETE_CQHEAD : RegDef :=
  ⟨0x36, .hubs, some 3, 0x1028, 64, 64,
   [⟨0, 16, .rw, false, 0x0⟩]⟩
def SETE_CQHEAD_HEAD : Fld := ⟨SETE_CQHEAD, 0, 16⟩
/-- R222: SETE_CQTAIL. -/
def SETE_CQTAIL : RegDef :=
  ⟨0x36, .hubs, some 3, 0x1030, 64, 64,
   [⟨0, 16, .ro, false, 0x0⟩]⟩
def SETE_CQTAIL_TAIL : Fld := ⟨SETE_CQTAIL, 0, 16⟩
/-- R225: SETE_QWORK. -/
def SETE_QWORK : RegDef :=
  ⟨0x36, .hubs, some 3, 0x100, 0, 1,
   [⟨0, 16, .rwl, false, 0x0⟩, ⟨16, 32, .rwl, false, 0x0⟩]⟩
def SETE_QWORK_BLOCKS : Fld := ⟨SETE_QWORK, 0, 16⟩
def SETE_QWORK_BASE : Fld := ⟨SETE_QWORK, 16, 32⟩
/-- R225: SETE_DESC_ERROR. -/
def SETE_DESC_ERROR : RegDef :=
  ⟨0x36, .hubs, some 3, 0x108, 0, 1,
   [⟨0, 8, .ro, false, 0x0⟩, ⟨8, 6, .ro, false, 0x0⟩, ⟨16, 16, .ro, false, 0x0⟩]⟩
def SETE_DESC_ERROR_STATUS : Fld := ⟨SETE_DESC_ERROR, 0, 8⟩
def SETE_DESC_ERROR_CONTEXT : Fld := ⟨SETE_DESC_ERROR, 8, 6⟩
def SETE_DESC_ERROR_TAG : Fld := ⟨SETE_DESC_ERROR, 16, 16⟩
/-! ### Block TEL (code 0x6) -/

/-- R244: TEL_UPD_BUSY. -/
def TEL_UPD_BUSY : RegDef :=
  ⟨0x6, .comp, none, 0x0, 0, 1,
   [⟨0, 32, .ro, false, 0x0⟩]⟩
def TEL_UPD_BUSY_COUNT : Fld := ⟨TEL_UPD_BUSY, 0, 32⟩
/-- R244: TEL_INGEST_STALL. -/
def TEL_INGEST_STALL : RegDef :=
  ⟨0x6, .hubs, none, 0x0, 8, 4,
   [⟨0, 32, .ro, false, 0x0⟩]⟩
def TEL_INGEST_STALL_COUNT : Fld := ⟨TEL_INGEST_STALL, 0, 32⟩
/-- R244: TEL_SEAM_STALL. -/
def TEL_SEAM_STALL : RegDef :=
  ⟨0x6, .hubs, none, 0x20, 8, 4,
   [⟨0, 32, .ro, false, 0x0⟩]⟩
def TEL_SEAM_STALL_COUNT : Fld := ⟨TEL_SEAM_STALL, 0, 32⟩
/-- R244: TEL_PEER_STALL. -/
def TEL_PEER_STALL : RegDef :=
  ⟨0x6, .hubs, none, 0x40, 8, 4,
   [⟨0, 32, .ro, false, 0x0⟩]⟩
def TEL_PEER_STALL_COUNT : Fld := ⟨TEL_PEER_STALL, 0, 32⟩
/-- R244: TEL_REC. -/
def TEL_REC : RegDef :=
  ⟨0x6, .am, none, 0x100, 8, 64,
   [⟨0, 64, .ro, false, 0x0⟩]⟩
def TEL_REC_WORD : Fld := ⟨TEL_REC, 0, 64⟩
/-! ### Block RED (code 0x61) -/

/-- R271: RED_CH_ROUTE. -/
def RED_CH_ROUTE : RegDef :=
  ⟨0x61, .hubs, none, 0x0, 0, 1,
   [⟨0, 11, .rwl, false, 0x0⟩, ⟨16, 10, .rwl, false, 0x0⟩, ⟨32, 8, .rwl, false, 0x12⟩, ⟨40, 8, .rwl, false, 0x12⟩, ⟨48, 5, .rwl, false, 0x0⟩, ⟨56, 5, .rwl, false, 0x0⟩]⟩
def RED_CH_ROUTE_MEMBERS : Fld := ⟨RED_CH_ROUTE, 0, 11⟩
def RED_CH_ROUTE_RANK : Fld := ⟨RED_CH_ROUTE, 16, 10⟩
def RED_CH_ROUTE_IN_HOP : Fld := ⟨RED_CH_ROUTE, 32, 8⟩
def RED_CH_ROUTE_OUT_HOP : Fld := ⟨RED_CH_ROUTE, 40, 8⟩
def RED_CH_ROUTE_PREV_CH : Fld := ⟨RED_CH_ROUTE, 48, 5⟩
def RED_CH_ROUTE_NEXT_CH : Fld := ⟨RED_CH_ROUTE, 56, 5⟩
/-- R271: RED_CH_TIMING. -/
def RED_CH_TIMING : RegDef :=
  ⟨0x61, .hubs, none, 0x8, 0, 1,
   [⟨0, 1, .rwl, false, 0x0⟩, ⟨1, 1, .rwl, false, 0x0⟩, ⟨2, 1, .rwl, false, 0x0⟩, ⟨3, 1, .rwl, false, 0x0⟩, ⟨4, 3, .rwl, false, 0x0⟩, ⟨8, 24, .rwl, false, 0x0⟩, ⟨32, 24, .rwl, false, 0x0⟩]⟩
def RED_CH_TIMING_POLICY : Fld := ⟨RED_CH_TIMING, 0, 1⟩
def RED_CH_TIMING_WIRE : Fld := ⟨RED_CH_TIMING, 1, 1⟩
def RED_CH_TIMING_STRAGGLER_EN : Fld := ⟨RED_CH_TIMING, 2, 1⟩
def RED_CH_TIMING_WATCHDOG_EN : Fld := ⟨RED_CH_TIMING, 3, 1⟩
def RED_CH_TIMING_HEADROOM : Fld := ⟨RED_CH_TIMING, 4, 3⟩
def RED_CH_TIMING_WINDOW : Fld := ⟨RED_CH_TIMING, 8, 24⟩
def RED_CH_TIMING_WATCHDOG : Fld := ⟨RED_CH_TIMING, 32, 24⟩
/-- R271: RED_CH_STATUS. -/
def RED_CH_STATUS : RegDef :=
  ⟨0x61, .hubs, none, 0x10, 0, 1,
   [⟨0, 2, .ro, false, 0x0⟩, ⟨2, 1, .ro, false, 0x0⟩, ⟨3, 2, .ro, false, 0x1⟩, ⟨5, 1, .ro, false, 0x0⟩, ⟨6, 1, .ro, false, 0x0⟩, ⟨16, 16, .ro, false, 0x0⟩, ⟨32, 24, .ro, false, 0x0⟩, ⟨56, 6, .ro, false, 0x0⟩]⟩
def RED_CH_STATUS_STATE : Fld := ⟨RED_CH_STATUS, 0, 2⟩
def RED_CH_STATUS_HOME : Fld := ⟨RED_CH_STATUS, 2, 1⟩
def RED_CH_STATUS_RING_VER : Fld := ⟨RED_CH_STATUS, 3, 2⟩
def RED_CH_STATUS_ABSENT : Fld := ⟨RED_CH_STATUS, 5, 1⟩
def RED_CH_STATUS_PENDING : Fld := ⟨RED_CH_STATUS, 6, 1⟩
def RED_CH_STATUS_HEAD_RED_ID : Fld := ⟨RED_CH_STATUS, 16, 16⟩
def RED_CH_STATUS_DEADLINE : Fld := ⟨RED_CH_STATUS, 32, 24⟩
def RED_CH_STATUS_DIGEST_NEXT : Fld := ⟨RED_CH_STATUS, 56, 6⟩
/-- R271: RED_CH_ERROR. -/
def RED_CH_ERROR : RegDef :=
  ⟨0x61, .hubs, none, 0x18, 0, 1,
   [⟨0, 1, .w1c, false, 0x0⟩, ⟨1, 1, .w1c, false, 0x0⟩, ⟨2, 1, .w1c, false, 0x0⟩, ⟨3, 1, .w1c, false, 0x0⟩, ⟨4, 1, .w1c, false, 0x0⟩, ⟨5, 1, .w1c, false, 0x0⟩, ⟨8, 8, .ro, false, 0x0⟩, ⟨16, 6, .ro, false, 0x0⟩, ⟨32, 16, .ro, false, 0x0⟩]⟩
def RED_CH_ERROR_HANG : Fld := ⟨RED_CH_ERROR, 0, 1⟩
def RED_CH_ERROR_MISMATCH : Fld := ⟨RED_CH_ERROR, 1, 1⟩
def RED_CH_ERROR_RATIO : Fld := ⟨RED_CH_ERROR, 2, 1⟩
def RED_CH_ERROR_DESC_FAIL : Fld := ⟨RED_CH_ERROR, 3, 1⟩
def RED_CH_ERROR_QCFG : Fld := ⟨RED_CH_ERROR, 4, 1⟩
def RED_CH_ERROR_LINK_CHANGE : Fld := ⟨RED_CH_ERROR, 5, 1⟩
def RED_CH_ERROR_STATUS : Fld := ⟨RED_CH_ERROR, 8, 8⟩
def RED_CH_ERROR_CONTEXT : Fld := ⟨RED_CH_ERROR, 16, 6⟩
def RED_CH_ERROR_TAG : Fld := ⟨RED_CH_ERROR, 32, 16⟩
/-- R304: RED_CH_EPOCH. -/
def RED_CH_EPOCH : RegDef :=
  ⟨0x61, .hubs, none, 0x20, 0, 1,
   [⟨0, 16, .rwl, false, 0x0⟩, ⟨16, 1, .w1c, false, 0x0⟩, ⟨17, 1, .ro, false, 0x0⟩]⟩
def RED_CH_EPOCH_EPOCH : Fld := ⟨RED_CH_EPOCH, 0, 16⟩
def RED_CH_EPOCH_TAINTED : Fld := ⟨RED_CH_EPOCH, 16, 1⟩
def RED_CH_EPOCH_PERMUTING : Fld := ⟨RED_CH_EPOCH, 17, 1⟩
/-- R271: RED_QBASE. -/
def RED_QBASE : RegDef :=
  ⟨0x61, .hubs, none, 0x100, 0, 1,
   [⟨0, 48, .rw, false, 0x0⟩]⟩
def RED_QBASE_BASE : Fld := ⟨RED_QBASE, 0, 48⟩
/-- R271: RED_CQBASE. -/
def RED_CQBASE : RegDef :=
  ⟨0x61, .hubs, none, 0x108, 0, 1,
   [⟨0, 48, .rw, false, 0x0⟩]⟩
def RED_CQBASE_BASE : Fld := ⟨RED_CQBASE, 0, 48⟩
/-- R271: RED_QCFG. -/
def RED_QCFG : RegDef :=
  ⟨0x61, .hubs, none, 0x110, 0, 1,
   [⟨0, 1, .rw, false, 0x0⟩, ⟨1, 5, .rw, false, 0x0⟩, ⟨6, 1, .ro, false, 0x0⟩, ⟨7, 1, .wo, false, 0x0⟩]⟩
def RED_QCFG_ENABLE : Fld := ⟨RED_QCFG, 0, 1⟩
def RED_QCFG_SIZE_LOG2 : Fld := ⟨RED_QCFG, 1, 5⟩
def RED_QCFG_STOPPED : Fld := ⟨RED_QCFG, 6, 1⟩
def RED_QCFG_RESUME : Fld := ⟨RED_QCFG, 7, 1⟩
/-- R271: RED_QTAIL. -/
def RED_QTAIL : RegDef :=
  ⟨0x61, .hubs, none, 0x118, 0, 1,
   [⟨0, 16, .rw, false, 0x0⟩]⟩
def RED_QTAIL_TAIL : Fld := ⟨RED_QTAIL, 0, 16⟩
/-- R271: RED_QHEAD. -/
def RED_QHEAD : RegDef :=
  ⟨0x61, .hubs, none, 0x120, 0, 1,
   [⟨0, 16, .ro, false, 0x0⟩]⟩
def RED_QHEAD_HEAD : Fld := ⟨RED_QHEAD, 0, 16⟩
/-- R271: RED_CQHEAD. -/
def RED_CQHEAD : RegDef :=
  ⟨0x61, .hubs, none, 0x128, 0, 1,
   [⟨0, 16, .rw, false, 0x0⟩]⟩
def RED_CQHEAD_HEAD : Fld := ⟨RED_CQHEAD, 0, 16⟩
/-- R271: RED_CQTAIL. -/
def RED_CQTAIL : RegDef :=
  ⟨0x61, .hubs, none, 0x130, 0, 1,
   [⟨0, 16, .ro, false, 0x0⟩]⟩
def RED_CQTAIL_TAIL : Fld := ⟨RED_CQTAIL, 0, 16⟩
/-- R271: RED_REDUCTIONS. -/
def RED_REDUCTIONS : RegDef :=
  ⟨0x61, .hubs, none, 0x40, 0, 1,
   [⟨0, 48, .ro, false, 0x0⟩]⟩
def RED_REDUCTIONS_COUNT : Fld := ⟨RED_REDUCTIONS, 0, 48⟩
/-- R271: RED_ESCALATIONS. -/
def RED_ESCALATIONS : RegDef :=
  ⟨0x61, .hubs, none, 0x48, 0, 1,
   [⟨0, 48, .ro, false, 0x0⟩]⟩
def RED_ESCALATIONS_COUNT : Fld := ⟨RED_ESCALATIONS, 0, 48⟩
/-- R271: RED_SATURATED. -/
def RED_SATURATED : RegDef :=
  ⟨0x61, .hubs, none, 0x50, 0, 1,
   [⟨0, 48, .ro, false, 0x0⟩]⟩
def RED_SATURATED_COUNT : Fld := ⟨RED_SATURATED, 0, 48⟩
/-- R271: RED_STRAGGLES. -/
def RED_STRAGGLES : RegDef :=
  ⟨0x61, .hubs, none, 0x58, 0, 1,
   [⟨0, 48, .ro, false, 0x0⟩]⟩
def RED_STRAGGLES_COUNT : Fld := ⟨RED_STRAGGLES, 0, 48⟩
/-- R271: RED_CARRIED. -/
def RED_CARRIED : RegDef :=
  ⟨0x61, .hubs, none, 0x60, 0, 1,
   [⟨0, 48, .ro, false, 0x0⟩]⟩
def RED_CARRIED_COUNT : Fld := ⟨RED_CARRIED, 0, 48⟩
/-- R271: RED_DROPPED_LATE. -/
def RED_DROPPED_LATE : RegDef :=
  ⟨0x61, .hubs, none, 0x68, 0, 1,
   [⟨0, 48, .ro, false, 0x0⟩]⟩
def RED_DROPPED_LATE_COUNT : Fld := ⟨RED_DROPPED_LATE, 0, 48⟩
/-- R271: RED_CARRY_EXPIRED. -/
def RED_CARRY_EXPIRED : RegDef :=
  ⟨0x61, .hubs, none, 0x70, 0, 1,
   [⟨0, 48, .ro, false, 0x0⟩]⟩
def RED_CARRY_EXPIRED_COUNT : Fld := ⟨RED_CARRY_EXPIRED, 0, 48⟩
/-- R271: RED_CARRY_FULL. -/
def RED_CARRY_FULL : RegDef :=
  ⟨0x61, .hubs, none, 0x78, 0, 1,
   [⟨0, 48, .ro, false, 0x0⟩]⟩
def RED_CARRY_FULL_COUNT : Fld := ⟨RED_CARRY_FULL, 0, 48⟩
/-- R271: RED_SPILLED. -/
def RED_SPILLED : RegDef :=
  ⟨0x61, .hubs, none, 0x80, 0, 1,
   [⟨0, 48, .ro, false, 0x0⟩]⟩
def RED_SPILLED_COUNT : Fld := ⟨RED_SPILLED, 0, 48⟩
/-- R271: RED_STALE_FRAMES. -/
def RED_STALE_FRAMES : RegDef :=
  ⟨0x61, .hubs, none, 0x88, 0, 1,
   [⟨0, 48, .ro, false, 0x0⟩]⟩
def RED_STALE_FRAMES_COUNT : Fld := ⟨RED_STALE_FRAMES, 0, 48⟩
/-- R271: RED_MISROUTED. -/
def RED_MISROUTED : RegDef :=
  ⟨0x61, .hubs, none, 0x90, 0, 1,
   [⟨0, 48, .ro, false, 0x0⟩]⟩
def RED_MISROUTED_COUNT : Fld := ⟨RED_MISROUTED, 0, 48⟩
/-- R271: RED_WEAVE_BYTES. -/
def RED_WEAVE_BYTES : RegDef :=
  ⟨0x61, .hubs, none, 0x98, 0, 1,
   [⟨0, 48, .ro, false, 0x0⟩]⟩
def RED_WEAVE_BYTES_COUNT : Fld := ⟨RED_WEAVE_BYTES, 0, 48⟩
/-- R304: RED_EPOCH_REJECTS. -/
def RED_EPOCH_REJECTS : RegDef :=
  ⟨0x61, .hubs, none, 0xa0, 0, 1,
   [⟨0, 48, .ro, false, 0x0⟩]⟩
def RED_EPOCH_REJECTS_COUNT : Fld := ⟨RED_EPOCH_REJECTS, 0, 48⟩
/-- R304: RED_MOVED_BYTES. -/
def RED_MOVED_BYTES : RegDef :=
  ⟨0x61, .hubs, none, 0xa8, 0, 1,
   [⟨0, 48, .ro, false, 0x0⟩]⟩
def RED_MOVED_BYTES_COUNT : Fld := ⟨RED_MOVED_BYTES, 0, 48⟩
/-- R271: RED_DIG_INFO. -/
def RED_DIG_INFO : RegDef :=
  ⟨0x61, .hubs, none, 0x1000, 8, 64,
   [⟨0, 16, .ro, false, 0x0⟩, ⟨16, 1, .ro, false, 0x0⟩, ⟨17, 1, .ro, false, 0x0⟩, ⟨18, 1, .ro, false, 0x0⟩, ⟨32, 32, .ro, false, 0x0⟩]⟩
def RED_DIG_INFO_RED_ID : Fld := ⟨RED_DIG_INFO, 0, 16⟩
def RED_DIG_INFO_VALID : Fld := ⟨RED_DIG_INFO, 16, 1⟩
def RED_DIG_INFO_COMPLETE : Fld := ⟨RED_DIG_INFO, 17, 1⟩
def RED_DIG_INFO_ABSENT : Fld := ⟨RED_DIG_INFO, 18, 1⟩
def RED_DIG_INFO_STEP : Fld := ⟨RED_DIG_INFO, 32, 32⟩
/-- R271: RED_DIG_SENT. -/
def RED_DIG_SENT : RegDef :=
  ⟨0x61, .hubs, none, 0x1200, 8, 64,
   [⟨0, 64, .ro, false, 0x0⟩]⟩
def RED_DIG_SENT_CRC : Fld := ⟨RED_DIG_SENT, 0, 64⟩
/-- R271: RED_DIG_RECV. -/
def RED_DIG_RECV : RegDef :=
  ⟨0x61, .hubs, none, 0x1400, 8, 64,
   [⟨0, 64, .ro, false, 0x0⟩]⟩
def RED_DIG_RECV_CRC : Fld := ⟨RED_DIG_RECV, 0, 64⟩
/-! ### Block PEER (code 0x60) -/

/-- R273: PEER_STATUS. -/
def PEER_STATUS : RegDef :=
  ⟨0x60, .hubs, none, 0x0, 0, 1,
   [⟨0, 1, .ro, false, 0x0⟩, ⟨1, 2, .ro, false, 0x0⟩, ⟨3, 2, .ro, false, 0x0⟩, ⟨8, 8, .ro, false, 0x0⟩, ⟨16, 16, .ro, false, 0x0⟩]⟩
def PEER_STATUS_UP : Fld := ⟨PEER_STATUS, 0, 1⟩
def PEER_STATUS_VERSION : Fld := ⟨PEER_STATUS, 1, 2⟩
def PEER_STATUS_LANE_RATE : Fld := ⟨PEER_STATUS, 3, 2⟩
def PEER_STATUS_LANES_UP : Fld := ⟨PEER_STATUS, 8, 8⟩
def PEER_STATUS_PEER_PART : Fld := ⟨PEER_STATUS, 16, 16⟩
/-- R273: PEER_CFG. -/
def PEER_CFG : RegDef :=
  ⟨0x60, .hubs, none, 0x8, 0, 1,
   [⟨0, 1, .rwl, false, 0x0⟩, ⟨1, 2, .rwl, false, 0x2⟩]⟩
def PEER_CFG_ENABLE : Fld := ⟨PEER_CFG, 0, 1⟩
def PEER_CFG_OPP_MAX : Fld := ⟨PEER_CFG, 1, 2⟩
/-- R273: PEER_ERROR. -/
def PEER_ERROR : RegDef :=
  ⟨0x60, .hubs, none, 0x10, 0, 1,
   [⟨0, 1, .w1c, false, 0x0⟩, ⟨1, 1, .w1c, true, 0x0⟩, ⟨2, 1, .w1c, false, 0x0⟩]⟩
def PEER_ERROR_LINK_DOWN : Fld := ⟨PEER_ERROR, 0, 1⟩
def PEER_ERROR_REPLAY_FAIL : Fld := ⟨PEER_ERROR, 1, 1⟩
def PEER_ERROR_VERSION_CHANGE : Fld := ⟨PEER_ERROR, 2, 1⟩
/-- R273: PEER_TX_BYTES. -/
def PEER_TX_BYTES : RegDef :=
  ⟨0x60, .hubs, none, 0x40, 0, 1,
   [⟨0, 48, .ro, false, 0x0⟩]⟩
def PEER_TX_BYTES_COUNT : Fld := ⟨PEER_TX_BYTES, 0, 48⟩
/-- R273: PEER_RX_BYTES. -/
def PEER_RX_BYTES : RegDef :=
  ⟨0x60, .hubs, none, 0x48, 0, 1,
   [⟨0, 48, .ro, false, 0x0⟩]⟩
def PEER_RX_BYTES_COUNT : Fld := ⟨PEER_RX_BYTES, 0, 48⟩
/-- R273: PEER_REPLAYS. -/
def PEER_REPLAYS : RegDef :=
  ⟨0x60, .hubs, none, 0x50, 0, 1,
   [⟨0, 48, .ro, false, 0x0⟩]⟩
def PEER_REPLAYS_COUNT : Fld := ⟨PEER_REPLAYS, 0, 48⟩
/-- R273: PEER_ERR_FRAMES. -/
def PEER_ERR_FRAMES : RegDef :=
  ⟨0x60, .hubs, none, 0x58, 0, 1,
   [⟨0, 48, .ro, false, 0x0⟩]⟩
def PEER_ERR_FRAMES_COUNT : Fld := ⟨PEER_ERR_FRAMES, 0, 48⟩
/-! ### Block UPD (code 0x62) -/

/-- R292: UPD_STATUS. -/
def UPD_STATUS : RegDef :=
  ⟨0x62, .comp, none, 0x0, 0, 1,
   [⟨0, 2, .ro, false, 0x0⟩, ⟨16, 12, .ro, false, 0x0⟩]⟩
def UPD_STATUS_STATE : Fld := ⟨UPD_STATUS, 0, 2⟩
def UPD_STATUS_ENTRY : Fld := ⟨UPD_STATUS, 16, 12⟩
/-- R292: UPD_TABLE. -/
def UPD_TABLE : RegDef :=
  ⟨0x62, .comp, none, 0x8, 0, 1,
   [⟨0, 48, .rw, false, 0x0⟩, ⟨48, 13, .rw, false, 0x0⟩]⟩
def UPD_TABLE_BASE : Fld := ⟨UPD_TABLE, 0, 48⟩
def UPD_TABLE_COUNT : Fld := ⟨UPD_TABLE, 48, 13⟩
/-- R292: UPD_HYPER. -/
def UPD_HYPER : RegDef :=
  ⟨0x62, .comp, none, 0x10, 0, 1,
   [⟨0, 48, .rw, false, 0x0⟩]⟩
def UPD_HYPER_BASE : Fld := ⟨UPD_HYPER, 0, 48⟩
/-- R292: UPD_CFG. -/
def UPD_CFG : RegDef :=
  ⟨0x62, .comp, none, 0x18, 0, 1,
   [⟨0, 32, .rwl, false, 0x0⟩]⟩
def UPD_CFG_KRON_CORES : Fld := ⟨UPD_CFG, 0, 32⟩
/-- R292: UPD_KRON_WORK. -/
def UPD_KRON_WORK : RegDef :=
  ⟨0x62, .comp, none, 0x20, 0, 1,
   [⟨0, 48, .rw, false, 0x0⟩]⟩
def UPD_KRON_WORK_BASE : Fld := ⟨UPD_KRON_WORK, 0, 48⟩
/-- R292: UPD_TABLE_STATUS. -/
def UPD_TABLE_STATUS : RegDef :=
  ⟨0x62, .comp, none, 0x28, 0, 1,
   [⟨0, 8, .ro, false, 0x0⟩, ⟨8, 13, .ro, false, 0x0⟩, ⟨32, 12, .ro, false, 0x0⟩]⟩
def UPD_TABLE_STATUS_STATUS : Fld := ⟨UPD_TABLE_STATUS, 0, 8⟩
def UPD_TABLE_STATUS_INDEX : Fld := ⟨UPD_TABLE_STATUS, 8, 13⟩
def UPD_TABLE_STATUS_STRICT_INDEX : Fld := ⟨UPD_TABLE_STATUS, 32, 12⟩
/-- R292: UPD_ERROR. -/
def UPD_ERROR : RegDef :=
  ⟨0x62, .comp, none, 0x30, 0, 1,
   [⟨0, 1, .w1c, false, 0x0⟩, ⟨1, 1, .w1c, false, 0x0⟩, ⟨2, 1, .w1c, false, 0x0⟩, ⟨3, 1, .w1c, false, 0x0⟩, ⟨4, 1, .w1c, true, 0x0⟩]⟩
def UPD_ERROR_TABLE_FAULT : Fld := ⟨UPD_ERROR, 0, 1⟩
def UPD_ERROR_STRICT_SKIP : Fld := ⟨UPD_ERROR, 1, 1⟩
def UPD_ERROR_NONFINITE : Fld := ⟨UPD_ERROR, 2, 1⟩
def UPD_ERROR_ROOT_FAIL : Fld := ⟨UPD_ERROR, 3, 1⟩
def UPD_ERROR_COMMIT_FAULT : Fld := ⟨UPD_ERROR, 4, 1⟩
/-- R292: UPD_ENTRIES. -/
def UPD_ENTRIES : RegDef :=
  ⟨0x62, .comp, none, 0x40, 0, 1,
   [⟨0, 48, .ro, false, 0x0⟩]⟩
def UPD_ENTRIES_COUNT : Fld := ⟨UPD_ENTRIES, 0, 48⟩
/-- R292: UPD_FROZEN_SKIPS. -/
def UPD_FROZEN_SKIPS : RegDef :=
  ⟨0x62, .comp, none, 0x48, 0, 1,
   [⟨0, 48, .ro, false, 0x0⟩]⟩
def UPD_FROZEN_SKIPS_COUNT : Fld := ⟨UPD_FROZEN_SKIPS, 0, 48⟩
/-- R292: UPD_NONFINITE. -/
def UPD_NONFINITE : RegDef :=
  ⟨0x62, .comp, none, 0x50, 0, 1,
   [⟨0, 48, .ro, false, 0x0⟩]⟩
def UPD_NONFINITE_COUNT : Fld := ⟨UPD_NONFINITE, 0, 48⟩
/-- R292: UPD_ROOTS. -/
def UPD_ROOTS : RegDef :=
  ⟨0x62, .comp, none, 0x58, 0, 1,
   [⟨0, 48, .ro, false, 0x0⟩]⟩
def UPD_ROOTS_COUNT : Fld := ⟨UPD_ROOTS, 0, 48⟩
/-- R292: UPD_ROOT_FAILS. -/
def UPD_ROOT_FAILS : RegDef :=
  ⟨0x62, .comp, none, 0x60, 0, 1,
   [⟨0, 48, .ro, false, 0x0⟩]⟩
def UPD_ROOT_FAILS_COUNT : Fld := ⟨UPD_ROOT_FAILS, 0, 48⟩
/-- R292: UPD_BYTES. -/
def UPD_BYTES : RegDef :=
  ⟨0x62, .comp, none, 0x68, 0, 1,
   [⟨0, 48, .ro, false, 0x0⟩]⟩
def UPD_BYTES_COUNT : Fld := ⟨UPD_BYTES, 0, 48⟩
/-! ### Block ARB (code 0x5) -/

/-- R318: ARB_STATUS. -/
def ARB_STATUS : RegDef :=
  ⟨0x5, .every, none, 0x0, 0, 1,
   [⟨0, 3, .ro, false, 0x0⟩, ⟨3, 1, .ro, false, 0x0⟩, ⟨4, 6, .ro, false, 0x0⟩, ⟨16, 6, .ro, false, 0x3f⟩, ⟨22, 1, .ro, false, 0x0⟩, ⟨23, 1, .ro, false, 0x0⟩]⟩
def ARB_STATUS_TYPE : Fld := ⟨ARB_STATUS, 0, 3⟩
def ARB_STATUS_HAS_FREEZE : Fld := ⟨ARB_STATUS, 3, 1⟩
def ARB_STATUS_REQUESTERS : Fld := ⟨ARB_STATUS, 4, 6⟩
def ARB_STATUS_BURST_OWNER : Fld := ⟨ARB_STATUS, 16, 6⟩
def ARB_STATUS_AGED_2 : Fld := ⟨ARB_STATUS, 22, 1⟩
def ARB_STATUS_AGED_3 : Fld := ⟨ARB_STATUS, 23, 1⟩
/-- R318: ARB_CFG. -/
def ARB_CFG : RegDef :=
  ⟨0x5, .every, none, 0x8, 0, 1,
   [⟨0, 16, .rwl, false, 0x40⟩]⟩
def ARB_CFG_AGING : Fld := ⟨ARB_CFG, 0, 16⟩
/-- R318: ARB_FREEZE. -/
def ARB_FREEZE : RegDef :=
  ⟨0x5, .every, none, 0x10, 0, 1,
   [⟨0, 1, .rw, false, 0x0⟩, ⟨1, 1, .ro, false, 0x0⟩]⟩
def ARB_FREEZE_FREEZE : Fld := ⟨ARB_FREEZE, 0, 1⟩
def ARB_FREEZE_DRAINED : Fld := ⟨ARB_FREEZE, 1, 1⟩
/-- R318: ARB_REQ_CFG. -/
def ARB_REQ_CFG : RegDef :=
  ⟨0x5, .every, none, 0x100, 8, 32,
   [⟨0, 2, .rwl, false, 0x0⟩, ⟨2, 1, .rwl, false, 0x0⟩, ⟨3, 2, .ro, false, 0x0⟩, ⟨5, 1, .ro, false, 0x0⟩, ⟨6, 1, .ro, false, 0x0⟩, ⟨8, 8, .ro, false, 0x0⟩]⟩
def ARB_REQ_CFG_CLASS : Fld := ⟨ARB_REQ_CFG, 0, 2⟩
def ARB_REQ_CFG_PREEMPT : Fld := ⟨ARB_REQ_CFG, 2, 1⟩
def ARB_REQ_CFG_KIND : Fld := ⟨ARB_REQ_CFG, 3, 2⟩
def ARB_REQ_CFG_MASKED : Fld := ⟨ARB_REQ_CFG, 5, 1⟩
def ARB_REQ_CFG_PENDING : Fld := ⟨ARB_REQ_CFG, 6, 1⟩
def ARB_REQ_CFG_PROGRESS : Fld := ⟨ARB_REQ_CFG, 8, 8⟩
/-- R318: ARB_GRANTS. -/
def ARB_GRANTS : RegDef :=
  ⟨0x5, .every, none, 0x1000, 32, 32,
   [⟨0, 48, .ro, false, 0x0⟩]⟩
def ARB_GRANTS_COUNT : Fld := ⟨ARB_GRANTS, 0, 48⟩
/-- R318: ARB_WAIT. -/
def ARB_WAIT : RegDef :=
  ⟨0x5, .every, none, 0x1008, 32, 32,
   [⟨0, 48, .ro, false, 0x0⟩]⟩
def ARB_WAIT_COUNT : Fld := ⟨ARB_WAIT, 0, 48⟩
/-- R318: ARB_LONGEST. -/
def ARB_LONGEST : RegDef :=
  ⟨0x5, .every, none, 0x1010, 32, 32,
   [⟨0, 24, .rc, false, 0x0⟩]⟩
def ARB_LONGEST_CYCLES : Fld := ⟨ARB_LONGEST, 0, 24⟩
/-! ### Block WEAVE (code 0x40) -/

/-- R335: WEAVE_STATUS. -/
def WEAVE_STATUS : RegDef :=
  ⟨0x40, .every, none, 0x0, 0, 1,
   [⟨0, 2, .ro, false, 0x0⟩, ⟨2, 1, .ro, false, 0x0⟩, ⟨3, 1, .ro, false, 0x0⟩, ⟨4, 1, .ro, false, 0x0⟩, ⟨8, 4, .ro, false, 0x0⟩]⟩
def WEAVE_STATUS_STATE : Fld := ⟨WEAVE_STATUS, 0, 2⟩
def WEAVE_STATUS_HALF : Fld := ⟨WEAVE_STATUS, 2, 1⟩
def WEAVE_STATUS_GROUP : Fld := ⟨WEAVE_STATUS, 3, 1⟩
def WEAVE_STATUS_LEADER : Fld := ⟨WEAVE_STATUS, 4, 1⟩
def WEAVE_STATUS_PARTNER : Fld := ⟨WEAVE_STATUS, 8, 4⟩
/-- R335: WEAVE_CFG. -/
def WEAVE_CFG : RegDef :=
  ⟨0x40, .every, none, 0x8, 0, 1,
   [⟨0, 1, .rwl, false, 0x0⟩, ⟨8, 8, .rwl, false, 0x8⟩]⟩
def WEAVE_CFG_MAX_HALF : Fld := ⟨WEAVE_CFG, 0, 1⟩
def WEAVE_CFG_REPLAY_LIMIT : Fld := ⟨WEAVE_CFG, 8, 8⟩
/-- R335: WEAVE_CTRL. -/
def WEAVE_CTRL : RegDef :=
  ⟨0x40, .every, none, 0x10, 0, 1,
   [⟨0, 1, .wo, false, 0x0⟩]⟩
def WEAVE_CTRL_RETRAIN : Fld := ⟨WEAVE_CTRL, 0, 1⟩
/-- R335: WEAVE_ERROR. -/
def WEAVE_ERROR : RegDef :=
  ⟨0x40, .every, none, 0x18, 0, 1,
   [⟨0, 1, .w1c, false, 0x0⟩, ⟨1, 1, .w1c, true, 0x0⟩, ⟨2, 1, .w1c, true, 0x0⟩]⟩
def WEAVE_ERROR_DOWN : Fld := ⟨WEAVE_ERROR, 0, 1⟩
def WEAVE_ERROR_WIDTH_DROP : Fld := ⟨WEAVE_ERROR, 1, 1⟩
def WEAVE_ERROR_REPLAY_FAIL : Fld := ⟨WEAVE_ERROR, 2, 1⟩
/-- R335: WEAVE_TX_WORDS. -/
def WEAVE_TX_WORDS : RegDef :=
  ⟨0x40, .every, none, 0x40, 0, 1,
   [⟨0, 48, .ro, false, 0x0⟩]⟩
def WEAVE_TX_WORDS_COUNT : Fld := ⟨WEAVE_TX_WORDS, 0, 48⟩
/-- R335: WEAVE_RX_WORDS. -/
def WEAVE_RX_WORDS : RegDef :=
  ⟨0x40, .every, none, 0x48, 0, 1,
   [⟨0, 48, .ro, false, 0x0⟩]⟩
def WEAVE_RX_WORDS_COUNT : Fld := ⟨WEAVE_RX_WORDS, 0, 48⟩
/-- R335: WEAVE_CRC_ERRS. -/
def WEAVE_CRC_ERRS : RegDef :=
  ⟨0x40, .every, none, 0x50, 0, 1,
   [⟨0, 48, .ro, false, 0x0⟩]⟩
def WEAVE_CRC_ERRS_COUNT : Fld := ⟨WEAVE_CRC_ERRS, 0, 48⟩
/-- R335: WEAVE_REPLAYS. -/
def WEAVE_REPLAYS : RegDef :=
  ⟨0x40, .every, none, 0x58, 0, 1,
   [⟨0, 48, .ro, false, 0x0⟩]⟩
def WEAVE_REPLAYS_COUNT : Fld := ⟨WEAVE_REPLAYS, 0, 48⟩
/-- R335: WEAVE_RETRAINS. -/
def WEAVE_RETRAINS : RegDef :=
  ⟨0x40, .every, none, 0x60, 0, 1,
   [⟨0, 48, .ro, false, 0x0⟩]⟩
def WEAVE_RETRAINS_COUNT : Fld := ⟨WEAVE_RETRAINS, 0, 48⟩
/-- R335: WEAVE_DISCARDED. -/
def WEAVE_DISCARDED : RegDef :=
  ⟨0x40, .every, none, 0x68, 0, 1,
   [⟨0, 48, .ro, false, 0x0⟩]⟩
def WEAVE_DISCARDED_COUNT : Fld := ⟨WEAVE_DISCARDED, 0, 48⟩
/-! ### Block SEAM (code 0x41) -/

/-- R336: SEAM_STATUS. -/
def SEAM_STATUS : RegDef :=
  ⟨0x41, .hubs, none, 0x0, 0, 1,
   [⟨0, 3, .ro, false, 0x0⟩, ⟨3, 1, .ro, false, 0x0⟩, ⟨4, 1, .ro, false, 0x0⟩]⟩
def SEAM_STATUS_STATE : Fld := ⟨SEAM_STATUS, 0, 3⟩
def SEAM_STATUS_FORCED : Fld := ⟨SEAM_STATUS, 3, 1⟩
def SEAM_STATUS_PARTNER_RESET : Fld := ⟨SEAM_STATUS, 4, 1⟩
/-- R336: SEAM_WIDTH_STATUS. -/
def SEAM_WIDTH_STATUS : RegDef :=
  ⟨0x41, .hubs, none, 0x8, 0, 1,
   [⟨0, 7, .ro, false, 0x0⟩, ⟨8, 7, .ro, false, 0x0⟩, ⟨16, 7, .ro, false, 0x0⟩, ⟨24, 7, .ro, false, 0x0⟩, ⟨32, 8, .ro, false, 0x0⟩, ⟨40, 6, .ro, false, 0x0⟩, ⟨46, 2, .ro, false, 0x0⟩]⟩
def SEAM_WIDTH_STATUS_WIDTH : Fld := ⟨SEAM_WIDTH_STATUS, 0, 7⟩
def SEAM_WIDTH_STATUS_OWN_ADV : Fld := ⟨SEAM_WIDTH_STATUS, 8, 7⟩
def SEAM_WIDTH_STATUS_PARTNER_ADV : Fld := ⟨SEAM_WIDTH_STATUS, 16, 7⟩
def SEAM_WIDTH_STATUS_CEILING : Fld := ⟨SEAM_WIDTH_STATUS, 24, 7⟩
def SEAM_WIDTH_STATUS_WG_USED : Fld := ⟨SEAM_WIDTH_STATUS, 32, 8⟩
def SEAM_WIDTH_STATUS_SAFE_LANE : Fld := ⟨SEAM_WIDTH_STATUS, 40, 6⟩
def SEAM_WIDTH_STATUS_FAILS : Fld := ⟨SEAM_WIDTH_STATUS, 46, 2⟩
/-- R336: SEAM_LANES. -/
def SEAM_LANES : RegDef :=
  ⟨0x41, .hubs, none, 0x10, 0, 1,
   [⟨0, 64, .ro, false, 0x0⟩]⟩
def SEAM_LANES_MASK : Fld := ⟨SEAM_LANES, 0, 64⟩
/-- R336: SEAM_PARTNER_LANES. -/
def SEAM_PARTNER_LANES : RegDef :=
  ⟨0x41, .hubs, none, 0x18, 0, 1,
   [⟨0, 64, .ro, false, 0x0⟩]⟩
def SEAM_PARTNER_LANES_MASK : Fld := ⟨SEAM_PARTNER_LANES, 0, 64⟩
/-- R336: SEAM_CFG. -/
def SEAM_CFG : RegDef :=
  ⟨0x41, .hubs, none, 0x20, 0, 1,
   [⟨0, 8, .rwl, false, 0x40⟩, ⟨8, 8, .rwl, false, 0x8⟩]⟩
def SEAM_CFG_MAX_WIDTH : Fld := ⟨SEAM_CFG, 0, 8⟩
def SEAM_CFG_REPLAY_LIMIT : Fld := ⟨SEAM_CFG, 8, 8⟩
/-- R336: SEAM_TIMING. -/
def SEAM_TIMING : RegDef :=
  ⟨0x41, .hubs, none, 0x28, 0, 1,
   [⟨0, 16, .rw, false, 0x156⟩, ⟨16, 16, .rw, false, 0x6ad⟩, ⟨32, 16, .rw, false, 0xab⟩, ⟨48, 8, .rw, false, 0x37⟩]⟩
def SEAM_TIMING_LANE_TEST : Fld := ⟨SEAM_TIMING, 0, 16⟩
def SEAM_TIMING_AGREE_LIMIT : Fld := ⟨SEAM_TIMING, 16, 16⟩
def SEAM_TIMING_CONFIRM : Fld := ⟨SEAM_TIMING, 32, 16⟩
def SEAM_TIMING_LOSS_LIMIT : Fld := ⟨SEAM_TIMING, 48, 8⟩
/-- R336: SEAM_CTRL. -/
def SEAM_CTRL : RegDef :=
  ⟨0x41, .hubs, none, 0x30, 0, 1,
   [⟨0, 1, .wo, false, 0x0⟩]⟩
def SEAM_CTRL_RETRAIN : Fld := ⟨SEAM_CTRL, 0, 1⟩
/-- R336: SEAM_ERROR. -/
def SEAM_ERROR : RegDef :=
  ⟨0x41, .hubs, none, 0x38, 0, 1,
   [⟨0, 1, .w1c, true, 0x0⟩, ⟨1, 1, .w1c, true, 0x0⟩, ⟨2, 1, .w1c, false, 0x0⟩, ⟨3, 1, .w1c, true, 0x0⟩]⟩
def SEAM_ERROR_WIDTH_FAULT : Fld := ⟨SEAM_ERROR, 0, 1⟩
def SEAM_ERROR_LANE_FAULT : Fld := ⟨SEAM_ERROR, 1, 1⟩
def SEAM_ERROR_DOWN : Fld := ⟨SEAM_ERROR, 2, 1⟩
def SEAM_ERROR_REPLAY_FAIL : Fld := ⟨SEAM_ERROR, 3, 1⟩
/-- R336: SEAM_TX_FLITS. -/
def SEAM_TX_FLITS : RegDef :=
  ⟨0x41, .hubs, none, 0x40, 0, 1,
   [⟨0, 48, .ro, false, 0x0⟩]⟩
def SEAM_TX_FLITS_COUNT : Fld := ⟨SEAM_TX_FLITS, 0, 48⟩
/-- R336: SEAM_RX_FLITS. -/
def SEAM_RX_FLITS : RegDef :=
  ⟨0x41, .hubs, none, 0x48, 0, 1,
   [⟨0, 48, .ro, false, 0x0⟩]⟩
def SEAM_RX_FLITS_COUNT : Fld := ⟨SEAM_RX_FLITS, 0, 48⟩
/-- R336: SEAM_CRC_ERRS. -/
def SEAM_CRC_ERRS : RegDef :=
  ⟨0x41, .hubs, none, 0x50, 0, 1,
   [⟨0, 48, .ro, false, 0x0⟩]⟩
def SEAM_CRC_ERRS_COUNT : Fld := ⟨SEAM_CRC_ERRS, 0, 48⟩
/-- R336: SEAM_REPLAYS. -/
def SEAM_REPLAYS : RegDef :=
  ⟨0x41, .hubs, none, 0x58, 0, 1,
   [⟨0, 48, .ro, false, 0x0⟩]⟩
def SEAM_REPLAYS_COUNT : Fld := ⟨SEAM_REPLAYS, 0, 48⟩
/-- R336: SEAM_RETRAINS. -/
def SEAM_RETRAINS : RegDef :=
  ⟨0x41, .hubs, none, 0x60, 0, 1,
   [⟨0, 48, .ro, false, 0x0⟩]⟩
def SEAM_RETRAINS_COUNT : Fld := ⟨SEAM_RETRAINS, 0, 48⟩
/-- R336: SEAM_MISMATCHES. -/
def SEAM_MISMATCHES : RegDef :=
  ⟨0x41, .hubs, none, 0x68, 0, 1,
   [⟨0, 48, .ro, false, 0x0⟩]⟩
def SEAM_MISMATCHES_COUNT : Fld := ⟨SEAM_MISMATCHES, 0, 48⟩
/-- R336: SEAM_DISCARDED. -/
def SEAM_DISCARDED : RegDef :=
  ⟨0x41, .hubs, none, 0x70, 0, 1,
   [⟨0, 48, .ro, false, 0x0⟩]⟩
def SEAM_DISCARDED_COUNT : Fld := ⟨SEAM_DISCARDED, 0, 48⟩
/-- R336: SEAM_FAILED_AGREEMENTS. -/
def SEAM_FAILED_AGREEMENTS : RegDef :=
  ⟨0x41, .hubs, none, 0x78, 0, 1,
   [⟨0, 48, .ro, false, 0x0⟩]⟩
def SEAM_FAILED_AGREEMENTS_COUNT : Fld := ⟨SEAM_FAILED_AGREEMENTS, 0, 48⟩
/-! ### Block CLK (code 0x2) -/

/-- R354: CLK_STATUS. -/
def CLK_STATUS : RegDef :=
  ⟨0x2, .every, none, 0x0, 0, 1,
   [⟨0, 1, .ro, false, 0x0⟩, ⟨1, 1, .ro, false, 0x0⟩, ⟨2, 1, .w1c, true, 0x0⟩, ⟨8, 8, .ro, false, 0x0⟩]⟩
def CLK_STATUS_REF100 : Fld := ⟨CLK_STATUS, 0, 1⟩
def CLK_STATUS_REF156 : Fld := ⟨CLK_STATUS, 1, 1⟩
def CLK_STATUS_REF_LOST : Fld := ⟨CLK_STATUS, 2, 1⟩
def CLK_STATUS_DOMAINS : Fld := ⟨CLK_STATUS, 8, 8⟩
/-- R354: CLK_DOMAIN. -/
def CLK_DOMAIN : RegDef :=
  ⟨0x2, .every, none, 0x100, 8, 12,
   [⟨0, 8, .ro, false, 0x0⟩, ⟨8, 24, .rwl, false, 0x0⟩, ⟨32, 1, .ro, false, 0x0⟩, ⟨33, 1, .ro, false, 0x0⟩, ⟨34, 1, .w1c, true, 0x0⟩]⟩
def CLK_DOMAIN_NUMBER : Fld := ⟨CLK_DOMAIN, 0, 8⟩
def CLK_DOMAIN_FREQ : Fld := ⟨CLK_DOMAIN, 8, 24⟩
def CLK_DOMAIN_LOCKED : Fld := ⟨CLK_DOMAIN, 32, 1⟩
def CLK_DOMAIN_RUNNING : Fld := ⟨CLK_DOMAIN, 33, 1⟩
def CLK_DOMAIN_LOCK_LOST : Fld := ⟨CLK_DOMAIN, 34, 1⟩
/-- R354: CLK_COUNT. -/
def CLK_COUNT : RegDef :=
  ⟨0x2, .every, none, 0x200, 8, 12,
   [⟨0, 64, .ro, false, 0x0⟩]⟩
def CLK_COUNT_COUNT : Fld := ⟨CLK_COUNT, 0, 64⟩
/-- R354: CLK_FENCE_LIMIT. -/
def CLK_FENCE_LIMIT : RegDef :=
  ⟨0x2, .am, none, 0x400, 0, 1,
   [⟨0, 24, .rw, false, 0x5f5e1⟩]⟩
def CLK_FENCE_LIMIT_LIMIT : Fld := ⟨CLK_FENCE_LIMIT, 0, 24⟩
/-- R354: CLK_FENCE_STATUS. -/
def CLK_FENCE_STATUS : RegDef :=
  ⟨0x2, .am, none, 0x408, 0, 1,
   [⟨0, 5, .ro, false, 0x0⟩, ⟨8, 8, .ro, false, 0x0⟩]⟩
def CLK_FENCE_STATUS_OUTSTANDING : Fld := ⟨CLK_FENCE_STATUS, 0, 5⟩
def CLK_FENCE_STATUS_LAST_STATUS : Fld := ⟨CLK_FENCE_STATUS, 8, 8⟩
/-- R354: CLK_FENCES. -/
def CLK_FENCES : RegDef :=
  ⟨0x2, .am, none, 0x440, 0, 1,
   [⟨0, 48, .ro, false, 0x0⟩]⟩
def CLK_FENCES_COUNT : Fld := ⟨CLK_FENCES, 0, 48⟩
/-- R354: CLK_FENCE_FAILS. -/
def CLK_FENCE_FAILS : RegDef :=
  ⟨0x2, .am, none, 0x448, 0, 1,
   [⟨0, 48, .ro, false, 0x0⟩]⟩
def CLK_FENCE_FAILS_COUNT : Fld := ⟨CLK_FENCE_FAILS, 0, 48⟩
/-! ### Block PWR (code 0x3) -/

/-- R365: PWR_STATUS. -/
def PWR_STATUS : RegDef :=
  ⟨0x3, .every, none, 0x0, 0, 1,
   [⟨0, 8, .ro, false, 0x0⟩, ⟨8, 4, .ro, false, 0x0⟩, ⟨12, 1, .ro, false, 0x0⟩, ⟨13, 1, .ro, false, 0x0⟩, ⟨14, 1, .ro, false, 0x0⟩]⟩
def PWR_STATUS_TEMP : Fld := ⟨PWR_STATUS, 0, 8⟩
def PWR_STATUS_LEVEL : Fld := ⟨PWR_STATUS, 8, 4⟩
def PWR_STATUS_THROTTLING : Fld := ⟨PWR_STATUS, 12, 1⟩
def PWR_STATUS_TRIPPED : Fld := ⟨PWR_STATUS, 13, 1⟩
def PWR_STATUS_POWERED : Fld := ⟨PWR_STATUS, 14, 1⟩
/-- R365: PWR_CFG. -/
def PWR_CFG : RegDef :=
  ⟨0x3, .every, none, 0x8, 0, 1,
   [⟨0, 8, .rw, false, 0x5f⟩]⟩
def PWR_CFG_THROTTLE_TEMP : Fld := ⟨PWR_CFG, 0, 8⟩
/-- R365: PWR_ERROR. -/
def PWR_ERROR : RegDef :=
  ⟨0x3, .every, none, 0x10, 0, 1,
   [⟨0, 1, .w1c, false, 0x0⟩, ⟨1, 1, .w1c, true, 0x0⟩, ⟨2, 1, .w1c, false, 0x0⟩, ⟨3, 1, .w1c, false, 0x0⟩, ⟨4, 1, .w1c, false, 0x0⟩, ⟨5, 1, .w1c, false, 0x0⟩, ⟨6, 1, .w1c, false, 0x0⟩, ⟨7, 1, .w1c, false, 0x0⟩]⟩
def PWR_ERROR_THERMAL_THROTTLE : Fld := ⟨PWR_ERROR, 0, 1⟩
def PWR_ERROR_THERMAL_TRIP : Fld := ⟨PWR_ERROR, 1, 1⟩
def PWR_ERROR_VIN_LOW : Fld := ⟨PWR_ERROR, 2, 1⟩
def PWR_ERROR_VIN_HIGH : Fld := ⟨PWR_ERROR, 3, 1⟩
def PWR_ERROR_POWER_CAP : Fld := ⟨PWR_ERROR, 4, 1⟩
def PWR_ERROR_EXCURSION : Fld := ⟨PWR_ERROR, 5, 1⟩
def PWR_ERROR_FLOW_LOW : Fld := ⟨PWR_ERROR, 6, 1⟩
def PWR_ERROR_COOLANT_HOT : Fld := ⟨PWR_ERROR, 7, 1⟩
/-- R365: PWR_INPUT. -/
def PWR_INPUT : RegDef :=
  ⟨0x3, .am, none, 0x18, 0, 1,
   [⟨0, 16, .ro, false, 0x0⟩, ⟨16, 16, .ro, false, 0x0⟩, ⟨32, 16, .ro, false, 0x0⟩, ⟨48, 1, .ro, false, 0x0⟩, ⟨49, 4, .ro, false, 0x0⟩]⟩
def PWR_INPUT_VIN : Fld := ⟨PWR_INPUT, 0, 16⟩
def PWR_INPUT_PIN : Fld := ⟨PWR_INPUT, 16, 16⟩
def PWR_INPUT_PIN_AVG : Fld := ⟨PWR_INPUT, 32, 16⟩
def PWR_INPUT_J20_MODE : Fld := ⟨PWR_INPUT, 48, 1⟩
def PWR_INPUT_CAP_LEVEL : Fld := ⟨PWR_INPUT, 49, 4⟩
/-- R365: PWR_LIMITS. -/
def PWR_LIMITS : RegDef :=
  ⟨0x3, .am, none, 0x20, 0, 1,
   [⟨0, 16, .rw, false, 0x1518⟩]⟩
def PWR_LIMITS_CAP : Fld := ⟨PWR_LIMITS, 0, 16⟩
/-- R365: PWR_COOLANT. -/
def PWR_COOLANT : RegDef :=
  ⟨0x3, .am, none, 0x28, 0, 1,
   [⟨0, 8, .ro, false, 0x0⟩, ⟨8, 8, .ro, false, 0x0⟩, ⟨16, 16, .ro, false, 0x0⟩]⟩
def PWR_COOLANT_T_IN : Fld := ⟨PWR_COOLANT, 0, 8⟩
def PWR_COOLANT_T_OUT : Fld := ⟨PWR_COOLANT, 8, 8⟩
def PWR_COOLANT_FLOW : Fld := ⟨PWR_COOLANT, 16, 16⟩
/-- R365: PWR_THROTTLED. -/
def PWR_THROTTLED : RegDef :=
  ⟨0x3, .comp, none, 0x40, 0, 1,
   [⟨0, 48, .ro, false, 0x0⟩]⟩
def PWR_THROTTLED_COUNT : Fld := ⟨PWR_THROTTLED, 0, 48⟩
/-- R365: PWR_ENERGY. -/
def PWR_ENERGY : RegDef :=
  ⟨0x3, .am, none, 0x48, 0, 1,
   [⟨0, 48, .ro, false, 0x0⟩]⟩
def PWR_ENERGY_COUNT : Fld := ⟨PWR_ENERGY, 0, 48⟩
/-! ### Block ETH (code 0x50) -/

/-- R390: ETH_STATUS. -/
def ETH_STATUS : RegDef :=
  ⟨0x50, .am, none, 0x0, 0, 1,
   [⟨0, 1, .ro, false, 0x0⟩, ⟨1, 2, .ro, false, 0x0⟩, ⟨8, 8, .ro, false, 0x0⟩]⟩
def ETH_STATUS_LINK_UP : Fld := ⟨ETH_STATUS, 0, 1⟩
def ETH_STATUS_SPEED : Fld := ⟨ETH_STATUS, 1, 2⟩
def ETH_STATUS_LANES_LOCKED : Fld := ⟨ETH_STATUS, 8, 8⟩
/-- R390: ETH_CFG. -/
def ETH_CFG : RegDef :=
  ⟨0x50, .am, none, 0x8, 0, 1,
   [⟨0, 3, .rw, false, 0x7⟩, ⟨3, 1, .rw, false, 0x1⟩, ⟨4, 3, .rw, false, 0x0⟩, ⟨8, 8, .rw, false, 0x8⟩]⟩
def ETH_CFG_SPEEDS : Fld := ⟨ETH_CFG, 0, 3⟩
def ETH_CFG_MTU : Fld := ⟨ETH_CFG, 3, 1⟩
def ETH_CFG_OCT_PRIO : Fld := ⟨ETH_CFG, 4, 3⟩
def ETH_CFG_PFC_RX : Fld := ⟨ETH_CFG, 8, 8⟩
/-- R390: ETH_MAC. -/
def ETH_MAC : RegDef :=
  ⟨0x50, .am, none, 0x10, 0, 1,
   [⟨0, 48, .ro, false, 0x0⟩]⟩
def ETH_MAC_MAC : Fld := ⟨ETH_MAC, 0, 48⟩
/-- R390: ETH_IP4. -/
def ETH_IP4 : RegDef :=
  ⟨0x50, .am, none, 0x18, 0, 1,
   [⟨0, 32, .rw, false, 0x0⟩, ⟨32, 6, .rw, false, 0x0⟩, ⟨38, 1, .rw, false, 0x0⟩]⟩
def ETH_IP4_ADDR : Fld := ⟨ETH_IP4, 0, 32⟩
def ETH_IP4_PREFIX : Fld := ⟨ETH_IP4, 32, 6⟩
def ETH_IP4_VALID : Fld := ⟨ETH_IP4, 38, 1⟩
/-- R390: ETH_GW4. -/
def ETH_GW4 : RegDef :=
  ⟨0x50, .am, none, 0x20, 0, 1,
   [⟨0, 32, .rw, false, 0x0⟩]⟩
def ETH_GW4_ADDR : Fld := ⟨ETH_GW4, 0, 32⟩
/-- R390: ETH_IP6. -/
def ETH_IP6 : RegDef :=
  ⟨0x50, .am, none, 0x28, 8, 4,
   [⟨0, 64, .rw, false, 0x0⟩]⟩
def ETH_IP6_WORD : Fld := ⟨ETH_IP6, 0, 64⟩
/-- R390: ETH_IP6_CFG. -/
def ETH_IP6_CFG : RegDef :=
  ⟨0x50, .am, none, 0x48, 0, 1,
   [⟨0, 8, .rw, false, 0x0⟩, ⟨8, 1, .rw, false, 0x0⟩]⟩
def ETH_IP6_CFG_PREFIX : Fld := ⟨ETH_IP6_CFG, 0, 8⟩
def ETH_IP6_CFG_VALID : Fld := ⟨ETH_IP6_CFG, 8, 1⟩
/-- R390: ETH_ERROR. -/
def ETH_ERROR : RegDef :=
  ⟨0x50, .am, none, 0x50, 0, 1,
   [⟨0, 1, .w1c, false, 0x0⟩, ⟨1, 1, .w1c, false, 0x0⟩]⟩
def ETH_ERROR_LINK_DOWN : Fld := ⟨ETH_ERROR, 0, 1⟩
def ETH_ERROR_FEC_UNCORR : Fld := ⟨ETH_ERROR, 1, 1⟩
/-- R390: ETH_RX_FRAMES. -/
def ETH_RX_FRAMES : RegDef :=
  ⟨0x50, .am, none, 0x100, 0, 1,
   [⟨0, 48, .ro, false, 0x0⟩]⟩
def ETH_RX_FRAMES_COUNT : Fld := ⟨ETH_RX_FRAMES, 0, 48⟩
/-- R390: ETH_TX_FRAMES. -/
def ETH_TX_FRAMES : RegDef :=
  ⟨0x50, .am, none, 0x108, 0, 1,
   [⟨0, 48, .ro, false, 0x0⟩]⟩
def ETH_TX_FRAMES_COUNT : Fld := ⟨ETH_TX_FRAMES, 0, 48⟩
/-- R390: ETH_FEC_CORR. -/
def ETH_FEC_CORR : RegDef :=
  ⟨0x50, .am, none, 0x110, 0, 1,
   [⟨0, 48, .ro, false, 0x0⟩]⟩
def ETH_FEC_CORR_COUNT : Fld := ⟨ETH_FEC_CORR, 0, 48⟩
/-- R390: ETH_FEC_UNCORR. -/
def ETH_FEC_UNCORR : RegDef :=
  ⟨0x50, .am, none, 0x118, 0, 1,
   [⟨0, 48, .ro, false, 0x0⟩]⟩
def ETH_FEC_UNCORR_COUNT : Fld := ⟨ETH_FEC_UNCORR, 0, 48⟩
/-- R390: ETH_PFC_TX. -/
def ETH_PFC_TX : RegDef :=
  ⟨0x50, .am, none, 0x120, 0, 1,
   [⟨0, 48, .ro, false, 0x0⟩]⟩
def ETH_PFC_TX_COUNT : Fld := ⟨ETH_PFC_TX, 0, 48⟩
/-- R390: ETH_PFC_RX. -/
def ETH_PFC_RX : RegDef :=
  ⟨0x50, .am, none, 0x128, 0, 1,
   [⟨0, 48, .ro, false, 0x0⟩]⟩
def ETH_PFC_RX_COUNT : Fld := ⟨ETH_PFC_RX, 0, 48⟩
/-- R390: ETH_DISCARDS. -/
def ETH_DISCARDS : RegDef :=
  ⟨0x50, .am, none, 0x130, 0, 1,
   [⟨0, 48, .ro, false, 0x0⟩]⟩
def ETH_DISCARDS_COUNT : Fld := ⟨ETH_DISCARDS, 0, 48⟩
/-! ### Block OCT (code 0x51) -/

/-- R391: OCT_CFG. -/
def OCT_CFG : RegDef :=
  ⟨0x51, .am, none, 0x0, 0, 1,
   [⟨0, 8, .rw, false, 0x2⟩, ⟨8, 24, .rw, false, 0x3b9aca⟩]⟩
def OCT_CFG_MAX_VERSION : Fld := ⟨OCT_CFG, 0, 8⟩
def OCT_CFG_IDLE : Fld := ⟨OCT_CFG, 8, 24⟩
/-- R391: OCT_STATUS. -/
def OCT_STATUS : RegDef :=
  ⟨0x51, .am, none, 0x8, 0, 1,
   [⟨0, 5, .ro, false, 0x0⟩]⟩
def OCT_STATUS_SESSIONS : Fld := ⟨OCT_STATUS, 0, 5⟩
/-- R391: OCT_CTX_DRAIN_LIMIT. -/
def OCT_CTX_DRAIN_LIMIT : RegDef :=
  ⟨0x51, .am, none, 0x10, 0, 1,
   [⟨0, 24, .rw, false, 0x5f5e1⟩]⟩
def OCT_CTX_DRAIN_LIMIT_LIMIT : Fld := ⟨OCT_CTX_DRAIN_LIMIT, 0, 24⟩
/-- R391: OCT_CTX. -/
def OCT_CTX : RegDef :=
  ⟨0x51, .am, none, 0x400, 8, 64,
   [⟨0, 2, .ro, false, 0x0⟩, ⟨2, 2, .ro, false, 0x0⟩, ⟨4, 1, .ro, false, 0x0⟩, ⟨5, 1, .w1c, false, 0x0⟩, ⟨8, 8, .ro, false, 0x0⟩, ⟨16, 24, .ro, false, 0x0⟩]⟩
def OCT_CTX_STATE : Fld := ⟨OCT_CTX, 0, 2⟩
def OCT_CTX_PARTITION : Fld := ⟨OCT_CTX, 2, 2⟩
def OCT_CTX_ASSIGNED : Fld := ⟨OCT_CTX, 4, 1⟩
def OCT_CTX_ESCALATED : Fld := ⟨OCT_CTX, 5, 1⟩
def OCT_CTX_GEN : Fld := ⟨OCT_CTX, 8, 8⟩
def OCT_CTX_OUTSTANDING : Fld := ⟨OCT_CTX, 16, 24⟩
/-- R391: OCT_SUB_ADDR_HI. -/
def OCT_SUB_ADDR_HI : RegDef :=
  ⟨0x51, .am, none, 0x100, 24, 8,
   [⟨0, 64, .rw, false, 0x0⟩]⟩
def OCT_SUB_ADDR_HI_ADDR : Fld := ⟨OCT_SUB_ADDR_HI, 0, 64⟩
/-- R391: OCT_SUB_ADDR_LO. -/
def OCT_SUB_ADDR_LO : RegDef :=
  ⟨0x51, .am, none, 0x108, 24, 8,
   [⟨0, 64, .rw, false, 0x0⟩]⟩
def OCT_SUB_ADDR_LO_ADDR : Fld := ⟨OCT_SUB_ADDR_LO, 0, 64⟩
/-- R391: OCT_SUB_CFG. -/
def OCT_SUB_CFG : RegDef :=
  ⟨0x51, .am, none, 0x110, 24, 8,
   [⟨0, 3, .rw, false, 0x0⟩, ⟨16, 16, .rw, false, 0x0⟩, ⟨32, 32, .ro, false, 0x0⟩]⟩
def OCT_SUB_CFG_CLASSES : Fld := ⟨OCT_SUB_CFG, 0, 3⟩
def OCT_SUB_CFG_PORT : Fld := ⟨OCT_SUB_CFG, 16, 16⟩
def OCT_SUB_CFG_SENT : Fld := ⟨OCT_SUB_CFG, 32, 32⟩
/-- R391: OCT_REQUESTS. -/
def OCT_REQUESTS : RegDef :=
  ⟨0x51, .am, none, 0x600, 0, 1,
   [⟨0, 48, .ro, false, 0x0⟩]⟩
def OCT_REQUESTS_COUNT : Fld := ⟨OCT_REQUESTS, 0, 48⟩
/-- R391: OCT_DUPLICATES. -/
def OCT_DUPLICATES : RegDef :=
  ⟨0x51, .am, none, 0x608, 0, 1,
   [⟨0, 48, .ro, false, 0x0⟩]⟩
def OCT_DUPLICATES_COUNT : Fld := ⟨OCT_DUPLICATES, 0, 48⟩
/-- R391: OCT_OUT_OF_ORDER. -/
def OCT_OUT_OF_ORDER : RegDef :=
  ⟨0x51, .am, none, 0x610, 0, 1,
   [⟨0, 48, .ro, false, 0x0⟩]⟩
def OCT_OUT_OF_ORDER_COUNT : Fld := ⟨OCT_OUT_OF_ORDER, 0, 48⟩
/-- R391: OCT_STALE_CTX. -/
def OCT_STALE_CTX : RegDef :=
  ⟨0x51, .am, none, 0x618, 0, 1,
   [⟨0, 48, .ro, false, 0x0⟩]⟩
def OCT_STALE_CTX_COUNT : Fld := ⟨OCT_STALE_CTX, 0, 48⟩
/-- R391: OCT_NOTICES. -/
def OCT_NOTICES : RegDef :=
  ⟨0x51, .am, none, 0x620, 0, 1,
   [⟨0, 48, .ro, false, 0x0⟩]⟩
def OCT_NOTICES_COUNT : Fld := ⟨OCT_NOTICES, 0, 48⟩
/-! ### Block RDMA (code 0x52) -/

/-- R392: RDMA_QPT. -/
def RDMA_QPT : RegDef :=
  ⟨0x52, .am, none, 0x0, 0, 1,
   [⟨0, 48, .rw, false, 0x0⟩]⟩
def RDMA_QPT_BASE : Fld := ⟨RDMA_QPT, 0, 48⟩
/-- R392: RDMA_FAR. -/
def RDMA_FAR : RegDef :=
  ⟨0x52, .am, none, 0x20, 8, 4,
   [⟨0, 12, .rw, false, 0x0⟩, ⟨12, 1, .rw, false, 0x0⟩]⟩
def RDMA_FAR_QPN : Fld := ⟨RDMA_FAR, 0, 12⟩
def RDMA_FAR_VALID : Fld := ⟨RDMA_FAR, 12, 1⟩
/-- R392: RDMA_QP. -/
def RDMA_QP : RegDef :=
  ⟨0x52, .am, none, 0x8000, 8, 4096,
   [⟨0, 2, .ro, false, 0x0⟩, ⟨2, 2, .wo, false, 0x0⟩, ⟨8, 8, .ro, false, 0x0⟩]⟩
def RDMA_QP_STATE : Fld := ⟨RDMA_QP, 0, 2⟩
def RDMA_QP_CMD : Fld := ⟨RDMA_QP, 2, 2⟩
def RDMA_QP_CAUSE : Fld := ⟨RDMA_QP, 8, 8⟩
/-- R392: RDMA_RX_PKTS. -/
def RDMA_RX_PKTS : RegDef :=
  ⟨0x52, .am, none, 0x100, 0, 1,
   [⟨0, 48, .ro, false, 0x0⟩]⟩
def RDMA_RX_PKTS_COUNT : Fld := ⟨RDMA_RX_PKTS, 0, 48⟩
/-- R392: RDMA_TX_PKTS. -/
def RDMA_TX_PKTS : RegDef :=
  ⟨0x52, .am, none, 0x108, 0, 1,
   [⟨0, 48, .ro, false, 0x0⟩]⟩
def RDMA_TX_PKTS_COUNT : Fld := ⟨RDMA_TX_PKTS, 0, 48⟩
/-- R392: RDMA_NAKS_TX. -/
def RDMA_NAKS_TX : RegDef :=
  ⟨0x52, .am, none, 0x110, 0, 1,
   [⟨0, 48, .ro, false, 0x0⟩]⟩
def RDMA_NAKS_TX_COUNT : Fld := ⟨RDMA_NAKS_TX, 0, 48⟩
/-- R392: RDMA_RETRIES. -/
def RDMA_RETRIES : RegDef :=
  ⟨0x52, .am, none, 0x118, 0, 1,
   [⟨0, 48, .ro, false, 0x0⟩]⟩
def RDMA_RETRIES_COUNT : Fld := ⟨RDMA_RETRIES, 0, 48⟩
/-- R392: RDMA_CNP_RX. -/
def RDMA_CNP_RX : RegDef :=
  ⟨0x52, .am, none, 0x120, 0, 1,
   [⟨0, 48, .ro, false, 0x0⟩]⟩
def RDMA_CNP_RX_COUNT : Fld := ⟨RDMA_CNP_RX, 0, 48⟩
/-- R392: RDMA_CNP_TX. -/
def RDMA_CNP_TX : RegDef :=
  ⟨0x52, .am, none, 0x128, 0, 1,
   [⟨0, 48, .ro, false, 0x0⟩]⟩
def RDMA_CNP_TX_COUNT : Fld := ⟨RDMA_CNP_TX, 0, 48⟩
/-! ### Block SEC (code 0x70) -/

/-- R405: SEC_STATUS. -/
def SEC_STATUS : RegDef :=
  ⟨0x70, .am, none, 0x0, 0, 1,
   [⟨0, 2, .ro, false, 0x0⟩, ⟨2, 2, .ro, false, 0x0⟩, ⟨4, 1, .ro, false, 0x0⟩, ⟨8, 8, .ro, false, 0x0⟩, ⟨16, 32, .ro, false, 0x0⟩]⟩
def SEC_STATUS_FW_SLOT : Fld := ⟨SEC_STATUS, 0, 2⟩
def SEC_STATUS_PREFERRED : Fld := ⟨SEC_STATUS, 2, 2⟩
def SEC_STATUS_FALLBACK : Fld := ⟨SEC_STATUS, 4, 1⟩
def SEC_STATUS_MIN_SVN : Fld := ⟨SEC_STATUS, 8, 8⟩
def SEC_STATUS_BOOT_COUNT : Fld := ⟨SEC_STATUS, 16, 32⟩
/-- R405: SEC_FW_STATUS. -/
def SEC_FW_STATUS : RegDef :=
  ⟨0x70, .am, none, 0x8, 0, 1,
   [⟨0, 2, .ro, false, 0x0⟩, ⟨2, 3, .ro, false, 0x0⟩, ⟨5, 2, .ro, false, 0x0⟩, ⟨8, 8, .ro, false, 0x0⟩, ⟨16, 24, .ro, false, 0x0⟩]⟩
def SEC_FW_STATUS_STATE : Fld := ⟨SEC_FW_STATUS, 0, 2⟩
def SEC_FW_STATUS_OP : Fld := ⟨SEC_FW_STATUS, 2, 3⟩
def SEC_FW_STATUS_SLOT : Fld := ⟨SEC_FW_STATUS, 5, 2⟩
def SEC_FW_STATUS_LAST_STATUS : Fld := ⟨SEC_FW_STATUS, 8, 8⟩
def SEC_FW_STATUS_PROGRESS : Fld := ⟨SEC_FW_STATUS, 16, 24⟩
/-- R405: SEC_LMS. -/
def SEC_LMS : RegDef :=
  ⟨0x70, .am, none, 0x10, 0, 1,
   [⟨0, 40, .ro, false, 0x0⟩]⟩
def SEC_LMS_NEXT : Fld := ⟨SEC_LMS, 0, 40⟩
/-- R405: SEC_ERROR. -/
def SEC_ERROR : RegDef :=
  ⟨0x70, .am, none, 0x18, 0, 1,
   [⟨0, 1, .w1c, false, 0x0⟩, ⟨1, 1, .w1c, true, 0x0⟩, ⟨2, 1, .w1c, true, 0x0⟩]⟩
def SEC_ERROR_FW_FAIL : Fld := ⟨SEC_ERROR, 0, 1⟩
def SEC_ERROR_FLASH_FAULT : Fld := ⟨SEC_ERROR, 1, 1⟩
def SEC_ERROR_LMS_COPY : Fld := ⟨SEC_ERROR, 2, 1⟩
/-- R405: SEC_REPORTS. -/
def SEC_REPORTS : RegDef :=
  ⟨0x70, .am, none, 0x40, 0, 1,
   [⟨0, 48, .ro, false, 0x0⟩]⟩
def SEC_REPORTS_COUNT : Fld := ⟨SEC_REPORTS, 0, 48⟩
/-- R405: SEC_INSTALLS. -/
def SEC_INSTALLS : RegDef :=
  ⟨0x70, .am, none, 0x48, 0, 1,
   [⟨0, 48, .ro, false, 0x0⟩]⟩
def SEC_INSTALLS_COUNT : Fld := ⟨SEC_INSTALLS, 0, 48⟩
/-! ### Block RST (code 0x4) -/

/-- R448: RST_STATUS. -/
def RST_STATUS : RegDef :=
  ⟨0x4, .every, none, 0x0, 0, 1,
   [⟨0, 3, .ro, false, 0x0⟩, ⟨3, 3, .ro, false, 0x0⟩, ⟨8, 8, .ro, false, 0x0⟩, ⟨16, 12, .ro, false, 0x0⟩, ⟨28, 1, .ro, false, 0x0⟩]⟩
def RST_STATUS_STATE : Fld := ⟨RST_STATUS, 0, 3⟩
def RST_STATUS_DOMAIN : Fld := ⟨RST_STATUS, 3, 3⟩
def RST_STATUS_BLOCK : Fld := ⟨RST_STATUS, 8, 8⟩
def RST_STATUS_INSTANCE : Fld := ⟨RST_STATUS, 16, 12⟩
def RST_STATUS_AUTO : Fld := ⟨RST_STATUS, 28, 1⟩
/-- R448: RST_HANG. -/
def RST_HANG : RegDef :=
  ⟨0x4, .every, none, 0x8, 0, 1,
   [⟨0, 8, .ro, false, 0x0⟩, ⟨8, 12, .ro, false, 0x0⟩, ⟨20, 1, .w1c, false, 0x0⟩, ⟨21, 1, .w1c, false, 0x0⟩]⟩
def RST_HANG_BLOCK : Fld := ⟨RST_HANG, 0, 8⟩
def RST_HANG_INSTANCE : Fld := ⟨RST_HANG, 8, 12⟩
def RST_HANG_VALID : Fld := ⟨RST_HANG, 20, 1⟩
def RST_HANG_MORE : Fld := ⟨RST_HANG, 21, 1⟩
/-- R448: RST_SUSPECTS. -/
def RST_SUSPECTS : RegDef :=
  ⟨0x4, .every, none, 0x10, 0, 1,
   [⟨0, 64, .ro, false, 0x0⟩]⟩
def RST_SUSPECTS_MASK : Fld := ⟨RST_SUSPECTS, 0, 64⟩
/-- R448: RST_WDOG. -/
def RST_WDOG : RegDef :=
  ⟨0x4, .every, none, 0x18, 0, 1,
   [⟨0, 24, .rw, false, 0x0⟩]⟩
def RST_WDOG_LIMIT : Fld := ⟨RST_WDOG, 0, 24⟩
/-- R448: RST_REPLAY. -/
def RST_REPLAY : RegDef :=
  ⟨0x4, .every, none, 0x20, 0, 1,
   [⟨0, 2, .ro, false, 0x0⟩, ⟨2, 6, .ro, false, 0x0⟩, ⟨8, 2, .ro, false, 0x0⟩, ⟨10, 6, .ro, false, 0x0⟩]⟩
def RST_REPLAY_STATE : Fld := ⟨RST_REPLAY, 0, 2⟩
def RST_REPLAY_CURRENT : Fld := ⟨RST_REPLAY, 2, 6⟩
def RST_REPLAY_RESULT : Fld := ⟨RST_REPLAY, 8, 2⟩
def RST_REPLAY_GUILTY : Fld := ⟨RST_REPLAY, 10, 6⟩
/-- R448: RST_POLICY. -/
def RST_POLICY : RegDef :=
  ⟨0x4, .am, none, 0x100, 0, 1,
   [⟨0, 2, .rw, false, 0x1⟩, ⟨2, 1, .rw, false, 0x1⟩, ⟨3, 1, .rw, false, 0x1⟩]⟩
def RST_POLICY_MAX_AUTO : Fld := ⟨RST_POLICY, 0, 2⟩
def RST_POLICY_DUMP_ON_HANG : Fld := ⟨RST_POLICY, 2, 1⟩
def RST_POLICY_REPLAY : Fld := ⟨RST_POLICY, 3, 1⟩
/-- R448: RST_DUSK_LIMIT. -/
def RST_DUSK_LIMIT : RegDef :=
  ⟨0x4, .am, none, 0x108, 0, 1,
   [⟨0, 24, .rw, false, 0xfa0⟩]⟩
def RST_DUSK_LIMIT_LIMIT : Fld := ⟨RST_DUSK_LIMIT, 0, 24⟩
/-- R448: RST_REPLAY_WINDOW. -/
def RST_REPLAY_WINDOW : RegDef :=
  ⟨0x4, .am, none, 0x110, 0, 1,
   [⟨0, 24, .rw, false, 0x9c40⟩]⟩
def RST_REPLAY_WINDOW_LIMIT : Fld := ⟨RST_REPLAY_WINDOW, 0, 24⟩
/-- R448: RST_KICK. -/
def RST_KICK : RegDef :=
  ⟨0x4, .am, none, 0x118, 0, 1,
   [⟨0, 1, .wo, false, 0x0⟩]⟩
def RST_KICK_KICK : Fld := ⟨RST_KICK, 0, 1⟩
/-- R448: RST_LAST. -/
def RST_LAST : RegDef :=
  ⟨0x4, .am, none, 0x120, 0, 1,
   [⟨0, 3, .ro, false, 0x0⟩, ⟨32, 32, .ro, false, 0x0⟩]⟩
def RST_LAST_CAUSE : Fld := ⟨RST_LAST, 0, 3⟩
def RST_LAST_COUNT : Fld := ⟨RST_LAST, 32, 32⟩
/-- R448: RST_RESETS. -/
def RST_RESETS : RegDef :=
  ⟨0x4, .every, none, 0x40, 0, 1,
   [⟨0, 48, .ro, false, 0x0⟩]⟩
def RST_RESETS_COUNT : Fld := ⟨RST_RESETS, 0, 48⟩
/-- R448: RST_HANGS. -/
def RST_HANGS : RegDef :=
  ⟨0x4, .every, none, 0x48, 0, 1,
   [⟨0, 48, .ro, false, 0x0⟩]⟩
def RST_HANGS_COUNT : Fld := ⟨RST_HANGS, 0, 48⟩
/-- R448: RST_DUSK_FORCED. -/
def RST_DUSK_FORCED : RegDef :=
  ⟨0x4, .every, none, 0x50, 0, 1,
   [⟨0, 48, .ro, false, 0x0⟩]⟩
def RST_DUSK_FORCED_COUNT : Fld := ⟨RST_DUSK_FORCED, 0, 48⟩
/-! ### Block DBG (code 0x7) -/

/-- R449: DBG_WIN. -/
def DBG_WIN : RegDef :=
  ⟨0x7, .comp, none, 0x100, 8, 64,
   [⟨0, 48, .rw, false, 0x0⟩, ⟨48, 1, .rw, false, 0x0⟩]⟩
def DBG_WIN_ADDR : Fld := ⟨DBG_WIN, 0, 48⟩
def DBG_WIN_VALID : Fld := ⟨DBG_WIN, 48, 1⟩
/-- R449: DBG_DUMP_DEST. -/
def DBG_DUMP_DEST : RegDef :=
  ⟨0x7, .am, none, 0x0, 0, 1,
   [⟨0, 48, .rw, false, 0x0⟩]⟩
def DBG_DUMP_DEST_BASE : Fld := ⟨DBG_DUMP_DEST, 0, 48⟩
/-- R449: DBG_DUMP_SIZE. -/
def DBG_DUMP_SIZE : RegDef :=
  ⟨0x7, .am, none, 0x8, 0, 1,
   [⟨0, 48, .rw, false, 0x0⟩]⟩
def DBG_DUMP_SIZE_SIZE : Fld := ⟨DBG_DUMP_SIZE, 0, 48⟩
/-- R449: DBG_DUMP_CTRL. -/
def DBG_DUMP_CTRL : RegDef :=
  ⟨0x7, .am, none, 0x10, 0, 1,
   [⟨0, 1, .wo, false, 0x0⟩, ⟨4, 4, .rw, false, 0x0⟩]⟩
def DBG_DUMP_CTRL_GO : Fld := ⟨DBG_DUMP_CTRL, 0, 1⟩
def DBG_DUMP_CTRL_DIES : Fld := ⟨DBG_DUMP_CTRL, 4, 4⟩
/-- R449: DBG_DUMP_STATUS. -/
def DBG_DUMP_STATUS : RegDef :=
  ⟨0x7, .am, none, 0x18, 0, 1,
   [⟨0, 2, .ro, false, 0x0⟩, ⟨8, 8, .ro, false, 0x0⟩, ⟨16, 16, .ro, false, 0x0⟩]⟩
def DBG_DUMP_STATUS_STATE : Fld := ⟨DBG_DUMP_STATUS, 0, 2⟩
def DBG_DUMP_STATUS_STATUS : Fld := ⟨DBG_DUMP_STATUS, 8, 8⟩
def DBG_DUMP_STATUS_SEQ : Fld := ⟨DBG_DUMP_STATUS, 16, 16⟩
/-- R449: DBG_TRACE_CFG. -/
def DBG_TRACE_CFG : RegDef :=
  ⟨0x7, .am, none, 0x20, 0, 1,
   [⟨0, 1, .rw, false, 0x0⟩, ⟨8, 8, .rw, false, 0x0⟩, ⟨16, 32, .rw, false, 0x0⟩]⟩
def DBG_TRACE_CFG_EN : Fld := ⟨DBG_TRACE_CFG, 0, 1⟩
def DBG_TRACE_CFG_DIES : Fld := ⟨DBG_TRACE_CFG, 8, 8⟩
def DBG_TRACE_CFG_RECORDS : Fld := ⟨DBG_TRACE_CFG, 16, 32⟩
/-- R449: DBG_TRACE_DEST. -/
def DBG_TRACE_DEST : RegDef :=
  ⟨0x7, .am, none, 0x28, 0, 1,
   [⟨0, 48, .rw, false, 0x0⟩]⟩
def DBG_TRACE_DEST_BASE : Fld := ⟨DBG_TRACE_DEST, 0, 48⟩
/-- R449: DBG_TRACE_HEAD. -/
def DBG_TRACE_HEAD : RegDef :=
  ⟨0x7, .am, none, 0x30, 0, 1,
   [⟨0, 48, .ro, false, 0x0⟩]⟩
def DBG_TRACE_HEAD_HEAD : Fld := ⟨DBG_TRACE_HEAD, 0, 48⟩
/-- R449: DBG_TRACE_LOST. -/
def DBG_TRACE_LOST : RegDef :=
  ⟨0x7, .am, none, 0x40, 0, 1,
   [⟨0, 48, .ro, false, 0x0⟩]⟩
def DBG_TRACE_LOST_COUNT : Fld := ⟨DBG_TRACE_LOST, 0, 48⟩
/-- R449: DBG_TRACE_SENT. -/
def DBG_TRACE_SENT : RegDef :=
  ⟨0x7, .am, none, 0x48, 0, 1,
   [⟨0, 48, .ro, false, 0x0⟩]⟩
def DBG_TRACE_SENT_COUNT : Fld := ⟨DBG_TRACE_SENT, 0, 48⟩
/-! ### Block MGT (code 0x71) -/

/-- R450: MGT_FAULT_INFO. -/
def MGT_FAULT_INFO : RegDef :=
  ⟨0x71, .hubs, none, 0x0, 0, 1,
   [⟨0, 4, .ro, false, 0x0⟩, ⟨8, 8, .ro, false, 0x0⟩, ⟨16, 12, .ro, false, 0x0⟩, ⟨28, 6, .ro, false, 0x0⟩, ⟨34, 1, .w1c, false, 0x0⟩, ⟨35, 1, .w1c, false, 0x0⟩]⟩
def MGT_FAULT_INFO_KIND : Fld := ⟨MGT_FAULT_INFO, 0, 4⟩
def MGT_FAULT_INFO_BLOCK : Fld := ⟨MGT_FAULT_INFO, 8, 8⟩
def MGT_FAULT_INFO_INSTANCE : Fld := ⟨MGT_FAULT_INFO, 16, 12⟩
def MGT_FAULT_INFO_CONTEXT : Fld := ⟨MGT_FAULT_INFO, 28, 6⟩
def MGT_FAULT_INFO_VALID : Fld := ⟨MGT_FAULT_INFO, 34, 1⟩
def MGT_FAULT_INFO_MORE : Fld := ⟨MGT_FAULT_INFO, 35, 1⟩
/-- R450: MGT_FAULT_ADDR. -/
def MGT_FAULT_ADDR : RegDef :=
  ⟨0x71, .hubs, none, 0x8, 0, 1,
   [⟨0, 48, .ro, false, 0x0⟩]⟩
def MGT_FAULT_ADDR_ADDR : Fld := ⟨MGT_FAULT_ADDR, 0, 48⟩
/-- R450: MGT_LAST_NOTICE. -/
def MGT_LAST_NOTICE : RegDef :=
  ⟨0x71, .hubs, none, 0x10, 0, 1,
   [⟨0, 8, .ro, false, 0x0⟩, ⟨8, 4, .ro, false, 0x0⟩, ⟨16, 8, .ro, false, 0x0⟩, ⟨24, 12, .ro, false, 0x0⟩]⟩
def MGT_LAST_NOTICE_KIND : Fld := ⟨MGT_LAST_NOTICE, 0, 8⟩
def MGT_LAST_NOTICE_DIE : Fld := ⟨MGT_LAST_NOTICE, 8, 4⟩
def MGT_LAST_NOTICE_BLOCK : Fld := ⟨MGT_LAST_NOTICE, 16, 8⟩
def MGT_LAST_NOTICE_INSTANCE : Fld := ⟨MGT_LAST_NOTICE, 24, 12⟩
/-- R450: MGT_NOTICES. -/
def MGT_NOTICES : RegDef :=
  ⟨0x71, .hubs, none, 0x40, 0, 1,
   [⟨0, 48, .ro, false, 0x0⟩]⟩
def MGT_NOTICES_COUNT : Fld := ⟨MGT_NOTICES, 0, 48⟩

/-! ### The registers of each block, for the decoding of a control-register address (R31) -/

/-- The registers of block ID. -/
def regsOf_ID : List RegDef :=
  [ID_PART, ID_DIE, ID_UNITS]
/-- The registers of block STREAM. -/
def regsOf_STREAM : List RegDef :=
  [STREAM_STATUS, STREAM_BOOT, STREAM_ERROR, STREAM_DRAIN_LIMIT, STREAM_RWL_REJECTS, STREAM_DIGEST, STREAM_REGION, STREAM_LOCAL, STREAM_DAYBREAK]
/-- The registers of block MXC. -/
def regsOf_MXC : List RegDef :=
  [MXC_STATUS, MXC_CTRL, MXC_POWER, MXC_LOCK_LIMIT, MXC_ERROR, MXC_BEATS, MXC_FILLERS, MXC_STARVED, MXC_DESCS, MXC_ECC_CORR, MXC_TOKEN, MXC_QBASE, MXC_CQBASE, MXC_QCFG, MXC_QTAIL, MXC_QHEAD, MXC_CQHEAD, MXC_CQTAIL]
/-- The registers of block STEP. -/
def regsOf_STEP : List RegDef :=
  [STEP_FMT_CFG, STEP_FMT_BASE, STEP_MON_BASE, STEP_LSCALE, STEP_LSCALE_CFG, STEP_LSCALE_RUN, STEP_FMT_CHANGES, STEP_CMD, STEP_STATE, STEP_CFG, STEP_NUMBER, STEP_LOSS_ADDR, STEP_SKIPS, STEP_ERROR, STEP_VERDICT_LIMIT]
/-- The registers of block VEC. -/
def regsOf_VEC : List RegDef :=
  [VEC_STATUS, VEC_FLAGS, VEC_ERROR, VEC_RNG_KEY, VEC_RNG_CTR, VEC_CHAINS, VEC_ROUTED, VEC_STALLED, VEC_ECC_CORR, VEC_OP_LO, VEC_OP_HI]
/-- The registers of block SPAD. -/
def regsOf_SPAD : List RegDef :=
  [SPAD_ERROR, SPAD_ECC_CORR, SPAD_CONFLICTS, SPAD_MOVED, SPAD_QBASE, SPAD_CQBASE, SPAD_QCFG, SPAD_QTAIL, SPAD_QHEAD, SPAD_CQHEAD, SPAD_CQTAIL]
/-- The registers of block RLC. -/
def regsOf_RLC : List RegDef :=
  [RLC_STATUS, RLC_FAULT_INFO, RLC_FAULT_ADDR, RLC_HITS, RLC_MISSES, RLC_INVALS, RLC_DIR_EVICTS]
/-- The registers of block HBMC. -/
def regsOf_HBMC : List RegDef :=
  [HBMC_STATUS, HBMC_CFG, HBMC_ERROR, HBMC_ERROR_ADDR, HBMC_RD_BYTES, HBMC_WR_BYTES, HBMC_ECC_CORR]
/-- The registers of block NMA. -/
def regsOf_NMA : List RegDef :=
  [NMA_STATUS, NMA_ADDS, NMA_NONFINITE, NMA_REFUSED]
/-- The registers of block DEMUX. -/
def regsOf_DEMUX : List RegDef :=
  [DEMUX_STATUS, DEMUX_ERROR, DEMUX_IN, DEMUX_OUT, DEMUX_DROPPED, DEMUX_STALL_OUT, DEMUX_STARVED, DEMUX_SPILL, DEMUX_RES_CFG, DEMUX_RES_STATUS, DEMUX_DELIV, DEMUX_RES_CHUNKS, DEMUX_RES_OVERFLOW, DEMUX_RES_UNBOUND, DEMUX_RES_XOFF]
/-- The registers of block VDEC. -/
def regsOf_VDEC : List RegDef :=
  [VDEC_STATUS, VDEC_ERROR, VDEC_IN, VDEC_OUT, VDEC_DROPPED, VDEC_STALL_OUT, VDEC_STARVED, VDEC_SPILL]
/-- The registers of block ADEC. -/
def regsOf_ADEC : List RegDef :=
  [ADEC_STATUS, ADEC_ERROR, ADEC_IN, ADEC_OUT, ADEC_DROPPED, ADEC_STALL_OUT, ADEC_STARVED, ADEC_SPILL]
/-- The registers of block XFORM. -/
def regsOf_XFORM : List RegDef :=
  [XFORM_STATUS, XFORM_ERROR, XFORM_IN, XFORM_OUT, XFORM_DROPPED, XFORM_STALL_OUT, XFORM_STARVED, XFORM_SPILL]
/-- The registers of block TOKEN. -/
def regsOf_TOKEN : List RegDef :=
  [TOKEN_STATUS, TOKEN_ERROR, TOKEN_IN, TOKEN_OUT, TOKEN_DROPPED, TOKEN_STALL_OUT, TOKEN_STARVED, TOKEN_SPILL]
/-- The registers of block PERM. -/
def regsOf_PERM : List RegDef :=
  [PERM_STATUS, PERM_ERROR, PERM_IN, PERM_OUT, PERM_DROPPED, PERM_STALL_OUT, PERM_STARVED, PERM_SPILL, PERM_HOST_SEED, PERM_HOST_N, PERM_HOST_POS, PERM_HOST_COUNT, PERM_HOST_EPOCH, PERM_HOST_DEST, PERM_HOST_CTRL, PERM_GEN]
/-- The registers of block SETE. -/
def regsOf_SETE : List RegDef :=
  [SETE_STATUS, SETE_ERROR, SETE_IN, SETE_OUT, SETE_DROPPED, SETE_STALL_OUT, SETE_STARVED, SETE_SPILL, SETE_QBASE, SETE_CQBASE, SETE_QCFG, SETE_QTAIL, SETE_QHEAD, SETE_CQHEAD, SETE_CQTAIL, SETE_QWORK, SETE_DESC_ERROR]
/-- The registers of block TEL. -/
def regsOf_TEL : List RegDef :=
  [TEL_UPD_BUSY, TEL_INGEST_STALL, TEL_SEAM_STALL, TEL_PEER_STALL, TEL_REC]
/-- The registers of block RED. -/
def regsOf_RED : List RegDef :=
  [RED_CH_ROUTE, RED_CH_TIMING, RED_CH_STATUS, RED_CH_ERROR, RED_CH_EPOCH, RED_QBASE, RED_CQBASE, RED_QCFG, RED_QTAIL, RED_QHEAD, RED_CQHEAD, RED_CQTAIL, RED_REDUCTIONS, RED_ESCALATIONS, RED_SATURATED, RED_STRAGGLES, RED_CARRIED, RED_DROPPED_LATE, RED_CARRY_EXPIRED, RED_CARRY_FULL] ++
  [RED_SPILLED, RED_STALE_FRAMES, RED_MISROUTED, RED_WEAVE_BYTES, RED_EPOCH_REJECTS, RED_MOVED_BYTES, RED_DIG_INFO, RED_DIG_SENT, RED_DIG_RECV]
/-- The registers of block PEER. -/
def regsOf_PEER : List RegDef :=
  [PEER_STATUS, PEER_CFG, PEER_ERROR, PEER_TX_BYTES, PEER_RX_BYTES, PEER_REPLAYS, PEER_ERR_FRAMES]
/-- The registers of block UPD. -/
def regsOf_UPD : List RegDef :=
  [UPD_STATUS, UPD_TABLE, UPD_HYPER, UPD_CFG, UPD_KRON_WORK, UPD_TABLE_STATUS, UPD_ERROR, UPD_ENTRIES, UPD_FROZEN_SKIPS, UPD_NONFINITE, UPD_ROOTS, UPD_ROOT_FAILS, UPD_BYTES]
/-- The registers of block ARB. -/
def regsOf_ARB : List RegDef :=
  [ARB_STATUS, ARB_CFG, ARB_FREEZE, ARB_REQ_CFG, ARB_GRANTS, ARB_WAIT, ARB_LONGEST]
/-- The registers of block WEAVE. -/
def regsOf_WEAVE : List RegDef :=
  [WEAVE_STATUS, WEAVE_CFG, WEAVE_CTRL, WEAVE_ERROR, WEAVE_TX_WORDS, WEAVE_RX_WORDS, WEAVE_CRC_ERRS, WEAVE_REPLAYS, WEAVE_RETRAINS, WEAVE_DISCARDED]
/-- The registers of block SEAM. -/
def regsOf_SEAM : List RegDef :=
  [SEAM_STATUS, SEAM_WIDTH_STATUS, SEAM_LANES, SEAM_PARTNER_LANES, SEAM_CFG, SEAM_TIMING, SEAM_CTRL, SEAM_ERROR, SEAM_TX_FLITS, SEAM_RX_FLITS, SEAM_CRC_ERRS, SEAM_REPLAYS, SEAM_RETRAINS, SEAM_MISMATCHES, SEAM_DISCARDED, SEAM_FAILED_AGREEMENTS]
/-- The registers of block CLK. -/
def regsOf_CLK : List RegDef :=
  [CLK_STATUS, CLK_DOMAIN, CLK_COUNT, CLK_FENCE_LIMIT, CLK_FENCE_STATUS, CLK_FENCES, CLK_FENCE_FAILS]
/-- The registers of block PWR. -/
def regsOf_PWR : List RegDef :=
  [PWR_STATUS, PWR_CFG, PWR_ERROR, PWR_INPUT, PWR_LIMITS, PWR_COOLANT, PWR_THROTTLED, PWR_ENERGY]
/-- The registers of block ETH. -/
def regsOf_ETH : List RegDef :=
  [ETH_STATUS, ETH_CFG, ETH_MAC, ETH_IP4, ETH_GW4, ETH_IP6, ETH_IP6_CFG, ETH_ERROR, ETH_RX_FRAMES, ETH_TX_FRAMES, ETH_FEC_CORR, ETH_FEC_UNCORR, ETH_PFC_TX, ETH_PFC_RX, ETH_DISCARDS]
/-- The registers of block OCT. -/
def regsOf_OCT : List RegDef :=
  [OCT_CFG, OCT_STATUS, OCT_CTX_DRAIN_LIMIT, OCT_CTX, OCT_SUB_ADDR_HI, OCT_SUB_ADDR_LO, OCT_SUB_CFG, OCT_REQUESTS, OCT_DUPLICATES, OCT_OUT_OF_ORDER, OCT_STALE_CTX, OCT_NOTICES]
/-- The registers of block RDMA. -/
def regsOf_RDMA : List RegDef :=
  [RDMA_QPT, RDMA_FAR, RDMA_QP, RDMA_RX_PKTS, RDMA_TX_PKTS, RDMA_NAKS_TX, RDMA_RETRIES, RDMA_CNP_RX, RDMA_CNP_TX]
/-- The registers of block SEC. -/
def regsOf_SEC : List RegDef :=
  [SEC_STATUS, SEC_FW_STATUS, SEC_LMS, SEC_ERROR, SEC_REPORTS, SEC_INSTALLS]
/-- The registers of block RST. -/
def regsOf_RST : List RegDef :=
  [RST_STATUS, RST_HANG, RST_SUSPECTS, RST_WDOG, RST_REPLAY, RST_POLICY, RST_DUSK_LIMIT, RST_REPLAY_WINDOW, RST_KICK, RST_LAST, RST_RESETS, RST_HANGS, RST_DUSK_FORCED]
/-- The registers of block DBG. -/
def regsOf_DBG : List RegDef :=
  [DBG_WIN, DBG_DUMP_DEST, DBG_DUMP_SIZE, DBG_DUMP_CTRL, DBG_DUMP_STATUS, DBG_TRACE_CFG, DBG_TRACE_DEST, DBG_TRACE_HEAD, DBG_TRACE_LOST, DBG_TRACE_SENT]
/-- The registers of block MGT. -/
def regsOf_MGT : List RegDef :=
  [MGT_FAULT_INFO, MGT_FAULT_ADDR, MGT_LAST_NOTICE, MGT_NOTICES]

/-- The registers of a block code (R31). -/
def blockRegs (b : Nat) : List RegDef :=
  if b = 0x0 then regsOf_ID
  else if b = 0x1 then regsOf_STREAM
  else if b = 0x2 then regsOf_CLK
  else if b = 0x3 then regsOf_PWR
  else if b = 0x4 then regsOf_RST
  else if b = 0x5 then regsOf_ARB
  else if b = 0x6 then regsOf_TEL
  else if b = 0x7 then regsOf_DBG
  else if b = 0x10 then regsOf_MXC
  else if b = 0x11 then regsOf_VEC
  else if b = 0x12 then regsOf_SPAD
  else if b = 0x13 then regsOf_RLC
  else if b = 0x20 then regsOf_HBMC
  else if b = 0x21 then regsOf_NMA
  else if b = 0x30 then regsOf_DEMUX
  else if b = 0x31 then regsOf_VDEC
  else if b = 0x32 then regsOf_ADEC
  else if b = 0x33 then regsOf_XFORM
  else if b = 0x34 then regsOf_TOKEN
  else if b = 0x35 then regsOf_PERM
  else if b = 0x36 then regsOf_SETE
  else if b = 0x40 then regsOf_WEAVE
  else if b = 0x41 then regsOf_SEAM
  else if b = 0x50 then regsOf_ETH
  else if b = 0x51 then regsOf_OCT
  else if b = 0x52 then regsOf_RDMA
  else if b = 0x60 then regsOf_PEER
  else if b = 0x61 then regsOf_RED
  else if b = 0x62 then regsOf_UPD
  else if b = 0x63 then regsOf_STEP
  else if b = 0x70 then regsOf_SEC
  else if b = 0x71 then regsOf_MGT
  else []

end Sys2Proof.Machine.R
end

