-- ==== Sys2Proof/Machine/Tables.lean ====
section
/-!
DEFINITION. Fixed tables of the module: clock domains (R337), arbiters and their requesters (R307, R308),
block instances (R31), partitions (R24), and the reset value of every register, the per-die and
per-instance ones included.
-/

namespace Sys2Proof.Machine

/-- R16: hub of a die's half, and the dies. -/
def hubOf (d : Nat) : Nat := if d = 1 ∨ d = 6 ∨ d = 7 then 1 else 0
def liveDies : List Nat := [0, 1, 4, 5, 6, 7]
def compDies : List Nat := [4, 5, 6, 7]
def hubs : List Nat := [0, 1]
/-- R16: the compute dies of a hub's half. -/
def halfDies (h : Nat) : List Nat := if h = 0 then [4, 5] else [6, 7]
def otherHub (h : Nat) : Nat := 1 - h

/-! ### Clock domains (R337) -/

/-- A clock domain of a die: number, default kHz, lowest allowed kHz (equal to the default where fixed),
and its source (0 the 100 MHz reference, 1 the 156.25 MHz reference). -/
structure ClkDom where
  number : Nat
  dflt : Nat
  lo : Nat
  src : Nat
  deriving DecidableEq, Repr

/-- R337: the domains of a die by local index (R354). -/
def clkDoms (die : Nat) : List ClkDom :=
  if isComp die then
    let n := 12 * (die - 4)
    [⟨n, 2700000, 800000, 0⟩, ⟨n + 1, 2200000, 800000, 0⟩, ⟨n + 2, 1800000, 900000, 0⟩,
     ⟨n + 3, 2000000, 2000000, 0⟩] ++
    (List.range 8).map (fun i => ⟨n + 4 + i, 2000000, 2000000, 0⟩)
  else if die = 0 then
    [⟨48, 1600000, 800000, 0⟩, ⟨49, 1200000, 600000, 0⟩, ⟨50, 1330000, 1330000, 1⟩,
     ⟨51, 1750000, 1750000, 1⟩, ⟨52, 1660000, 1660000, 1⟩, ⟨53, 400000, 400000, 0⟩,
     ⟨54, 25000, 25000, 0⟩]
  else if die = 1 then
    [⟨55, 1600000, 800000, 0⟩, ⟨56, 1200000, 600000, 0⟩, ⟨57, 1330000, 1330000, 1⟩,
     ⟨58, 1750000, 1750000, 1⟩, ⟨59, 400000, 400000, 0⟩]
  else []

/-- The local index of the AON domain on hub AM. -/
def clkAON : Nat := 6

/-- R337: the die and local index of a domain number. -/
def domainPlace (n : Nat) : Option (Nat × Nat) :=
  if n < 48 then some (4 + n / 12, n % 12)
  else if n < 55 then some (0, n - 48)
  else if n < 60 then some (1, n - 55)
  else none

/-! ### Arbiters (R307, R308) -/

/-- R307, R318: the type of an arbiter instance, or none where no arbiter stands. -/
def arbType (die inst : Nat) : Option Nat :=
  if isComp die then
    if inst < 0x400 then some 0 else if inst < 0x500 then some 1
    else if inst = 0x500 then some 3 else none
  else if isHub die then
    if inst < 0x40 then some 2
    else if inst = 0x40 ∨ inst = 0x41 then some 3
    else if inst = 0x42 then some 4
    else if 0x50 ≤ inst ∧ inst ≤ 0x57 then some 5
    else none
  else none

/-- R307: FREEZE stands on the arbiters of DRAM channels, the seam and the peer ports. -/
def arbHasFreeze (t : Nat) : Bool := t == 1 || t == 4 || t == 5

/-- A requester: kind (0 E, 1 F, 2 B), default class, default PREEMPT. -/
structure ArbReq where
  kind : Nat
  cls : Nat
  pre : Nat
  deriving DecidableEq, Repr

/-- R308: the requesters of each arbiter type. -/
def arbReqs : Nat → List ArbReq
  | 0 => [⟨1, 1, 0⟩, ⟨1, 1, 0⟩, ⟨1, 2, 0⟩, ⟨2, 2, 1⟩, ⟨2, 3, 1⟩, ⟨0, 0, 0⟩]
  | 1 => [⟨1, 1, 0⟩, ⟨2, 2, 1⟩, ⟨2, 2, 1⟩, ⟨2, 3, 1⟩, ⟨2, 3, 1⟩, ⟨0, 0, 0⟩]
  | 2 => [⟨2, 1, 0⟩, ⟨2, 2, 1⟩, ⟨2, 2, 1⟩, ⟨2, 2, 1⟩, ⟨2, 3, 1⟩, ⟨2, 3, 1⟩, ⟨2, 2, 1⟩, ⟨1, 1, 0⟩, ⟨0, 0, 0⟩]
  | 3 => [⟨1, 1, 0⟩, ⟨2, 1, 0⟩, ⟨2, 2, 1⟩, ⟨0, 0, 0⟩]
  | 4 => [⟨1, 1, 0⟩, ⟨2, 1, 1⟩, ⟨2, 1, 0⟩, ⟨2, 2, 1⟩, ⟨2, 3, 1⟩, ⟨0, 0, 0⟩]
  | 5 => List.replicate 32 ⟨2, 2, 1⟩
  | _ => []

/-- R307: the longest burst of a requester of an arbiter type, in beats. -/
def arbBurst (t kind : Nat) : Nat :=
  match t with
  | 0 => if kind = 1 then 8 else 16
  | 1 => 8
  | 2 => if kind = 1 then 4 else 16
  | 3 => if kind = 1 then 1 else 16
  | 4 => if kind = 1 then 1 else 64
  | _ => 256

/-- R307: a transfer of n beats as bursts of at most m. -/
def splitBurst (m n : Nat) : List Nat := List.replicate (n / m) m ++ (if n % m = 0 then [] else [n % m])

/-- R307: the local index (R354) of the clock domain in which an arbiter runs. -/
def arbDomain (die inst : Nat) : Nat :=
  match arbType die inst with
  | some 1 => 4 + (inst - 0x400) / 32
  | some 3 => if isComp die then 3 else 0
  | some 4 => 3
  | some 5 => 2
  | _ => 0

/-- R152: the bank, 0 to 31, of a core's scratchpad in which the line at a byte offset lies. -/
def spadBank (o : Nat) : Nat := bits o 6 5 ^^^ bits o 11 5

/-- R307: the commons SRAM port of a byte offset. -/
def commonsPort (o : Nat) : Nat := bits o 8 6

/-! ### Blocks (R31) -/

/-- R31: does a block stand on the die with that instance number? -/
def blockHas (die block inst : Nat) : Bool :=
  let one := inst == 0
  match block with
  | 0x00 | 0x01 | 0x02 | 0x03 | 0x04 | 0x06 | 0x07 => isDie die && one
  | 0x05 => (arbType die inst).isSome
  | 0x10 | 0x11 | 0x12 => isComp die && decide (inst < 32)
  | 0x13 | 0x62 => isComp die && one
  | 0x20 | 0x21 => isComp die && decide (inst < 8)
  | 0x30 => isHub die && decide (inst < 2)
  | 0x31 => isHub die && decide (inst < 12)
  | 0x32 | 0x34 | 0x36 => isHub die && decide (inst < 4)
  | 0x33 => isHub die && decide (inst < 6)
  | 0x35 | 0x41 | 0x71 => isHub die && one
  | 0x40 => (isComp die && one) || (isHub die && decide (inst < 2))
  | 0x50 | 0x51 | 0x52 | 0x63 | 0x70 => die == 0 && one
  | 0x60 => (die == 0 && decide (inst < 8)) || (die == 1 && decide (8 ≤ inst) && decide (inst < 16))
  | 0x61 => isHub die && decide (inst < 32)
  | _ => false

/-- The instances of a block on a die, for walks over all of them (ARB excepted, whose instances are R307's). -/
def blockInsts (die block : Nat) : List Nat := (List.range 32).filter (blockHas die block)

/-- R41: the region codes that exist. -/
def regionCodes : List Nat := [0, 1, 2, 4, 5, 6, 7, 0x10, 0x11, 0x20, 0x21, 0x22, 0x23]

/-- R41: the region that owns the RWL fields of a block instance, if any. -/
def regionOf (die block inst : Nat) : Option Nat :=
  match block with
  | 0x02 | 0x03 | 0x04 | 0x41 | 0x50 | 0x51 | 0x52 | 0x63 | 0x70 | 0x71 => some 0
  | 0x05 | 0x40 => some (if isHub die then 1 + die else die)
  | 0x60 => some (1 + die)
  | 0x10 | 0x11 | 0x12 | 0x13 | 0x20 | 0x21 | 0x62 => some die
  | 0x30 | 0x31 | 0x32 | 0x33 | 0x34 | 0x35 | 0x36 => some (0x10 + die)
  | 0x61 => some (0x20 + inst / 8)
  | _ => none

/-! ### Reset values -/

/-- The reset value of a register on a die and instance: the tables' Reset column, with the values the
tables call per die, per silicon or per instance. The stated exceptions:
ID_PART.STEPPING and ID_DIE (R33); STREAM_LOCAL.STATE_B (R73); CLK_STATUS.DOMAINS and CLK_DOMAIN (R354);
ARB_STATUS and ARB_REQ_CFG (R318); WEAVE_STATUS.LEADER and PARTNER (R335); RST_WDOG (R448); ETH_MAC (R390). -/
def regResetNat (r : RegDef) (die inst idx : Nat) : Nat :=
  let base := r.resetBits
  match r.block, r.off with
  | 0x00, 0x00 => base + (Config.stepping die % 256) * 2 ^ 32
  | 0x00, 0x08 => die + (if isComp die then 16 else 0)
  | 0x01, 0x00 => if die = 0 then base else if die = 1 then 2 + 2 * 2 ^ 8 else 2
  | 0x02, 0x00 => base + (clkDoms die).length * 2 ^ 8
  | 0x02, 0x100 =>
    match (clkDoms die)[idx]? with
    | some d => base + d.number + d.dflt * 2 ^ 8
    | none => base
  | 0x05, 0x00 =>
    match arbType die inst with
    | some t => base + t + b2n (arbHasFreeze t) * 8 + (arbReqs t).length * 16
    | none => base
  | 0x05, 0x100 =>
    match arbType die inst with
    | some t =>
      match (arbReqs t)[idx]? with
      | some q => base + q.cls + q.pre * 4 + q.kind * 8
      | none => base
    | none => base
  | 0x40, 0x00 => base + (if isComp die then hubOf die * 2 ^ 8 else 16 + ((halfDies die).getD inst 0) * 2 ^ 8)
  | 0x04, 0x18 => if isComp die then 0x1AD275 else 0x17D784
  | 0x50, 0x10 => Config.mac % 2 ^ 48
  | _, _ => base

end Sys2Proof.Machine
end

