-- ==== Sys2Proof/Machine/State.lean ====
section
/-!
DEFINITION. The state of the module as plain data: every control register (one sparse map by R5 address,
an unlisted register reads as its reset value), memory, the state that has no address (tiles, tile
buffers, queues in hand, engines, links, sessions), and the commands waiting.
-/

namespace Sys2Proof.Machine

/-- Why a step stops with a fault. The module reports every fault in registers, records or answers
and goes on, so no meaning raises it: the type has one constructor, never used (safe). -/
inductive Fault where
  | none
  deriving DecidableEq, Repr

/-- Why a step is refused. `notModelled` is raised by an arm of the dispatch that has no meaning yet
(safe: the model stops where the module goes on). -/
inductive Refusal where
  | notModelled (mnemonic : String)
  deriving DecidableEq, Repr

/-! ### Memory -/

/-- Memory: the bytes that differ from what an unlisted address reads as, the spans whose contents the
spec leaves undefined (lowest address, length, key of its free values; newest first), and the
64-bit words (scratchpad, commons SRAM) and 32-byte bursts (DRAM) in uncorrectable error, by address. -/
structure Mem where
  cells : List Host.Cell := []
  undef : List (Nat × Nat × Nat) := []
  bad : List Nat := []
  deriving DecidableEq, Repr

/-- A store of FP32 words without data addresses (accumulator tiles, tile buffers): the words listed,
and the key of the free values an unlisted word reads as, if its contents are undefined (else +0). -/
structure WStore where
  cells : List (Nat × W32) := []
  undef : Option Nat := none
  deriving DecidableEq, Repr

/-! ### Streams -/

/-- A record of a stream (R40): its index and offset, header fields and payload. -/
structure SRec where
  idx : Nat
  off : Nat
  type : Nat
  version : Nat
  region : Nat
  flags : Nat
  payload : List Byte
  raw : List Byte
  deriving DecidableEq, Repr

/-! ### Matrix cores and vector engines -/

/-- Where a tile descriptor in hand stands: waiting for its token, ready, its beats issuing, its results
held for its chain (or waiting for the engine, when routed), on the engine, or finished and waiting for
its turn in queue order (R85, R93, R128). -/
inductive DStage where
  | waiting | ready | issuing | handed | engine | finished
  deriving DecidableEq, Repr

/-- A tile descriptor in hand: its number on the unit, context and generation, its 512 bits, its stage,
status, the record's flags, beats and elapsed cycles, its target tile, whether its signal names a
token that does not exist (R92), whether its checks are done, and what they read: the gather indices (R89), the
chain's 512 bits and the operation-table entries it names (R141). -/
structure TDesc where
  id : Nat
  ctx : Nat
  gen : Nat
  raw : Nat
  stage : DStage
  status : Nat := 0
  flags : Nat := 0
  beats : Nat := 0
  elapsed : Nat := 0
  tile : Nat := 0
  nosig : Bool := false
  checked : Bool := false
  idx : List Nat := []
  chain : Nat := 0
  ops : List (Nat × Nat) := []
  deriving DecidableEq, Repr

/-- A working accumulator: the FP32 value that would land, and, of an integer run, its sum and what it started from, its
base, if any (R111, R112). -/
structure WAcc where
  out : W32
  int : Option (Int × Option W32) := none
  deriving DecidableEq, Repr

/-- A unit of matrix cores, kept under its lead: descriptors in hand in the order taken, the round-robin
pointer, the tile after the one last written by an alternating descriptor (R97), the contexts whose next
continuation has lost its accumulators (R86), the tile, M and N of the product last started and whether it can be
continued (R85), the continuation to which a run's accumulators carry over, with its tile, and those accumulators, the
running chain's generator base and key (R145), and its tile as each member held it when the chain began (R97). -/
structure MxUnit where
  inHand : List TDesc := []
  nextId : Nat := 0
  rr : Nat := 63
  alt : Nat := 0
  lock : Option Nat := none
  lost : List Nat := []
  prevTile : Option (Nat × Nat × Nat) := none
  prevCont : Bool := false
  carriedTo : Option (Nat × Nat) := none
  work : List (Nat × WAcc) := []
  rngBase : Nat := 0
  rngKey : Nat := 0
  snap : List (Nat × WStore) := []
  deriving DecidableEq, Repr

/-- A move or set descriptor in hand (R155, R222). -/
structure QDesc where
  ctx : Nat
  gen : Nat
  raw : Nat
  waiting : Bool
  status : Nat := 0
  nosig : Bool := false
  deriving DecidableEq, Repr

/-- A mover, or SETE instance 3 under COMPUTE: the descriptor in hand and the round-robin pointer. -/
structure Mover where
  hand : Option QDesc := none
  held : List QDesc := []
  rr : Nat := 63
  deriving DecidableEq, Repr

/-- What a queue has done since it was enabled: items completed (R351), records written (for PHASE, R96). -/
structure QCnt where
  done : Nat := 0
  recs : Nat := 0
  deriving DecidableEq, Repr

/-! ### Fabric -/

/-- An arbiter's hidden state (R307, R309 to R312): by requester, the beats left of each burst it has pending, the oldest first;
requesters whose burst has begun, the round-robin pointer of each class, the two aging counters, and wait runs by requester. -/
structure Arb where
  pend : List (Nat × List Nat) := []
  begun : List Nat := []
  rr : List (Nat × Nat) := []
  age2 : Nat := 0
  age3 : Nat := 0
  runs : List (Nat × Nat) := []
  deriving DecidableEq, Repr

/-- A remote-line fill outstanding at a die (R166), and whether an invalidation reached it meanwhile. -/
structure Fill where
  die : Nat
  line : Nat
  killed : Bool := false
  deriving DecidableEq, Repr

/-- A write at a home waiting for invalidations of a line by the dies named (R165). -/
structure InvWait where
  line : Nat
  dies : List Nat
  tag : Nat
  deriving DecidableEq, Repr

/-- A queue pair as loaded (R371), its packet numbers, its rate as a fraction of the line rate (R373), its
retries spent, and the message in progress: address and bytes left of a WRITE, or bytes of a SEND. -/
structure QP where
  entry : List Byte := []
  sq : Nat := 0
  rq : Nat := 0
  rateNum : Nat := 1
  rateDen : Nat := 1
  retries : Nat := 0
  wrAddr : Nat := 0
  wrLeft : Nat := 0
  inMsg : Bool := false
  deriving DecidableEq, Repr

/-! ### Ingest (R178 to R207) -/

/-- The 32-byte entry of a stage queue (R179). -/
structure SEntry where
  body : Nat
  bytes : Nat
  item : Nat
  index : Nat
  source : Nat
  kind : Nat
  flags : Nat
  pts : Nat
  deriving DecidableEq, Repr

/-- A unit that an engine has completed and holds until it can be emitted (R206): output port, entry without its
body address, body bytes, a span of the body whose contents are undefined, and whether it leaves only together with the unit
after it. -/
structure Emis where
  port : Nat
  e : SEntry
  body : List Byte
  fogOff : Nat := 0
  fogLen : Nat := 0
  tied : Bool := false
  deriving DecidableEq, Repr

/-- A PID of a transport stream being assembled (R188): last continuity count, section or PES bytes, ERROR and KEY of the PES. -/
structure TsPid where
  pid : Nat
  cc : Option Nat := none
  buf : List Byte := []
  run : Bool := false
  err : Bool := false
  key : Bool := false
  deriving DecidableEq, Repr

/-- An elementary stream of the PMT: PID, stream type, kind (R190), codec code (R192), language. -/
structure TsEs where
  pid : Nat
  stype : Nat
  kind : Nat
  codec : Nat
  lang : Nat
  deriving DecidableEq, Repr

/-- The transport-stream state of an item (R188): sync bytes still needed before packets are taken, bytes not
yet cut, PMT PID, its version, its streams, and the PIDs in assembly; the version of the PAT, and the program that the
PMT is of. -/
structure TsState where
  need : Nat := 1
  left : List Byte := []
  pmt : Option Nat := none
  ver : Option Nat := none
  es : List TsEs := []
  pids : List TsPid := []
  patVer : Option Nat := none
  prog : Nat := 0
  deriving DecidableEq, Repr

/-- A token of a tile being gathered: its position entry, its scale bytes and its row (R201). -/
structure Tok where
  pos : List Byte
  scale : List Byte
  row : List Byte
  deriving DecidableEq, Repr

/-- An item open at an engine: number and source; next INDEX by output port; next SEQ; ports chosen (R190); whether it is ended
(R191, R193); flags owed to its next entry (R208); the frame and its side record held back until the next is known (R191);
the previous output frame (R196); RESYNC; frames or tokens counted into the sample (R200, R202); SEG; frames of the tubelet;
tokens gathered; decoded audio not yet in a block, by channel, with its rate and the time of its first sample (R198); the
codec by output port (R195); the channels of the last audio block tokenised (R202); and the transport stream. -/
structure IItem where
  item : Nat
  source : Nat
  next : List (Nat × Nat) := []
  begun : List Nat := []
  seq : Nat := 0
  ports : List (Nat × Nat) := []
  dead : Bool := false
  pend : Nat := 0
  last : List Emis := []
  prev : Option VFrame := none
  resync : Bool := false
  count : Nat := 0
  seg : Nat := 0
  frames : List (Nat × List Byte) := []
  toks : List Tok := []
  pcm : List (List Byte) := []
  pcmRate : Nat := 0
  pcmPts : Nat := 0
  chans : Nat := 0
  codec : List (Nat × Nat) := []
  ts : TsState := {}
  deriving DecidableEq, Repr

/-- A transport-stream chunk that a demux has copied into its work area and works through packet by packet (R178, R184): its
item and source, and whether it ends the item. -/
structure ChunkRun where
  item : Nat
  source : Nat
  last : Bool
  deriving DecidableEq, Repr

/-- An ES unit that a video decoder works through frame by frame (R178): its entry, its codec, its error, the frames to come
and its user data. -/
structure UnitRun where
  e : SEntry
  codec : Nat
  error : Nat
  frames : List VFrame
  userData : List Byte
  deriving DecidableEq, Repr

/-- A node of an ingest graph at work. Units held (R206), the chunk or ES unit in hand (R178), flags owed to items not open
(R208), open items, the input port last served, tiles ready and not final (R201);
a delivery's count and last CONSUMED and whether it is faulted (R204, R205); the shuffle buffer, its emissions, and the slot left
for the arriving entry (R216); the
generator's epoch, position count and block (R214); a merge's two runs of (ITEM, KEY, VALUE), their ends and last keys, and its block
count, and the inputs skipped to their LAST after an unsorted block (R218, R220); and whether a JOIN table was found unsorted (R220). -/
structure INode where
  held : List Emis := []
  chunk : Option ChunkRun := none
  unit : Option UnitRun := none
  owes : List (Nat × Nat) := []
  items : List IItem := []
  ended : List (Nat × Nat) := []
  rr : Nat := 15
  ready : List Emis := []
  n : Nat := 0
  cons : Nat := 0
  stuck : Bool := false
  buf : List SEntry := []
  emitted : Nat := 0
  slot : Option Nat := none
  epoch : Nat := 0
  epochs : Nat := 0
  j : Nat := 0
  blk : Nat := 0
  genStop : Bool := false
  runA : List (Nat × Nat × Nat) := []
  runB : List (Nat × Nat × Nat) := []
  endA : Bool := false
  endB : Bool := false
  keyA : Nat := 0
  keyB : Nat := 0
  outIdx : Nat := 0
  skipA : Bool := false
  skipB : Bool := false
  badTable : Bool := false
  deriving DecidableEq, Repr

/-- A chunk or open reservation of a reservoir (R184, R185): offset of its start, whether its message is complete,
its order of arrival, its bytes so far, its queue pair, whether its last packet has landed, and whether it is released. -/
structure RChunk where
  start : Nat
  complete : Bool := false
  order : Nat := 0
  bytes : Nat := 0
  qp : Nat := 0
  landed : Bool := false
  released : Bool := false
  deriving DecidableEq, Repr

/-- A hub's reservoir: chunks and reservations in ring order, the allocation position, and chunks completed so far. -/
structure Resv where
  ring : List RChunk := []
  pos : Nat := 0
  order : Nat := 0
  deriving DecidableEq, Repr

/-! ### The training step, the update engines and the reduction channels (R226 to R304) -/

/-- A partition's step sequence beyond the STEP registers: registers latched at BEGIN (R126, R228), what the
local check has seen (R232: step numbers with a bad trailer and with a rejected segment), the engines that have reported
and that have applied (R277, R280), the counters of the telemetry record (R241), the closing reduction's result at this
member (R234), the monitor counts as collected (R120), whether a DISCARD_ACCUM is under way (R238), and the commands
that wait for it, in order of arrival (R227). -/
structure StepSt where
  cfg : Nat := 0
  fmtCfg : Nat := 0
  fmtBase : Nat := 0
  monBase : Nat := 0
  lscaleCfg : Nat := 0
  badTrailer : List Nat := []
  epochRej : List Nat := []
  dieReset : Bool := false
  refused : Bool := false
  reports : List Nat := []
  applied : List Nat := []
  start : Nat := 0
  mark : Nat := 0
  fwd : Nat := 0
  bwd : Nat := 0
  redWait : Nat := 0
  verdictWait : Nat := 0
  upd : Nat := 0
  gathered : Option (List Byte × Bool) := none
  hist : List (Nat × Nat) := []
  discarding : Bool := false
  cmds : List Nat := []
  deriving DecidableEq, Repr

/-- What an update engine latched at the ADVANCE into AWAIT_VERDICT (R277): its registers, the loss scale, the
bytes of its table and hyper table (or the fault that reading them met), and whether the table was accepted. -/
structure UpdSt where
  table : Nat := 0
  hyper : Nat := 0
  cores : Nat := 0
  work : Nat := 0
  scale : W32 := 0x3F800000#32
  entries : List (List Byte) := []
  hypers : List Byte := []
  fault : Bool := false
  latched : Bool := false
  accepted : Bool := false
  deriving DecidableEq, Repr

/-- A reduction request taken from its ring (R250): context, generation, 512 bits, whether its signal names a
token that does not exist (R92), and whether its wait has been met. -/
structure RedReq where
  ctx : Nat
  gen : Nat
  raw : Nat
  nosig : Bool := false
  deriving DecidableEq, Repr

/-- A carry entry (R260, R302), with its address where it lies in a SPILL carve-out (R264). -/
structure CarryE where
  redId : Nat
  step : Nat
  vals : List W32
  made : Bool := false
  loc : Option Nat := none
  deriving DecidableEq, Repr

/-- A frame held at a channel, with its address where it lies in a SPILL carve-out (R264). -/
structure HeldFrame where
  f : Frame
  loc : Option Nat := none
  deriving DecidableEq, Repr

/-- A reduction at a member (R248): its request once started, opcode, identity, the wire chosen, the frames still
to come and to go, exponents by segment, results kept for an absent member, its outcome, its digests, whether its step has
ended without it (R263), whether the roll call it holds was rejected (R298), and the carry entries it has dropped (R302). -/
structure RHead where
  req : Option RedReq := none
  op : Nat := 1
  closing : Bool := false
  absent : Bool := false
  redId : Nat := 0
  elems : Nat := 0
  segs : Nat := 0
  step : Nat := 0
  epoch : Nat := 0
  n : Nat := 1
  r : Nat := 0
  bs16 : Bool := false
  rneed : Nat := 0
  dneed : Nat := 0
  exps : List (Nat × List Byte) := []
  pfwd : List Nat := []
  own : List (Nat × Option (List W32)) := []
  vals : List W32 := []
  roll1 : Option Frame := none
  r1sent : Bool := false
  rolls : Nat := 0
  rollFinal : Option (List Byte) := none
  kept : List HeldFrame := []
  carry : Option (List W32) := none
  carriedLate : Bool := false
  status : Nat := 0
  nf : Bool := false
  esc : Bool := false
  fault : Bool := false
  beats : Nat := 0
  shards : List (Nat × Nat) := []
  spans : List (Nat × Nat) := []
  sentCrc : Nat := 0
  recvCrc : Nat := 0
  arrived : Bool := false
  past : Bool := false
  stale : Bool := false
  rollMis : Bool := false
  noRoom : List Nat := []
  deriving DecidableEq, Repr

/-- A reduction channel at its home hub: whether it is HUNG, the head, the request taken and not started, the
closing contribution waiting for the head, those of steps that ended in HALT (R263), frames held in arrival order, reductions finished while absent whose
request has not started (R259), the step for which the member is absent, the last request taken (R386), and
the carry entries (R261). -/
structure Chan where
  hung : Bool := false
  head : Option RHead := none
  nxt : Option RedReq := none
  closing : Option (List W32) := none
  olds : List (List W32) := []
  inq : List HeldFrame := []
  done : List RHead := []
  absStep : Option Nat := none
  last : Option (Nat × Nat) := none
  carry : List CarryE := []
  deriving DecidableEq, Repr

/-! ### Links (R319 to R336, R415) -/

/-- What training took from a set, and whether its end may be changing width (R327 to R333): whether the receiver
has locked, whether sets carry RESET, ECHO, the width agreed, whether UP has lasted AGREE_LIMIT, and flits
replayed in a row. -/
structure SeamEnd where
  locked : Bool := false
  reset : Bool := false
  echo : Nat := 0
  agreed : Nat := 0
  stable : Bool := false
  runs : Nat := 0
  deriving DecidableEq, Repr

/-- A weave, under its compute die (R322, R323): the width held before this training (0 none, 1 half, 2 full),
whether that width bounds it, and words replayed in a row towards the die and towards the hub. -/
structure WeaveSt where
  prev : Nat := 0
  bounded : Bool := false
  runDie : Nat := 0
  runHub : Nat := 0
  deriving DecidableEq, Repr

/-! ### What the module sends -/

/-- What leaves the module, in the order sent. -/
inductive Out where
  /-- An answer to an OCT request: address, port, header VERSION, session, sequence, opcode, status, detail source,
  detail, count, payload (R375, R378, R380). -/
  | oct (dst port version session seq opcode status src detail count : Nat) (payload : List Byte)
  /-- A notice to a subscribed slot (R381): slot address, port, sequence number, class, kind, die, partition, body. -/
  | notice (dst port seq cls kind die part : Nat) (body : List Byte)
  /-- An announcement: SEQUENCE, KIND, body (R417). -/
  | announce (seq kind : Nat) (body : List Byte)
  /-- An Ethernet or RoCEv2 frame, by kind, with its fields. -/
  | eth (kind : Nat) (fields : List Nat) (body : List Byte)
  /-- A frame towards a ring neighbour on a hop (R252 to R254). -/
  | ring (hub hop : Nat) (fields : List Nat) (body : List Byte)
  /-- A read or write of memory answered to its requester (R164 to R166). -/
  | mem (tag : Nat) (ok : Bool) (kind : Nat) (data : List Byte)
  /-- Bytes on a J20 port, by port. -/
  | j20 (port : Nat) (data : List Byte)
  deriving DecidableEq, Repr

/-! ### Fences, OCT, RoCEv2 (R349 to R353, R366 to R389) -/

/-- An OCT request: its opcode, its header, the opening of the session it came in, and what its command supplies
beyond the message (a hardware fault while applying). -/
structure OctReq where
  op : Nat
  hdr : OctHdr
  opening : Nat := 0
  aux : Nat := 0
  deriving DecidableEq, Repr

/-- An open session (R376, R377): address, port and number; its version and opening; NEXT; the requests held; the
answers to the last 64 accepted, by SEQUENCE (none: not yet sent); and the MGMT count of its last request. -/
structure Sess where
  src : Nat
  port : Nat
  id : Nat
  version : Nat
  opening : Nat
  next : Nat := 1
  held : List OctReq := []
  answers : List (Nat × Option Out) := []
  last : Nat := 0
  deriving DecidableEq, Repr

/-- An entry of a fence (R350, R351): its queue, its snapshot S, whether its watermark has left, and whether it has
reached the serialiser. -/
structure FEntry where
  die : Nat
  block : Nat
  inst : Nat
  ctx : Nat
  snap : Option Nat := none
  sent : Bool := false
  here : Bool := false
  deriving DecidableEq, Repr

/-- A fence accepted and not answered: its number, request, entries, and, once it has ended, its status. -/
structure Fence where
  number : Nat
  req : OctReq
  entries : List FEntry
  ended : Option Nat := none
  deriving DecidableEq, Repr

/-- The Ethernet port beyond its registers (R367, R369): the speed being tried (3 the fastest), quanta of pause by
priority, and announcements: how many were sent this Daybreak, and the KIND being repeated (0 none). -/
structure Eth where
  trying : Nat := 0
  pauses : List (Nat × Nat) := []
  announced : Nat := 0
  announcing : Nat := 0
  deriving DecidableEq, Repr

/-! ### Flash, firmware (R393 to R403) -/

/-- The flash devices' contents and fuses (R394 to R401): firmware and stream slots (empty: erased), the two copies of
the boot record (PREFERRED, BOOT_COUNT) and of the LMS next index, and fuses blown. -/
structure Flash where
  fwA : List Byte := []
  fwB : List Byte := []
  strA : List Byte := []
  strB : List Byte := []
  boot0 : Nat × Nat := (0, 0)
  boot1 : Nat × Nat := (0, 0)
  lms0 : Nat := 0
  lms1 : Nat := 0
  fuses : Nat := 0
  deriving DecidableEq, Repr

/-- An install in its background phase (R398): operation, slot, and the copy of the image or stream. -/
structure Install where
  op : Nat
  slot : Nat
  bytes : List Byte
  deriving DecidableEq, Repr

/-! ### Daybreak, power, resets (R355 to R364, R407 to R443) -/

/-- Start-up and the always-on domain: whether the module has its supply, the step in progress (0 none), the sampled
NEXT_SOURCE, the running firmware's SVN and manifest digest, whether a source failed (R417), whether EMRST_N is
low, MODE as sampled (R363: true, open, the test access port), references lost (100 MHz, 156.25 MHz), a hub's thermal trip, Daybreak stopped at step 5
(R413), and the AON count at the last kick of the firmware watchdog (R429). -/
structure Aon where
  powered : Bool := false
  mode : Bool := false
  step : Nat := 0
  source : Nat := 0
  fwSvn : Nat := 0
  fwDigest : List Byte := []
  sourceFailed : Bool := false
  emrst : Bool := false
  lost100 : Bool := false
  lost156 : Bool := false
  hubTrip : Bool := false
  stopped : Bool := false
  kickAt : Nat := 0
  deriving DecidableEq, Repr

/-- The power manager (R355, R359 to R361): the floor on every level while the input is out of range, samples below 60 V in a
row, whether the coolant floor on C holds, readings above CAP in a row, whether the last reading was an excursion,
temperatures by part (a die's code, and 64 + 8 * die + position for a stack), dies under a thermal trip, thermal level by die, and
each die's level as ordered (LEVEL follows it by one step per 64 MX cycles, R358). -/
structure Power where
  vinFloor : Bool := false
  low : Nat := 0
  coolant : Bool := false
  past : Nat := 0
  exc : Bool := false
  temps : List (Nat × Nat) := []
  tripped : List Nat := []
  thermal : List (Nat × Nat) := []
  target : List (Nat × Nat) := []
  deriving DecidableEq, Repr

/-- A reset sequence (R431): domain (1 engine, 2 die, 3 half, 4 module), its die (a hub for a half), block and instance;
whether the module began it; its stage (0 waiting its turn, 1 dump, 2 dusk, 3 freezing, 4 reset, 5 starting its regions); the regions to start at its end; whether work
is rewound (R435); the contexts suspected; requests forced (R430); the notice KIND that led to it; and the context found guilty, if
its hang has recurred (R436); the units of an engine reset's closure, as (block, instance) (R421); and the dies that were
HELD when it began (R432). -/
structure ResetSeq where
  domain : Nat
  die : Nat
  block : Nat := 0
  inst : Nat := 0
  auto : Bool := false
  stage : Nat := 0
  dump : Bool := false
  regions : List Nat := []
  replay : Bool := false
  suspects : Nat := 0
  forced : Nat := 0
  cause : Nat := 0
  guilty : Option Nat := none
  units : List (Nat × Nat) := []
  stuck : List Nat := []
  deriving DecidableEq, Repr

/-- A unit in quarantine (R436): its die and lead (or hub and instance), block, every suspect, and those not yet served. -/
structure Quar where
  die : Nat
  block : Nat
  inst : Nat
  suspects : Nat
  left : List Nat
  deriving DecidableEq, Repr

/-- A dump in progress (R438): dies, cause, domain, block and instance of the hung unit, suspects, SEQ, MGMT count at
its start, and the banks and windows that were found unreadable, as (die, bank), and dies whose route was not trained. -/
structure Dump where
  dies : List Nat
  cause : Nat := 0
  domain : Nat := 0
  block : Nat := 0
  inst : Nat := 0
  suspects : Nat := 0
  seq : Nat
  start : Nat
  lost : List (Nat × Nat) := []
  deriving DecidableEq, Repr

/-! ### The module -/

structure State where
  /-- Commands waiting, first in first out. -/
  pending : List Instr := []
  /-- What the module has sent, oldest first. -/
  out : List Out := []
  /-- Counts the values left open so far; each takes the next key of Config.free. -/
  fresh : Nat := 0
  /-- Control registers by R5 address; an unlisted register reads as its reset value. -/
  csr : List (Nat × Word) := []
  mem : Mem := {}
  /-- Records last applied to each region (R66, R425), by region code. -/
  recs : List (Nat × List SRec) := []
  /-- Regions whose settings a hardware fault while loading left undefined (R60). -/
  fog : List Nat := []
  /-- The active full stream's bytes (R67). -/
  active : List Byte := []
  mx : List (Nat × MxUnit) := []
  tiles : List (Nat × WStore) := []
  tbs : List (Nat × WStore) := []
  fmtCopy : List (Nat × Nat) := []
  mons : List (Nat × Nat) := []
  movers : List (Nat × Mover) := []
  qcnt : List (Nat × QCnt) := []
  /-- Lines held in each die's remote-line cache, most recently used first (R164). -/
  rlc : List (Nat × List Nat) := []
  fills : List Fill := []
  invWaits : List InvWait := []
  arbs : List (Nat × Arb) := []
  /-- The patrol scrubber's next burst, by stack. -/
  scrubAt : List (Nat × Nat) := []
  qps : List (Nat × QP) := []
  /-- Tokens of work in the step: layers latched, loss scale latched, per partition (R126, R125). -/
  latLayers : List (Nat × Nat) := []
  latScale : List (Nat × W32) := []
  /-- Ingest: nodes by hub and number, stage queues by hub, receiving node and port, bodies held (node, address, bytes), reservoirs by hub. -/
  inodes : List (Nat × INode) := []
  stageQ : List (Nat × List SEntry) := []
  bodies : List (Nat × Nat × Nat) := []
  resv : List (Nat × Resv) := []
  /-- Step sequences by partition, update engines by compute die, reduction channels by physical channel, and what
  waits for a link that is down with the partition that sends it, by hub * 32 + hop. -/
  steps : List (Nat × StepSt) := []
  upds : List (Nat × UpdSt) := []
  chans : List (Nat × Chan) := []
  waitTx : List (Nat × List (Nat × Out)) := []
  /-- Seam ends by hub, weaves by compute die, the version that each peer port last negotiated since Daybreak,
  and the dies that are in reset or that Daybreak or a reset has not released (R413, R432). -/
  seams : List (Nat × SeamEnd) := []
  weaves : List (Nat × WeaveSt) := []
  peerVer : List (Nat × Nat) := []
  held : List Nat := []
  /-- Fences in acceptance order, and how many have been accepted. -/
  fences : List Fence := []
  fenceCount : Nat := 0
  /-- OCT: sessions, openings so far, requests accepted and not yet taken, the one being carried out (if its answer is
  yet to come and holds back the others, R379), and the REGION_STOP and CTX_CLOSE requests owed an answer, by region,
  and by 256 + context. -/
  sessions : List Sess := []
  openings : Nat := 0
  octQ : List OctReq := []
  octBusy : Option OctReq := none
  octWait : List (Nat × OctReq) := []
  /-- The regions whose REGION_START the firmware has yet to see through, in order, the first perhaps STARTING (R416, R431). -/
  starts : List Nat := []
  eth : Eth := {}
  /-- R373: by queue pair, the MGMT count of the last CNP sent and of the last CNP that cut the rate. -/
  cnpSent : List (Nat × Nat) := []
  cnpCut : List (Nat × Nat) := []
  flash : Flash := {}
  install : Option Install := none
  aon : Aon := {}
  power : Power := {}
  resets : List ResetSeq := []
  /-- Units found hung and not reset since, as (die, block, instance, suspects) (R428). -/
  hung : List (Nat × Nat × Nat × Nat) := []
  quars : List Quar := []
  dump : Option Dump := none
  dumpSeq : Nat := 0
  /-- J20: the answer of the last test-access-port access (status, read data), and the access waiting for the ring
  (address, write data). -/
  tap : Nat × Nat := (0, 0)
  j20Wait : List (Nat × Option Nat × Bool) := []
  deriving DecidableEq, Repr

/-- The module right after reset: 72 V is not yet good (R407), every other die is held, the flash is erased (DESIGN CHOICE), every
register reads its reset value, memory lists nothing, no command waits. -/
def State.reset : State := { held := [1, 4, 5, 6, 7] }

end Sys2Proof.Machine
end

