-- ==== Sys2Proof/Machine/Ops.lean ====
section
/-!
DEFINITION. Named operations on the state: control registers, stream records, memory with its access
faults (R37, R171), notices (R349, R381, R444), and the counters of contexts (R385).
-/

namespace Sys2Proof.Machine

/-! ### Control registers -/

/-- The 64 bits of a register as they stand. -/
def State.rd (s : State) (r : RegDef) (die inst idx : Nat) : Nat :=
  match nfind (r.addr die inst idx) s.csr with
  | some v => v.toNat
  | none => regResetNat r die inst idx

/-- Set the 64 bits of a register. -/
def State.wr (s : State) (r : RegDef) (die inst idx v : Nat) : State :=
  { s with csr := nset (r.addr die inst idx) (BitVec.ofNat 64 v) s.csr }

/-- A field as it stands. -/
def State.get (s : State) (f : Fld) (die : Nat) (inst : Nat := 0) (idx : Nat := 0) : Nat :=
  bits (s.rd f.reg die inst idx) f.lo f.width

/-- A one-bit field as a Boolean. -/
def State.flag (s : State) (f : Fld) (die : Nat) (inst : Nat := 0) (idx : Nat := 0) : Bool :=
  s.get f die inst idx != 0

/-- Set a field (its low bits; hardware and events use this whatever the access code). -/
def State.put (s : State) (f : Fld) (v : Nat) (die : Nat) (inst : Nat := 0) (idx : Nat := 0) : State :=
  s.wr f.reg die inst idx (setBits (s.rd f.reg die inst idx) f.lo f.width v)

/-- Set a one-bit field. -/
def State.set1 (s : State) (f : Fld) (die : Nat) (inst : Nat := 0) (idx : Nat := 0) : State :=
  s.put f 1 die inst idx

/-- Add to a counter that wraps at its width. -/
def State.count (s : State) (f : Fld) (n : Nat) (die : Nat) (inst : Nat := 0) (idx : Nat := 0) : State :=
  s.put f (s.get f die inst idx + n) die inst idx

/-- Add to a counter that holds at all ones. -/
def State.countSat (s : State) (f : Fld) (n : Nat) (die : Nat) (inst : Nat := 0) (idx : Nat := 0) : State :=
  s.put f (min (s.get f die inst idx + n) (2 ^ f.width - 1)) die inst idx

/-- A register back at its reset value. -/
def State.rst (s : State) (r : RegDef) (die inst idx : Nat) : State :=
  { s with csr := nerase (r.addr die inst idx) s.csr }

/-- The key of a fresh open value, and the state that has used it. -/
def State.tick (s : State) : Nat × State := (s.fresh, { s with fresh := s.fresh + 1 })

/-- Does it leave through the Ethernet port? -/
def Out.onEth : Out → Bool
  | .oct .. => true
  | .notice .. => true
  | .announce .. => true
  | .eth .. => true
  | _ => false

/-- Send something. Nothing leaves the Ethernet port while its link is down; ETH_TX_FRAMES counts what does (R390). -/
def State.send (s : State) (o : Out) : State :=
  if o.onEth then
    if s.flag R.ETH_STATUS_LINK_UP 0 then { s with out := s.out ++ [o] }.count R.ETH_TX_FRAMES_COUNT 1 0 else s
  else { s with out := s.out ++ [o] }

/-! ### Stream records in force -/

/-- The records of a type in force in a region (R41, R66). -/
def State.recsOf (s : State) (region type : Nat) : List SRec :=
  ((ngetD s.recs region []).filter (fun r => r.type == type))

/-- The payload of a region's once-only record. -/
def State.recOf (s : State) (region type : Nat) : Option (List Byte) :=
  ((s.recsOf region type).head?).map (·.payload)

/-- ID_DIE.PARTITION_COUNT: 0 none, 1 one, 2 two, 3 four partitions (R33). -/
def State.cut (s : State) : Nat := s.get R.ID_DIE_PARTITION_COUNT 0

/-- Number of partitions of a cut code. -/
def cutParts (c : Nat) : Nat := match c with | 1 => 1 | 2 => 2 | 3 => 4 | _ => 0

def State.parts (s : State) : Nat := cutParts s.cut

/-- Is the compute die excluded (R34)? -/
def State.excluded (s : State) (d : Nat) : Bool := isComp d && s.flag R.ID_DIE_EXCLUDED d

/-- R24: the partition of a compute die under a cut. -/
def cutPartOf (cut d : Nat) : Nat :=
  match cut with
  | 2 => hubOf d
  | 3 => d - 4
  | _ => 0

/-- The partition of a compute die, once a stream is applied and the die is in service (R24, R34). -/
def State.partOfDie (s : State) (d : Nat) : Option Nat :=
  if isComp d && s.cut != 0 && !s.excluded d then some (cutPartOf s.cut d) else none

/-- R24: the compute dies in service of a partition. -/
def State.partDies (s : State) (p : Nat) : List Nat :=
  compDies.filter (fun d => s.partOfDie d == some p)

/-- R24: the hubs that serve a partition. -/
def State.partHubs (s : State) (p : Nat) : List Nat :=
  match s.cut with
  | 1 => [0, 1]
  | 2 => [p]
  | 3 => [p / 2]
  | _ => []

/-- R24, R25: the partition of a physical channel. -/
def State.partOfChan (s : State) (r : Nat) : Nat :=
  match s.cut with
  | 2 => r / 16
  | 3 => r / 8
  | _ => 0

/-- R25: the lowest physical channel of a partition. -/
def State.chanBase (s : State) (p : Nat) : Nat :=
  match s.cut with
  | 2 => 16 * p
  | 3 => 8 * p
  | _ => 0

/-- R24: the partition of a peer port. -/
def State.partOfPort (s : State) (j : Nat) : Nat :=
  match s.cut with
  | 2 => j / 8
  | 3 => j / 4
  | _ => 0

/-- A carve-out (R44): kind, partition, owner, base and size. -/
structure Carve where
  kind : Nat
  part : Nat
  owner : Nat
  base : Nat
  size : Nat
  deriving DecidableEq, Repr

def carveOfPayload (p : List Byte) : Carve :=
  ⟨fieldAt p 0 1, fieldAt p 1 1, fieldAt p 2 1, fieldAt p 8 8 % 2 ^ 48, fieldAt p 0x10 8⟩

/-- The carve-outs in force. -/
def State.carves (s : State) : List Carve := (s.recsOf 0 5).map (fun r => carveOfPayload r.payload)

/-- The carve-out of a kind that holds an address. -/
def State.carveAt (s : State) (kind a : Nat) : Option Carve :=
  s.carves.find? (fun c => c.kind == kind && decide (c.base ≤ a) && decide (a < c.base + c.size))

/-- R57: the owner of a claimable resource on a die, the default where CLAIMS is silent. -/
def State.claim (s : State) (resource die : Nat) : Nat :=
  let entries := match s.recOf 0 7 with
    | some p => chunks 4 (p.length / 4) p
    | none => []
  match entries.find? (fun e => fieldAt e 0 1 == resource && (fieldAt e 1 1 == die || fieldAt e 1 1 == 0xFF)) with
  | some e => fieldAt e 2 1
  | none => match resource with | 1 => 1 | 2 => 1 | 3 => 4 | _ => 6

/-- An ingest node as its record gives it (R48, R181). -/
structure NodeCfg where
  node : Nat
  block : Nat
  inst : Nat
  params : List Byte
  deriving DecidableEq, Repr

def nodeOfPayload (p : List Byte) : NodeCfg :=
  ⟨fieldAt p 0 1, fieldAt p 1 1, fieldAt p 2 1, (p.drop 8).take (fieldAt p 3 1)⟩

/-- The nodes of a hub's ingest graph in force. -/
def State.nodes (s : State) (hub : Nat) : List NodeCfg :=
  (s.recsOf (0x10 + hub) 0x301).map (fun r => nodeOfPayload r.payload)

/-- R44: the bit of SPLIT_AM and SPLIT_PM that assigns an engine instance. -/
def splitBit (block inst : Nat) : Nat :=
  match block with
  | 0x30 => inst | 0x31 => 2 + inst | 0x32 => 14 + inst | 0x33 => 18 + inst | 0x34 => 24 + inst
  | 0x35 => 28 | _ => 29 + inst

/-- R26: the partition of an ingest, shuffle or set engine instance. -/
def State.partOfEngine (s : State) (hub block inst : Nat) : Nat :=
  match s.cut with
  | 2 => hub
  | 3 =>
    match s.recOf 0 1 with
    | some p => 2 * hub + b2n (bit (fieldAt p (0x20 + 8 * hub) 8) (splitBit block inst))
    | none => 2 * hub
  | _ => 0

/-- R181: the work areas of a hub's engine nodes: base, length, partition. -/
def State.workAreas (s : State) (hub : Nat) : List (Nat × Nat × Nat) :=
  ((s.nodes hub).filter (fun n => n.block != 0xFE)).map fun n =>
    (fieldAt n.params 0 8 % 2 ^ 48, fieldAt n.params 8 4 * 0x10000, s.partOfEngine hub n.block n.inst)

/-- R225: the SETE_QWORK area of a hub: base, length. -/
def State.qworkArea (s : State) (hub : Nat) : Nat × Nat :=
  (hub * 2 ^ 44 + s.get R.SETE_QWORK_BASE hub 3 * 0x10000 % 2 ^ 44, s.get R.SETE_QWORK_BLOCKS hub 3 * 0x10000)

/-! ### Access faults (R37, R171) -/

/-- Who makes an access: the partition whose work it is (none: not judged under R27), whether it is a
mover (R173), and whether it is a demux reading its hub's reservoir (R184). -/
structure Who where
  die : Nat
  part : Option Nat
  mover : Bool := false
  resv : Bool := false
  deriving DecidableEq, Repr

/-- R161: the stacks of a die in service, by position. -/
def State.stacks (s : State) (d : Nat) : List Nat :=
  (List.range 8).filter (fun i => bit (s.get R.ID_UNITS_STACK_PRESENT d) i)

/-- R161: bytes of mapped home DRAM. -/
def State.homeSize (s : State) (d : Nat) : Nat := (s.stacks d).length * 0x1000000000

def spadBase (d m : Nat) : Nat := d * 2 ^ 44 + 0x0F0000000000 + m * 0x400000
def addrDie (a : Nat) : Nat := (a / 2 ^ 44) % 16
def addrOff (a : Nat) : Nat := a % 2 ^ 44

/-- R171: the size of the far window, if a FAR_WINDOW carve-out stands. -/
def State.farSize (s : State) : Nat :=
  match s.carves.find? (fun c => c.kind == 6) with
  | some c => c.size
  | none => 0

/-- R27: may work of a partition reach an address of mapped memory? -/
def State.partOk (s : State) (w : Who) (a : Nat) : Bool :=
  match w.part with
  | none => true
  | some p =>
    let d := addrDie a
    if s.cut ≤ 1 then true
    else if isComp d then
      s.partOfDie d == some p ||
      (w.resv && s.cut == 3 && (s.carves.any fun c => c.kind == 1 && c.owner == 0x10 + w.die && decide (c.base ≤ a) && decide (a < c.base + c.size)))
    else if s.cut = 2 then d == p
    else
      (d == p / 2) &&
      ((s.carves.any fun c => c.kind == 3 && c.part == p && decide (c.base ≤ a) && decide (a < c.base + c.size)) ||
       ((s.workAreas d).any fun x => x.2.2 == p && decide (x.1 ≤ a) && decide (a < x.1 + x.2.1)) ||
       (s.partOfEngine d 0x36 3 == p &&
         decide ((s.qworkArea d).1 ≤ a) && decide (a < (s.qworkArea d).1 + (s.qworkArea d).2)))

/-- R37, R171: the fault kind of one byte's address for a requester; 0 where it may be reached. ECC and
FAR_DOWN are found where the data are and on the way to the host. An address computed past 48 bits maps to nothing. -/
def State.kindAt (s : State) (w : Who) (a : Nat) : Nat :=
  let d := addrDie a
  let o := addrOff a
  if 2 ^ 48 ≤ a then 1
  else if d = 0xE then
    if !w.mover then 1 else if o < s.farSize then 0 else 2
  else if isHub d then
    if o < 0x18000000 then (if s.partOk w a then 0 else 4) else 1
  else if isComp d then
    if s.excluded d then 3
    else if o < s.homeSize d then (if s.partOk w a then 0 else 4)
    else if 0x0F0000000000 ≤ o ∧ o < 0x0F0008000000 then
      if bit (s.get R.ID_UNITS_MC_PRESENT d) ((o - 0x0F0000000000) / 0x400000) then
        (if s.partOk w a then 0 else 4)
      else 3
    else 1
  else 1

/-- The addresses at which the judgement of an access can change. -/
def State.bounds (s : State) : List Nat :=
  (List.range 17).map (· * 2 ^ 44) ++ [0x18000000, 2 ^ 44 + 0x18000000, 0xE * 2 ^ 44 + s.farSize] ++
  compDies.map (fun d => d * 2 ^ 44 + s.homeSize d) ++
  compDies.flatMap (fun d => (List.range 33).map (spadBase d)) ++
  s.carves.flatMap (fun c => [c.base, c.base + c.size]) ++
  (if s.cut = 3 then hubs.flatMap (fun h => (s.workAreas h).flatMap (fun x => [x.1, x.1 + x.2.1]) ++
    [(s.qworkArea h).1, (s.qworkArea h).1 + (s.qworkArea h).2]) else [])

/-- R37, R171: judge an access as a whole: 0, or the kind of the lowest-addressed byte that faults. -/
def State.judge (s : State) (w : Who) (a n : Nat) : Nat :=
  if n = 0 then 0
  else
    let k0 := s.kindAt w a
    if k0 ≠ 0 then k0
    else
      let cand := (s.bounds.filter (fun b => decide (a < b) && decide (b < a + n))).filter
        (fun b => s.kindAt w b != 0)
      match cand with
      | [] => 0
      | c :: cs => s.kindAt w (cs.foldl min c)

/-! ### Bytes of memory -/

/-- Does an undefined span cover the address? Its key, if so. -/
def undefAt : List (Nat × Nat × Nat) → Nat → Option Nat
  | [], _ => none
  | (lo, n, k) :: t, a => if lo ≤ a ∧ a < lo + n then some k else undefAt t a

/-- What an unlisted address reads as: zero, or a free value where the contents are undefined. -/
def Mem.base (m : Mem) (a : Nat) : Byte :=
  match undefAt m.undef a with
  | some k => BitVec.ofNat 8 (Config.free k a)
  | none => 0

/-- One byte of memory. -/
def Mem.byte (m : Mem) (a : Nat) : Byte := (nfind a m.cells).getD (m.base a)

/-- Write one byte, in canonical form. -/
def Mem.put (m : Mem) (a : Nat) (b : Byte) : Mem :=
  if b = m.base a then { m with cells := nerase a m.cells }
  else { m with cells := nset a b m.cells }

/-- Write bytes from an address upwards. -/
def Mem.write (m : Mem) (a : Nat) : List Byte → Mem
  | [] => m
  | b :: t => (m.put a b).write (a + 1) t

/-- Read bytes from an address upwards. -/
def Mem.read (m : Mem) (a n : Nat) : List Byte := (List.range n).map (fun i => m.byte (a + i))

/-- Leave a span undefined. -/
def Mem.forget (m : Mem) (lo n key : Nat) : Mem :=
  { m with cells := m.cells.filter (fun c => decide (c.1 < lo) || decide (lo + n ≤ c.1)),
           undef := (lo, n, key) :: m.undef }

/-- The canonical form: keys rise strictly, and no entry equals what an unlisted address reads as. -/
def Mem.wf (m : Mem) : Bool :=
  nsorted m.cells && m.cells.all (fun c => c.2 != m.base c.1)

/-- The one canonical form of a memory's contents. -/
def Mem.canon (m : Mem) : Mem :=
  { m with cells := (m.cells.foldr (fun c l => nset c.1 c.2 l) []).filter (fun c => c.2 != m.base c.1) }

/-- The protected unit that holds an address: a 32-byte burst of DRAM (R162), a 64-bit word elsewhere
(R154, R452). -/
def eccUnit (a : Nat) : Nat × Nat :=
  if isComp (addrDie a) && decide (addrOff a < 0x0F0000000000) then (a - a % 32, 32) else (a - a % 8, 8)

/-- The least of a list of numbers. -/
def least : List Nat → Option Nat
  | [] => none
  | x :: l => some (l.foldl min x)

/-- The units in uncorrectable error that a range touches. -/
def Mem.badsIn (m : Mem) (a n : Nat) : List Nat := m.bad.filter (fun u => overlap u (eccUnit u).2 a n)

/-- The lowest of them. -/
def Mem.badIn (m : Mem) (a n : Nat) : Option Nat := least (m.badsIn a n)

/-- Put units in uncorrectable error. -/
def Mem.spoil (m : Mem) (l : List Nat) : Mem :=
  { m with bad := ((l.map (fun a => (eccUnit a).1)).filter (fun u => !m.bad.contains u)).eraseDups ++ m.bad }

/-- R154, R452: a write of a whole unit takes it out of error. -/
def Mem.heal (m : Mem) (a n : Nat) : Mem :=
  { m with bad := m.bad.filter (fun u => !(decide (a ≤ u) && decide (u + (eccUnit u).2 ≤ a + n))) }

/-- Leave spans of memory, as (address, bytes), undefined. -/
def State.forgetSpans (s : State) (l : List (Nat × Nat)) : State :=
  l.foldl (fun (s : State) x => let (k, s) := s.tick; { s with mem := s.mem.forget x.1 x.2 k }) s

/-- R161: the stack position, channel and in-channel location of a home DRAM address. -/
def State.dramPlace (s : State) (a : Nat) : Nat × Nat × Nat :=
  let d := addrDie a
  let st := s.stacks d
  let k := st.length
  let o := addrOff a
  let g := o >>> 8
  let j := if k = 8 then (g ^^^ (g >>> 8)) % 8 else g % k
  let u := if k = 8 then g >>> 3 else g / k
  (nth st j 0, (u ^^^ (u >>> 8)) % 32, (u >>> 5) * 256 + o % 256)

def isHomeDram (a : Nat) : Bool := isComp (addrDie a) && decide (addrOff a < 0x0F0000000000)

/-- The 256-byte granules of a range, as (address, bytes), with fuel. -/
def granules (size : Nat) : Nat → Nat → Nat → List (Nat × Nat)
  | 0, _, _ => []
  | k + 1, a, n =>
    if n = 0 then [] else
      let c := min n (size - a % size)
      (a, c) :: granules size k (a + c) (n - c)

/-- R176: count bytes read or written at the controllers that serve them. -/
def State.countDram (s : State) (f : Fld) (a n : Nat) : State :=
  if isHomeDram a then
    (granules 256 (n / 256 + 2) a n).foldl (fun s g =>
      s.count f g.2 (addrDie g.1) (s.dramPlace g.1).1) s
  else s

/-- R162: record an uncorrectable DRAM error at its controller. -/
def State.noteDramEcc (s : State) (u : Nat) : State :=
  if isHomeDram u then
    let d := addrDie u
    let (i, ch, _) := s.dramPlace u
    if s.flag R.HBMC_ERROR_UNCORR d i then s.set1 R.HBMC_ERROR_OVERFLOW d i
    else (((s.set1 R.HBMC_ERROR_UNCORR d i).put R.HBMC_ERROR_CHANNEL ch d i).put R.HBMC_ERROR_ADDR_ADDR u d i)
  else s

/-- R162: every unit in error of a read is recorded at its controller, the lowest first. -/
def State.noteBads (s : State) (u : Nat) (l : List Nat) : State :=
  (l.filter (· != u)).foldl (fun s v => s.noteDramEcc v) (s.noteDramEcc u)

/-- R171: a read: the fault kind, or the bytes; with the controllers' counters. -/
def State.load (s : State) (w : Who) (a n : Nat) : State × (Except Nat (List Byte)) :=
  let k := s.judge w a n
  if k ≠ 0 then (s, .error k)
  else
    match s.mem.badIn a n with
    | some u => (s.noteBads u (s.mem.badsIn a n), .error 6)
    | none => (s.countDram R.HBMC_RD_BYTES_COUNT a n, .ok (s.mem.read a n))

/-- R168: the FP32 elements of a write added to those in memory, and how many results are non-finite. -/
def addElems : List Byte → List Byte → List Byte × Nat
  | a0 :: a1 :: a2 :: a3 :: at', b0 :: b1 :: b2 :: b3 :: bt =>
    let r := f32Add (BitVec.ofNat 32 (leVal [a0, a1, a2, a3])) (BitVec.ofNat 32 (leVal [b0, b1, b2, b3]))
    let (rest, n) := addElems at' bt
    (leBytes 4 r.toNat ++ rest, n + b2n (f32NonFinite r))
  | _, _ => ([], 0)

/-- R57, R168: does a write that starts in the carve-out add? -/
def State.accumCarve (s : State) (a n : Nat) : Option Carve :=
  s.carves.find? (fun c => c.kind == 5 && overlap c.base c.size a n && s.claim 4 (addrDie c.base) == 6)

/-- R165: the dies that hold a copy of a line of home DRAM, other than its home. -/
def State.holders (s : State) (line : Nat) : List Nat :=
  compDies.filter (fun d => (ngetD s.rlc d []).contains line)

def lineOf (a : Nat) : Nat := a - a % 128

/-- R165: directory entries in use at a home die, as RLC_STATUS shows them. -/
def State.refreshDir (s : State) : State :=
  if s.rlc.all (fun p => p.2.isEmpty) && compDies.all (fun d => s.get R.RLC_STATUS_DIR_USED d == 0) then s
  else
    let all := s.rlc.flatMap (·.2)
    compDies.foldl (fun s d =>
      let n := ((all.filter (fun l => addrDie l == d)).eraseDups).length
      s.put R.RLC_STATUS_DIR_USED n d) s

/-- R165, R166: a line leaves every cache, and fills of it that are outstanding will not be installed. -/
def State.dropLine (s : State) (line : Nat) : State :=
  let s := (s.holders line).foldl (fun (s : State) d =>
    { s.count R.RLC_INVALS_COUNT 1 d with rlc := nset d ((ngetD s.rlc d []).filter (· != line)) s.rlc }) s
  { s with fills := s.fills.map (fun f => if f.line = line then { f with killed := true } else f) }

/-- R165: invalidate every cached copy of the lines a write touches. -/
def State.invalidate (s : State) (a n : Nat) : State :=
  if isHomeDram a then
    let lines := (List.range (n / 128 + 2)).map (fun i => lineOf a + 128 * i)
    let lines := lines.filter (fun l => decide (l < a + n))
    (lines.foldl (fun s l => s.dropLine l) s).refreshDir
  else s

/-- R168, R171, R452: a write, judged as a whole; an add where WRITE_ACCUM owns the adders and the write
is not plain. Answers the fault kind, 0 where it is done. -/
def State.storeRaw (s : State) (w : Who) (a : Nat) (data : List Byte) (plain : Bool := false) : State × Nat :=
  let n := data.length
  let k := s.judge w a n
  if k ≠ 0 then (s, k)
  else if n = 0 then (s, 0)
  else
    match (if plain then none else s.accumCarve a n) with
    | some _ =>
      if a % 4 ≠ 0 ∨ n % 4 ≠ 0 then
        (s.count R.NMA_REFUSED_COUNT 1 (addrDie a) (s.dramPlace a).1, 5)
      else
        let go := (granules 4 (n / 4 + 1) a n).foldl (fun (st : State × List Byte) g =>
          let s := st.1
          let d := st.2.take 4
          let s :=
            match s.carveAt 5 g.1 with
            | some _ =>
              let (r, nf) := addElems (s.mem.read g.1 4) d
              let s := { s with mem := s.mem.write g.1 r }
              let i := (s.dramPlace g.1).1
              (s.count R.NMA_ADDS_COUNT 1 (addrDie a) i).count R.NMA_NONFINITE_COUNT nf (addrDie a) i
            | none => { s with mem := s.mem.write g.1 d }
          (s, st.2.drop 4)) (s, data)
        (go.1.countDram R.HBMC_WR_BYTES_COUNT a n, 0)
    | none =>
      match (if isHomeDram a then none
             else s.mem.bad.find? (fun u => overlap u 8 a n && !(decide (a ≤ u) && decide (u + 8 ≤ a + n))
               && isHub (addrDie u))) with
      | some _ => (s, 6)
      | none =>
        let s := { s with mem := (s.mem.write a data).heal a n }
        (s.countDram R.HBMC_WR_BYTES_COUNT a n, 0)

/-- A write with every cached copy of its lines invalidated before it completes (R165). -/
def State.store (s : State) (w : Who) (a : Nat) (data : List Byte) (plain : Bool := false) : State × Nat :=
  let (s, k) := s.storeRaw w a data plain
  (if k = 0 then s.invalidate a data.length else s, k)

/-- R171, R175: a compute die records the first access fault it finds. -/
def State.dieRecord (s : State) (die requester ctx kind addr : Nat) : State :=
  if s.flag R.RLC_FAULT_INFO_VALID die then s.set1 R.RLC_FAULT_INFO_MORE die
  else
    ((((s.put R.RLC_FAULT_INFO_KIND kind die).put R.RLC_FAULT_INFO_REQUESTER requester die).put
      R.RLC_FAULT_INFO_CONTEXT ctx die).set1 R.RLC_FAULT_INFO_VALID die).put R.RLC_FAULT_ADDR_ADDR addr die

/-- R171, R450: a hub records the first access fault it finds. -/
def State.hubRecord (s : State) (hub block inst ctx kind addr : Nat) : State :=
  if s.flag R.MGT_FAULT_INFO_VALID hub then s.set1 R.MGT_FAULT_INFO_MORE hub
  else
    (((((s.put R.MGT_FAULT_INFO_KIND kind hub).put R.MGT_FAULT_INFO_BLOCK block hub).put
      R.MGT_FAULT_INFO_INSTANCE inst hub).put R.MGT_FAULT_INFO_CONTEXT ctx hub).set1
      R.MGT_FAULT_INFO_VALID hub).put R.MGT_FAULT_ADDR_ADDR addr hub

/-- R171: the die that finds a fault: the requester's, but for kind ECC the one where the data are read. -/
def faultDie (die kind addr : Nat) : Nat := if kind = 6 ∧ isDie (addrDie addr) then addrDie addr else die

/-- R175: the block and instance of a compute die's requester. -/
def requesterBlock (requester : Nat) : Nat × Nat :=
  if requester < 0x20 then (0x12, requester)
  else if requester < 0x40 then (0x10, requester - 0x20)
  else if requester = 0x40 then (0x62, 0) else (0x13, 0)

/-- R171, R175: the fault of a compute die's requester, recorded where it is found. -/
def State.dieFault (s : State) (die requester ctx kind addr : Nat) : State :=
  let d := faultDie die kind addr
  if d = die then s.dieRecord die requester ctx kind addr
  else if isHub d then s.hubRecord d (requesterBlock requester).1 (requesterBlock requester).2 ctx kind addr
  else s.dieRecord d 0x41 ctx kind addr

/-- R171, R450: the fault of a hub's engine, recorded where it is found. -/
def State.hubFault (s : State) (hub block inst ctx kind addr : Nat) : State :=
  let d := faultDie hub kind addr
  if isHub d then s.hubRecord d block inst ctx kind addr else s.dieRecord d 0x41 ctx kind addr

/-! ### Paths between dies (R17, R18, R23) -/

/-- The instance of a hub's WEAVE block that reaches a compute die (R32). -/
def weaveInst (die : Nat) : Nat := die % 2

/-- R323: is a compute die's weave UP? -/
def State.weaveUp (s : State) (die : Nat) : Bool :=
  s.get R.WEAVE_STATUS_STATE (hubOf die) (weaveInst die) == 2 && s.get R.WEAVE_STATUS_STATE die == 2

/-- R327: is the seam trained, at full or safe width? -/
def State.seamTrained (s : State) : Bool :=
  let a := s.get R.SEAM_STATUS_STATE 0
  let b := s.get R.SEAM_STATUS_STATE 1
  (a == 4 || a == 5) && (b == 4 || b == 5)

/-- R17, R18, R23: can data pass between two dies (host memory lies behind hub AM)? A compute die's traffic crosses its weave,
traffic between the halves the seam; while one is not trained, its requesters wait (R333). -/
def State.linked (s : State) (a b : Nat) : Bool :=
  a == b ||
  ((!isComp a || s.weaveUp a) && (!isComp b || s.weaveUp b) && (hubOf a == hubOf b || s.seamTrained))

/-- Can a die reach the dies of some addresses? -/
def State.linkedTo (s : State) (die : Nat) (l : List Nat) : Bool := l.all (fun a => s.linked die (addrDie a))

/-! ### Dies and units in reset (R30, R426) -/

/-- Is a die in reset, or not released? -/
def State.isHeld (s : State) (die : Nat) : Bool := s.held.contains die

/-- R30, R426: is the die in reset, in dusk, or not released? -/
def State.inReset (s : State) (die : Nat) : Bool :=
  s.isHeld die ||
  s.resets.any (fun r => decide (2 ≤ r.stage) && decide (r.stage ≤ 4) &&
    ((r.domain == 2 && r.die == die) || (r.domain == 3 && hubOf die == r.die && (isComp die || r.die == die)) || r.domain == 4))

/-- The status ABORTED of descriptors, moves, set descriptors and reductions. -/
def stAborted : Nat := 0xA

/-- R426: does the range touch a scratchpad of a unit in an engine's dusk or reset? -/
def State.spadReset (s : State) (a n : Nat) : Bool :=
  s.resets.any fun r => r.domain == 1 && decide (2 ≤ r.stage) && r.units.any fun u =>
    u.1 == 0x10 && overlap (spadBase r.die u.2) 0x400000 a n

/-- R426: does a request for a range, made from a die, meet a die or a unit in dusk or in reset? A unit is its own die's business:
`own` is the core that makes the request, if one does. -/
def State.cutAt (s : State) (die : Nat) (own : Option Nat) (a n : Nat) : Bool :=
  (isDie (addrDie a) && addrDie a != die && s.inReset (addrDie a)) ||
  (s.spadReset a n && !(own.any fun m => s.resets.any fun r => r.domain == 1 && r.die == die && r.units.contains (0x10, m)))

/-! ### Notices (R349, R381, R444) -/

/-- The stamp of a hub: the MGMT counter on hub AM, the SVC counter on hub PM (R345). -/
def State.stamp (s : State) (hub : Nat) : Nat :=
  if hub = 0 then s.get R.CLK_COUNT_COUNT 0 0 5 else s.get R.CLK_COUNT_COUNT 1 0 4

/-- R381: send a notice to every slot subscribed to its class. -/
def State.notify (s : State) (cls kind die part : Nat) (body : List Byte) : State :=
  (List.range 8).foldl (fun s i =>
    if bit (s.get R.OCT_SUB_CFG_CLASSES 0 0 i) (cls - 1) then
      let s := (s.count R.OCT_SUB_CFG_SENT 1 0 0 i).count R.OCT_NOTICES_COUNT 1 0
      s.send (.notice (s.get R.OCT_SUB_ADDR_HI_ADDR 0 0 i * 2 ^ 64 + s.get R.OCT_SUB_ADDR_LO_ADDR 0 0 i)
        (s.get R.OCT_SUB_CFG_PORT 0 0 i) (s.get R.OCT_SUB_CFG_SENT 0 0 i) cls kind die part
        (leBytes 1 cls ++ leBytes 1 kind ++ leBytes 1 die ++ leBytes 1 part ++ leBytes 4 0 ++ body))
    else s) s

/-- R444, R450: a fault notice, recorded at the hub of the die. -/
def State.faultNotice (s : State) (kind die part block domain inst ctx status arg0 arg1 : Nat) : State :=
  let h := hubOf die
  let s := (((s.put R.MGT_LAST_NOTICE_KIND kind h).put R.MGT_LAST_NOTICE_DIE die h).put
    R.MGT_LAST_NOTICE_BLOCK block h).put R.MGT_LAST_NOTICE_INSTANCE inst h
  let s := s.count R.MGT_NOTICES_COUNT 1 h
  s.notify 2 kind die part
    (leBytes 1 block ++ leBytes 1 domain ++ leBytes 2 inst ++ leBytes 1 ctx ++ leBytes 1 status ++ leBytes 2 0 ++
     leBytes 8 arg0 ++ leBytes 8 arg1 ++ leBytes 8 (s.stamp h) ++ leBytes 1 h ++ leBytes 7 0)

/-- R381: an event notice with three arguments. -/
def State.eventNotice (s : State) (kind die part a0 a1 a2 : Nat) : State :=
  s.notify 1 kind die part (leBytes 8 a0 ++ leBytes 8 a1 ++ leBytes 8 a2)

/-! ### Regions and contexts -/

/-- R73: the state of a region: 0 RUNNING, 1 STOPPING, 2 STOPPED, 3 LOADING, 4 STARTING, 5 FAILED. -/
def State.region (s : State) (c : Nat) : Nat := s.get R.STREAM_REGION_STATE 0 0 c

def State.running (s : State) (c : Nat) : Bool := s.region c == 0

/-- R384: is the context OPEN (1)? States: 0 CLOSED, 1 OPEN, 2 CLOSING, 3 DRAINING. -/
def State.ctxOpen (s : State) (c : Nat) : Bool := s.get R.OCT_CTX_STATE 0 0 c == 1

/-- R385: one more, or one fewer, item outstanding for a context. -/
def State.ctxHold (s : State) (c : Nat) : State := s.count R.OCT_CTX_OUTSTANDING 1 0 0 c
def State.ctxRelease (s : State) (c : Nat) : State :=
  s.put R.OCT_CTX_OUTSTANDING (s.get R.OCT_CTX_OUTSTANDING 0 0 c - 1) 0 0 c

/-- The generation of a context. -/
def State.ctxGen (s : State) (c : Nat) : Nat := s.get R.OCT_CTX_GEN 0 0 c

/-- R26: the partition of a context, if it is assigned to one. -/
def State.ctxPart (s : State) (c : Nat) : Option Nat :=
  if s.flag R.OCT_CTX_ASSIGNED 0 0 c then some (s.get R.OCT_CTX_PARTITION 0 0 c) else none

end Sys2Proof.Machine
end

