-- ==== Sys2Proof/Machine/Queue.lean ====
section
/-!
DEFINITION. Descriptor queues: the rings, doorbells and completion records that the matrix cores (R84, R104),
movers (R155, R174), set engine (R222) and reduction channels (R249) share.
-/

namespace Sys2Proof.Machine

/-- The registers of one kind of queue. -/
structure QRegs where
  block : Nat
  base : Fld
  cqbase : Fld
  enable : Fld
  size : Fld
  stopped : Fld
  tail : Fld
  head : Fld
  cqhead : Fld
  cqtail : Fld
  err : Fld
  deriving DecidableEq, Repr

def mxcQ : QRegs :=
  ⟨0x10, R.MXC_QBASE_BASE, R.MXC_CQBASE_BASE, R.MXC_QCFG_ENABLE, R.MXC_QCFG_SIZE_LOG2, R.MXC_QCFG_STOPPED,
   R.MXC_QTAIL_TAIL, R.MXC_QHEAD_HEAD, R.MXC_CQHEAD_HEAD, R.MXC_CQTAIL_TAIL, R.MXC_ERROR_QCFG⟩
def spadQ : QRegs :=
  ⟨0x12, R.SPAD_QBASE_BASE, R.SPAD_CQBASE_BASE, R.SPAD_QCFG_ENABLE, R.SPAD_QCFG_SIZE_LOG2, R.SPAD_QCFG_STOPPED,
   R.SPAD_QTAIL_TAIL, R.SPAD_QHEAD_HEAD, R.SPAD_CQHEAD_HEAD, R.SPAD_CQTAIL_TAIL, R.SPAD_ERROR_QCFG⟩
def seteQ : QRegs :=
  ⟨0x36, R.SETE_QBASE_BASE, R.SETE_CQBASE_BASE, R.SETE_QCFG_ENABLE, R.SETE_QCFG_SIZE_LOG2, R.SETE_QCFG_STOPPED,
   R.SETE_QTAIL_TAIL, R.SETE_QHEAD_HEAD, R.SETE_CQHEAD_HEAD, R.SETE_CQTAIL_TAIL, R.SETE_ERROR_QCFG⟩
def redQ : QRegs :=
  ⟨0x61, R.RED_QBASE_BASE, R.RED_CQBASE_BASE, R.RED_QCFG_ENABLE, R.RED_QCFG_SIZE_LOG2, R.RED_QCFG_STOPPED,
   R.RED_QTAIL_TAIL, R.RED_QHEAD_HEAD, R.RED_CQHEAD_HEAD, R.RED_CQTAIL_TAIL, R.RED_CH_ERROR_QCFG⟩

/-- The queue registers of a block code. -/
def qOf (block : Nat) : Option QRegs :=
  match block with
  | 0x10 => some mxcQ | 0x12 => some spadQ | 0x36 => some seteQ | 0x61 => some redQ | _ => none

/-- The key of a queue in the completed-items table. -/
def qKey (block die inst ctx : Nat) : Nat := ((block * 16 + die) * 64 + inst) * 64 + ctx

/-- Entries of a ring (R84). -/
def State.qSize (s : State) (q : QRegs) (die inst c : Nat) : Nat := 2 ^ s.get q.size die inst c

/-- Descriptors between HEAD and TAIL (R84). -/
def State.qLen (s : State) (q : QRegs) (die inst c : Nat) : Nat :=
  let n := s.qSize q die inst c
  (s.get q.tail die inst c + n - s.get q.head die inst c % n) % n

/-- Records between CQHEAD and CQTAIL not yet consumed (R84). -/
def State.cqLen (s : State) (q : QRegs) (die inst c : Nat) : Nat :=
  let n := s.qSize q die inst c
  (s.get q.cqtail die inst c + n - s.get q.cqhead die inst c % n) % n

/-- R84: may a descriptor be taken, with `taken` of the queue taken and not yet completed? Enabled, not
STOPPED, not empty, and a free completion entry for it and for each of those. -/
def State.qReady (s : State) (q : QRegs) (die inst c taken : Nat) : Bool :=
  s.flag q.enable die inst c && !s.flag q.stopped die inst c && s.qLen q die inst c != 0 &&
  decide (s.cqLen q die inst c + taken + 1 ≤ s.qSize q die inst c - 1)

/-- R104, R174: does a ring of a compute die's queue lie wholly within the die's mapped home DRAM, or within the
scratchpads of in-service cores of the die? -/
def State.dieRingOk (s : State) (die a len : Nat) : Bool :=
  let o := addrOff a
  addrDie a == die &&
  (decide (o + len ≤ s.homeSize die) ||
   (decide (0x0F0000000000 ≤ o) && decide (o + len ≤ 0x0F0008000000) &&
    (List.range 32).all fun m =>
      !overlap (spadBase die m) 0x400000 a len || bit (s.get R.ID_UNITS_MC_PRESENT die) m))

/-- R222, R249: does a ring of a hub's queue lie in home DRAM of a compute die of the partition, or in this
hub's commons SRAM? -/
def State.hubRingOk (s : State) (hub part a len : Nat) : Bool :=
  let d := addrDie a
  let o := addrOff a
  (d == hub && decide (o + len ≤ 0x18000000)) ||
  (s.partOfDie d == some part && decide (o + len ≤ s.homeSize d))

/-- May this queue be enabled for this context or channel (R26, R104, R222, R249, R383)? -/
def State.qOwnerOk (s : State) (q : QRegs) (die c : Nat) : Bool :=
  if q.block = 0x61 then true
  else
    s.ctxOpen c &&
    (match s.ctxPart c with
     | none => false
     | some p => if q.block = 0x36 then p == s.partOfEngine die 0x36 3 else true)

/-- Is a ring placed where the block's rule allows? -/
def State.ringPlaced (s : State) (q : QRegs) (die inst c a len : Nat) : Bool :=
  if q.block = 0x10 ∨ q.block = 0x12 then s.dieRingOk die a len
  else if q.block = 0x36 then s.hubRingOk die ((s.ctxPart c).getD 0) a len
  else s.hubRingOk die (s.partOfChan inst) a len

/-- R104: does setting ENABLE with this SIZE_LOG2 succeed? -/
def State.qEnableOk (s : State) (q : QRegs) (die inst c size : Nat) : Bool :=
  let b := s.get q.base die inst c
  let cb := s.get q.cqbase die inst c
  decide (4 ≤ size) && decide (size ≤ 16) && b % 64 == 0 && cb % 16 == 0 &&
  s.ringPlaced q die inst c b (64 * 2 ^ size) && s.ringPlaced q die inst c cb (16 * 2 ^ size) &&
  s.qOwnerOk q die c

/-- R104: setting ENABLE sets all four pointers to 0, clears STOPPED, and starts the queue's counts anew. -/
def State.qEnable (s : State) (q : QRegs) (die inst c size : Nat) : State :=
  if s.qEnableOk q die inst c size then
    let s := ((s.put q.size size die inst c).put q.enable 1 die inst c).put q.stopped 0 die inst c
    let s := (((s.put q.tail 0 die inst c).put q.head 0 die inst c).put q.cqhead 0 die inst c).put q.cqtail 0 die inst c
    let k := qKey q.block die inst c
    -- a channel's count runs from REGION_START of its group, not from enabling (R351)
    { s with qcnt := nset k { done := if q.block = 0x61 then (ngetD s.qcnt k {}).done else 0 } s.qcnt }
  else (((s.put q.size size die inst c).put q.enable 0 die inst c)).set1 q.err die inst

/-- R84: RESUME clears STOPPED. -/
def State.qResume (s : State) (q : QRegs) (die inst c : Nat) : State := s.put q.stopped 0 die inst c

/-- R104: a write of QCFG: ENABLE [0], SIZE_LOG2 [5:1], RESUME [7]. -/
def State.qWriteCfg (s : State) (q : QRegs) (die inst c v : Nat) : State :=
  let en := bit v 0
  let size := bits v 1 5
  let was := s.flag q.enable die inst c
  if was && size != s.get q.size die inst c then s.set1 q.err die inst
  else
    let s := if bit v 7 then s.qResume q die inst c else s
    if en && !was then s.qEnable q die inst c size
    else if !en then (s.put q.size size die inst c).put q.enable 0 die inst c
    else s

/-- R104: a write of a ring base is ignored while ENABLE is 1 unless it carries the current value. -/
def State.qWriteBase (s : State) (q : QRegs) (f : Fld) (die inst c v : Nat) : State :=
  if s.flag q.enable die inst c then
    (if v % 2 ^ f.width = s.get f die inst c then s else s.set1 q.err die inst)
  else s.put f v die inst c

/-- R84, R104: a write of QTAIL in a running region: taken modulo the ring size, and ignored, with QCFG set,
where it would leave fewer descriptors than before. -/
def State.qWriteTail (s : State) (q : QRegs) (die inst c v : Nat) : State :=
  if !s.flag q.enable die inst c then s.put q.tail v die inst c
  else
  let n := s.qSize q die inst c
  let t := v % n
  let before := s.qLen q die inst c
  let after := (t + n - s.get q.head die inst c % n) % n
  if after < before then s.set1 q.err die inst
  else s.put q.tail t die inst c

/-- Address of the descriptor at HEAD. -/
def State.qSlot (s : State) (q : QRegs) (die inst c : Nat) : Nat :=
  s.get q.base die inst c + 64 * (s.get q.head die inst c % s.qSize q die inst c)

/-- Move HEAD past the descriptor taken. -/
def State.qAdvance (s : State) (q : QRegs) (die inst c : Nat) : State :=
  s.put q.head ((s.get q.head die inst c + 1) % s.qSize q die inst c) die inst c

/-- Set HEAD back over descriptors taken and given back. -/
def State.qRewind (s : State) (q : QRegs) (die inst c k : Nat) : State :=
  let n := s.qSize q die inst c
  s.put q.head ((s.get q.head die inst c + n - k % n) % n) die inst c

/-- R96: PHASE is 1 on the first pass through the completion ring after enabling, and inverts on each
later pass. -/
def State.qPhase (s : State) (q : QRegs) (die inst c : Nat) : Nat :=
  1 - ((ngetD s.qcnt (qKey q.block die inst c) {}).recs / s.qSize q die inst c) % 2

/-- One item of the queue has completed (R351). -/
def State.qDone (s : State) (q : QRegs) (die inst c : Nat) : State :=
  let k := qKey q.block die inst c
  let n := ngetD s.qcnt k {}
  { s with qcnt := nset k { n with done := n.done + 1 } s.qcnt }

/-- R84, R96: write a 16-byte completion record (FLAGS [0] is set to PHASE here) at CQTAIL. A record that
cannot be written is lost; the pointer moves all the same. -/
def State.qRecord (s : State) (q : QRegs) (w : Who) (die inst c tag status flags beats elapsed core gen : Nat) : State :=
  let n := s.qSize q die inst c
  let t := s.get q.cqtail die inst c
  let rec16 := leBytes 2 tag ++ leBytes 1 status ++ leBytes 1 (flags / 2 * 2 + s.qPhase q die inst c) ++
    leBytes 4 beats ++ leBytes 4 (min elapsed 0xFFFFFFFF) ++ leBytes 1 core ++ leBytes 1 gen ++ leBytes 2 0
  let s := (s.store w (s.get q.cqbase die inst c + 16 * (t % n)) rec16).1
  let k := qKey q.block die inst c
  let cnt := ngetD s.qcnt k {}
  let s := { s with qcnt := nset k { cnt with recs := cnt.recs + 1 } s.qcnt }
  s.put q.cqtail ((t + 1) % n) die inst c

/-- The next context in round robin after `rr`, among those that satisfy a test. -/
def roundRobin (n rr : Nat) (ok : Nat → Bool) : Option Nat :=
  ((List.range n).map (fun i => (rr + 1 + i) % n)).find? ok

end Sys2Proof.Machine
end

