-- ==== Sys2Proof/Machine/Operands.lean ====
section
/-!
DEFINITION. Operand forms: units of matrix cores and their scratchpad windows (R80, R81), operand rows
(R79, R108), format-table entries (R90, R121, R124), tokens (R91, R92), tiles and tile buffers (R75, R127).
-/

namespace Sys2Proof.Machine

/-! ### Units (R80, R81) -/

/-- FUSION.MODE of a quad: 0 single, 1 pairs, 2 quad (R48). -/
def State.fusion (s : State) (die q : Nat) : Nat :=
  match s.recOf die 0x201 with
  | some p => bits (fieldAt p 0 4) (2 * q) 2
  | none => 0

/-- R80: 0 single, 1 pair, 2 quad. -/
def State.unitMode (s : State) (die m : Nat) : Nat := s.fusion die (m / 4)

/-- R81: the lead of a core's unit. -/
def State.lead (s : State) (die m : Nat) : Nat :=
  match s.unitMode die m with
  | 1 => m / 2 * 2
  | 2 => m / 4 * 4
  | _ => m

/-- R80: the members of a unit, each with the row and column block it holds. -/
def State.members (s : State) (die lead : Nat) : List (Nat × Nat × Nat) :=
  match s.unitMode die lead with
  | 1 => [(lead, 0, 0), (lead + 1, 0, 1)]
  | 2 => [(lead, 0, 0), (lead + 1, 0, 1), (lead + 2, 1, 0), (lead + 3, 1, 1)]
  | _ => [(lead, 0, 0)]

/-- R80: unit shape (rows, columns). -/
def unitShape (mode : Nat) : Nat × Nat :=
  match mode with
  | 1 => (128, 256)
  | 2 => (256, 256)
  | _ => (128, 128)

/-- R81: bytes of a unit's scratchpad window. -/
def windowSize (mode : Nat) : Nat :=
  match mode with
  | 1 => 0x800000
  | 2 => 0x1000000
  | _ => 0x400000

/-- Is the core in service (R34)? -/
def State.coreOk (s : State) (die m : Nat) : Bool :=
  isComp die && decide (m < 32) && !s.excluded die && bit (s.get R.ID_UNITS_MC_PRESENT die) m

/-- Bytes of a unit's window. -/
def State.win (s : State) (die lead off n : Nat) : List Byte := s.mem.read (spadBase die lead + off) n

/-- R154: the window offset of the first word in error that a range of the window touches. -/
def State.winBad (s : State) (die lead off n : Nat) : Option Nat :=
  if n = 0 then none else (s.mem.badIn (spadBase die lead + off) n).map (· - spadBase die lead)

/-- Write bytes of a unit's window (a feeder's or engine's own write: no access fault). -/
def State.winWrite (s : State) (die lead off : Nat) (l : List Byte) : State :=
  let a := spadBase die lead + off
  { s with mem := (s.mem.write a l).heal a l.length }

/-- R93: does an operand reach beyond the window, or break the stride rule? -/
def beyond (win off rows stride len : Nat) : Bool :=
  decide (win + stride * 64 < off * 64 + rows * stride * 64 + len) ||
  (stride != 0 && decide (stride < ceilDiv len 64))

/-! ### Formats of descriptors (R77, R90, R121, R124) -/

/-- R124: is the partition under COMPAT16? -/
def State.compat16 (s : State) (p : Nat) : Bool := s.flag R.STEP_CFG_POLICY 0 0 p

/-- R121: the format code and scaling mode of a format-table entry on a die's copy; none where the entry
carries a reserved code, mode or field. Under COMPAT16 every read yields FP16 with mode 0 (R124). -/
def State.fmtEntry (s : State) (die p layer : Nat) : Option (Nat × Nat) :=
  if s.compat16 p then some (2, 0)
  else
    let e := ngetD s.fmtCopy (die * 4096 + layer) 0
    let f := bits e 0 4
    let m := bits e 4 2
    if f > 0xA ∨ m = 3 ∨ bit e 7 ∨ e >>> 22 ≠ 0 ∨ bits e 16 4 > 0xA ∨ bits e 20 2 = 3 then none else some (f, m)

/-- R77: a format and scaling mode that an operand may have. -/
def operandOk (f m : Nat) : Bool :=
  decide (f ≤ 9) && decide (m ≤ 2) && (m == 0 || decide (3 ≤ f))

/-- R77: may the two formats be paired? -/
def pairOk (fa fb : Nat) : Bool :=
  (decide (1 ≤ fa) && decide (fa ≤ 7) && decide (1 ≤ fb) && decide (fb ≤ 7)) ||
  ((fa == 8 || fa == 9) && (fb == 8 || fb == 9)) || (fa == 0 && fb == 0)

/-- R76: K elements per beat and MX cycles per beat, by the wider format. -/
def beatShape (fa fb : Nat) : Nat × Nat :=
  let w := max (fmtWidth fa) (fmtWidth fb)
  if w = 32 then (1, 6) else if w = 16 then (1, 1) else if w = 8 then (2, 1) else (4, 1)

/-- R82: F, the MX cycles that a product takes after its last beat. -/
def fillTime (mode fa fb : Nat) (gather : Bool) : Nat :=
  (if max (fmtWidth fa) (fmtWidth fb) ≥ 16 then 144 else 152) + 128 * mode + (if gather then 16 else 0)

/-- R82, R98: MX cycles of a product from its first beat to its last landing. -/
def productTime (mode fa fb m n k : Nat) (gather : Bool) : Nat :=
  if m = 0 ∨ n = 0 then 8
  else if k = 0 then 40
  else
    let (e, b) := beatShape fa fb
    ceilDiv k e * b + fillTime mode fa fb gather

/-! ### Rows of operands (R79, R108) -/

/-- The rows of an operand as numbers: row r at off * 64 + r * stride * 64, len bytes each. -/
def State.rowsAt (s : State) (die lead off stride rows len : Nat) : List Nat :=
  (List.range rows).map (fun r => leVal (s.win die lead (off * 64 + r * stride * 64) len))

/-- Element (i, k) of an operand whose rows are i (transpose clear) or k (transpose set). -/
def operandElem (rows : List Nat) (w : Nat) (trans : Bool) (i k : Nat) : Nat :=
  if trans then elemAt w i (rows.getD k 0) else elemAt w k (rows.getD i 0)

/-! ### Tiles and tile buffers (R75, R127) -/

/-- A word of a store: listed, undefined, or +0. -/
def WStore.at (st : WStore) (i : Nat) : W32 :=
  match nfind i st.cells with
  | some v => v
  | none => match st.undef with
    | some k => BitVec.ofNat 32 (Config.free k i)
    | none => 0

def WStore.put (st : WStore) (i : Nat) (v : W32) : WStore := { st with cells := nset i v st.cells }

def tileKey (die core t : Nat) : Nat := (die * 32 + core) * 2 + t
def tbKey (die core k : Nat) : Nat := (die * 32 + core) * 8 + k

def State.tile (s : State) (die core t : Nat) : WStore := ngetD s.tiles (tileKey die core t) {}
def State.tb (s : State) (die core k : Nat) : WStore := ngetD s.tbs (tbKey die core k) {}
def State.putTile (s : State) (die core t : Nat) (st : WStore) : State :=
  { s with tiles := nset (tileKey die core t) st s.tiles }
def State.putTb (s : State) (die core k : Nat) (st : WStore) : State :=
  { s with tbs := nset (tbKey die core k) st s.tbs }

/-- Leave a tile's contents undefined (R103). -/
def State.forgetTile (s : State) (die core t : Nat) : State :=
  let (k, s) := s.tick
  s.putTile die core t { cells := [], undef := some k }

/-- Leave a tile buffer's contents undefined (R150). -/
def State.forgetTb (s : State) (die core k : Nat) : State :=
  let (n, s) := s.tick
  s.putTb die core k { cells := [], undef := some n }

/-- R80: element (i, j) of a unit's tile: the member's core and the word of its tile. -/
def unitPlace (members : List (Nat × Nat × Nat)) (i j : Nat) : Nat × Nat :=
  let core := match members.find? (fun x => x.2.1 == i / 128 && x.2.2 == j / 128) with
    | some x => x.1
    | none => 0
  (core, (i % 128) * 128 + j % 128)

/-- Element (i, j) of a unit's tile t. -/
def State.unitElem (s : State) (die lead t i j : Nat) : W32 :=
  let (c, w) := unitPlace (s.members die lead) i j
  (s.tile die c t).at w

/-- Write elements ((i, j), value) of a unit's tile t. -/
def State.putUnit (s : State) (die lead t : Nat) (l : List ((Nat × Nat) × W32)) : State :=
  let mem := s.members die lead
  mem.foldl (fun s m =>
    let mine := l.filter (fun e => e.1.1 / 128 == m.2.1 && e.1.2 / 128 == m.2.2)
    if mine.isEmpty then s else
    s.putTile die m.1 t (mine.foldl (fun st e => st.put ((e.1.1 % 128) * 128 + e.1.2 % 128) e.2) (s.tile die m.1 t))) s

/-! ### Tokens (R91, R92) -/

/-- R92: does the token lie on a compute die in service of the partition, on a core in service? -/
def State.tokenOk (s : State) (die core : Nat) (part : Option Nat) : Bool :=
  s.coreOk die core && (part.isNone || s.partOfDie die == part)

/-- R81, R91: signal a token: the lead's count goes up by one, holding at 0xFFFF. -/
def State.signal (s : State) (die core t : Nat) : State :=
  s.countSat R.MXC_TOKEN_COUNT 1 die (s.lead die core) t

/-- R91: the count of a token. -/
def State.token (s : State) (die core t : Nat) : Nat := s.get R.MXC_TOKEN_COUNT die (s.lead die core) t

/-- R91: take one from a token. -/
def State.takeToken (s : State) (die core t : Nat) : State :=
  s.put R.MXC_TOKEN_COUNT (s.token die core t - 1) die (s.lead die core) t

/-! ### Units in hand -/

def mxKey (die lead : Nat) : Nat := die * 32 + lead
def State.unit (s : State) (die lead : Nat) : MxUnit := ngetD s.mx (mxKey die lead) {}
def State.putMx (s : State) (die lead : Nat) (u : MxUnit) : State := { s with mx := nset (mxKey die lead) u s.mx }

/-- A bit field of a 64-byte descriptor: byte offset of the word, lowest bit, width. -/
def df (raw off lo w : Nat) : Nat := bits raw (8 * off + lo) w

end Sys2Proof.Machine
end

