-- ==== Sys2Proof/Machine/Flags.lean ====
section
/-!
DEFINITION. The flags the engines raise: the vector engine's sticky flags (R143), the error registers of
failed descriptors and moves (R95, R158), and a unit's FAULTED (R103).
-/

namespace Sys2Proof.Machine

/-- R95: record a failed tile descriptor. -/
def State.mxcFail (s : State) (die lead status ctx tag : Nat) : State :=
  (((s.put R.MXC_ERROR_STATUS status die lead).put R.MXC_ERROR_CONTEXT ctx die lead).put
    R.MXC_ERROR_TAG tag die lead).set1 R.MXC_ERROR_DESC_FAIL die lead

/-- R158: record a failed move. -/
def State.spadFail (s : State) (die core status ctx tag : Nat) : State :=
  (((s.put R.SPAD_ERROR_STATUS status die core).put R.SPAD_ERROR_CONTEXT ctx die core).put
    R.SPAD_ERROR_TAG tag die core).set1 R.SPAD_ERROR_MOVE_FAIL die core

/-- R143: set bits of VEC_FLAGS. -/
def State.vecFlag (s : State) (die core i : Nat) : State :=
  let v := s.rd R.VEC_FLAGS die core 0
  s.wr R.VEC_FLAGS die core 0 (setBits v i 1 1)

/-- R143: NF_ACC0 or NF_ACC1, by tile. -/
def nfAcc (t : Nat) : Nat := t
/-- R143: NF_TBk. -/
def nfTb (k : Nat) : Nat := k + 2
def nfOut : Nat := 8
def nfRouted : Nat := 9
def vecSat : Nat := 10

/-- R103, R150: FAULTED in MXC_STATUS of the unit's lead, and the UNIT_FAULTED notice (R445). In a fused unit the lead's
register stands for the unit (DESIGN CHOICE). -/
def State.faultUnit (s : State) (die lead ctx : Nat) : State :=
  (s.set1 R.MXC_STATUS_FAULTED die lead).faultNotice 6 die ((s.partOfDie die).getD 0) 0x10 0 lead ctx 0 0 0

/-- R103, R150, R154, R162, R164: the errors that an operation met and mended, as (kind, place): a corrected error in 0 a tile
of a core, 1 a tile buffer of a core, 2 the scratchpad word or DRAM burst at a data address, each counted; 3 an uncorrectable
one in the die's cached copy of a line, which is dropped, so that the read fetches it again. -/
def State.corrected (s : State) (die : Nat) (l : List (Nat × Nat)) : State :=
  l.foldl (fun (s : State) e =>
    let d := addrDie e.2
    if e.1 = 3 then State.refreshDir { s with rlc := nset die ((ngetD s.rlc die []).filter (· != lineOf e.2)) s.rlc }
    else if e.1 = 0 then s.count R.MXC_ECC_CORR_COUNT 1 die (e.2 % 32)
    else if e.1 = 1 then s.count R.VEC_ECC_CORR_COUNT 1 die (e.2 % 32)
    else if isHomeDram e.2 then s.count R.HBMC_ECC_CORR_COUNT 1 d (s.dramPlace e.2).1
    else if isComp d ∧ addrOff e.2 < 0x0F0008000000 then
      s.count R.SPAD_ECC_CORR_COUNT 1 d ((addrOff e.2 - 0x0F0000000000) / 0x400000)
    else s) s

/-- R154: SPAD_ERROR.ECC_UNCORR of the core that holds a window address. -/
def State.spadEcc (s : State) (die lead off : Nat) : State :=
  s.set1 R.SPAD_ERROR_ECC_UNCORR die (lead + off / 0x400000)

end Sys2Proof.Machine
end

