-- ==== Sys2Proof/Machine/Chain.lean ====
section
/-!
DEFINITION. The vector engine: chain descriptors and operation-table entries (R130 to R133), the checks
of a chain (R141), the arithmetic of its stages (R134 to R138), masks (R139, R140), the generator (R145,
R146), the online softmax (R147) and the range monitors (R119, R144).
-/

namespace Sys2Proof.Machine

/-- An operation-table entry: its two words (R132). -/
structure OpEntry where
  lo : Nat
  hi : Nat
  deriving DecidableEq, Repr

def OpEntry.op (e : OpEntry) : Nat := bits e.lo 0 6
def OpEntry.fmtTable (e : OpEntry) : Bool := bit e.lo 6
def OpEntry.fmtDefault (e : OpEntry) : Bool := bit e.lo 7
def OpEntry.srcA (e : OpEntry) : Nat := bits e.lo 8 4
def OpEntry.srcB (e : OpEntry) : Nat := bits e.lo 12 4
def OpEntry.srcC (e : OpEntry) : Nat := bits e.lo 16 4
def OpEntry.wrSel (e : OpEntry) : Nat := bits e.lo 20 3
def OpEntry.masked (e : OpEntry) : Bool := bit e.lo 23
def OpEntry.fmt (e : OpEntry) : Nat := bits e.lo 24 4
def OpEntry.scale (e : OpEntry) : Nat := bits e.lo 28 2
def OpEntry.rnd (e : OpEntry) : Bool := bit e.lo 30
def OpEntry.mon (e : OpEntry) : Bool := bit e.lo 31
def OpEntry.imm (e : OpEntry) : W32 := BitVec.ofNat 32 (bits e.lo 32 32)
def OpEntry.aux (e : OpEntry) : Nat := bits e.hi 0 8
def OpEntry.arg16 (e : OpEntry) : Nat := bits e.hi 16 16

/-- Sources an operation reads: A, B, C (R133). -/
def opReads (op : Nat) : Bool × Bool × Bool :=
  match op with
  | 0x01 | 0x02 | 0x03 | 0x05 | 0x06 | 0x0E | 0x1A => (true, true, false)
  | 0x04 | 0x0F => (true, true, true)
  | 0x17 => (false, false, false)
  | _ => (true, false, false)

/-- R131: does a stage read a source code? -/
def OpEntry.reads (e : OpEntry) (src : Nat) : Bool :=
  let (a, b, c) := opReads e.op
  (a && e.srcA == src) || (b && e.srcB == src) || (c && e.srcC == src)

/-- R134: is the AUX value one the operation lists? -/
def auxOk (op aux : Nat) : Bool :=
  if op = 0x0D ∨ op = 0x0E then decide (aux ≤ 5)
  else if op = 0x0F then decide (aux ≤ 7)
  else aux == 0

/-- R132, R133, R141: reserved codes of an entry: OP, sources, AUX, and reserved bits. -/
def OpEntry.reservedCode (e : OpEntry) : Bool :=
  decide (e.op > 0x1B) || decide (e.srcA > 0xD) || decide (e.srcB > 0xD) || decide (e.srcC > 0xD) || !auxOk e.op e.aux

def OpEntry.reservedBits (e : OpEntry) : Bool := bits e.hi 8 8 != 0 || bits e.hi 32 32 != 0

/-- Entry i of a core's operation table. -/
def State.opEntry (s : State) (die core i : Nat) : OpEntry :=
  ⟨s.get R.VEC_OP_LO_ENTRY die core i, s.get R.VEC_OP_HI_ENTRY die core i⟩

/-- A chain: its 512 bits and the entries its OPS name, by stage (R130). -/
structure Chain where
  raw : Nat
  ops : List OpEntry
  deriving DecidableEq, Repr

def Chain.stages (c : Chain) : Nat := df c.raw 0 48 4
def Chain.zeroMode (c : Chain) : Bool := df c.raw 0 52 1 == 1
def Chain.maskSrc (c : Chain) : Nat := df c.raw 0 53 3
def Chain.rngAuto (c : Chain) : Bool := df c.raw 0 56 1 == 1
def Chain.monKind (c : Chain) : Nat := df c.raw 0 57 1
def Chain.smSet (c : Chain) : Nat := df c.raw 0 58 5
def Chain.rowPos (c : Chain) : Nat := df c.raw 8 0 24
def Chain.colPos (c : Chain) : Nat := df c.raw 8 24 24
def Chain.monLayer (c : Chain) : Nat := df c.raw 8 48 12
def Chain.inOff (c : Chain) (i : Nat) : Nat := df c.raw (0x10 + 8 * i) 0 18
def Chain.inFmt (c : Chain) (i : Nat) : Nat := df c.raw (0x10 + 8 * i) 18 4
def Chain.inLd (c : Chain) (i : Nat) : Nat := df c.raw (0x10 + 8 * i) 32 16
def Chain.outOff (c : Chain) : Nat := df c.raw 0x20 0 18
def Chain.outLd (c : Chain) : Nat := df c.raw 0x20 32 16
def Chain.sclOff (c : Chain) : Nat := df c.raw 0x28 0 18
def Chain.sclByte (c : Chain) : Nat := df c.raw 0x28 18 6
def Chain.sclLd (c : Chain) : Nat := df c.raw 0x28 32 16
def Chain.rngBase (c : Chain) : Nat := df c.raw 0x30 0 40
def Chain.vecTb (c : Chain) : Nat := df c.raw 0x30 40 3
def Chain.rsTb (c : Chain) : Nat := df c.raw 0x30 43 3
def Chain.rsLane (c : Chain) : Nat := df c.raw 0x30 46 7
def Chain.maskTb (c : Chain) : Nat := df c.raw 0x30 53 3
def Chain.window (c : Chain) : Nat := df c.raw 0x38 0 24
def Chain.fmtLayer (c : Chain) : Nat := df c.raw 0x38 24 12
def Chain.tb5Base (c : Chain) : Nat := df c.raw 0x38 36 10

/-- Reserved bits of a chain descriptor (R130, R141): those of a stream's word too, whether or not a stage uses the
stream, since only a stream's fields are not checked then (DEDUCED). -/
def Chain.reserved (c : Chain) : Bool :=
  df c.raw 0 63 1 != 0 || df c.raw 8 60 4 != 0 ||
  ([0, 1].any fun i => df c.raw (0x10 + 8 * i) 22 10 != 0 || df c.raw (0x10 + 8 * i) 48 16 != 0) ||
  df c.raw 0x20 18 14 != 0 || df c.raw 0x20 48 16 != 0 || df c.raw 0x28 24 8 != 0 || df c.raw 0x28 48 16 != 0 ||
  df c.raw 0x30 56 8 != 0 || df c.raw 0x38 46 18 != 0

/-- The chain at a window offset, with the entries of the lead's table. -/
def State.chainAt (s : State) (die lead off : Nat) : Chain :=
  let raw := leVal (s.win die lead (off * 64) 64)
  let n := bits raw 48 4
  ⟨raw, (List.range (min n 8)).map (fun i => s.opEntry die lead (bits raw (6 * i) 6))⟩

/-- R137: the format, scaling mode and rounding of a CVT or STORE stage; none where it resolves to nothing valid. -/
def State.stageFmt (s : State) (die p : Nat) (c : Chain) (e : OpEntry) : Option (Nat × Nat × Bool) :=
  if e.fmtTable then
    match s.fmtEntry die p c.fmtLayer with
    | some (f, m) => some (f, m, e.rnd)
    | none => none
  else if e.fmtDefault then
    match s.recOf die 0x203 with
    | some r => let v := fieldAt r 0 8; some (bits v 8 4, bits v 4 2, bit v 12)
    | none => some (0, 0, false)
  else some (e.fmt, e.scale, e.rnd)

def isCvt (e : OpEntry) : Bool := e.op == 0x14 || e.op == 0x15
def usesMode2 (s : State) (die p : Nat) (c : Chain) (op : Nat) : Bool :=
  c.ops.any fun e => e.op == op && (match s.stageFmt die p c e with | some (_, m, _) => m == 2 | none => false)

/-- R141, step 2: BAD_FLAGS of the chain's own fields. -/
def State.chainFlags (s : State) (die p : Nat) (c : Chain) : Bool :=
  let usesScl := usesMode2 s die p c 0x15
  c.stages == 0 || decide (c.stages > 8) || c.reserved ||
  (c.ops.any fun e => e.reservedCode || e.reservedBits) || decide (c.maskSrc > 4) ||
  decide (c.vecTb > 5) || decide (c.rsTb > 5) || decide (c.maskTb > 5) ||
  decide ((c.ops.filter (fun e => e.op == 0x15)).length > 1) ||
  decide ((c.ops.filter (fun e => e.mon)).length > 1) ||
  (c.rngAuto && c.rngBase != 0) ||
  (c.ops.any fun e => isCvt e && ((e.fmtTable && e.fmtDefault) ||
    ((e.fmtTable || e.fmtDefault) && (e.fmt != 0 || e.scale != 0)))) ||
  (usesScl && c.sclByte % 4 != 0)

/-- R141, step 3: 0x07 BAD_LAYER, 0x02 BAD_FORMAT, or 0. -/
def State.chainFormats (s : State) (die p : Nat) (c : Chain) : Nat :=
  if (c.ops.any fun e => isCvt e && e.fmtTable && decide (ngetD s.latLayers p 0 ≤ c.fmtLayer)) then 7
  else if (c.ops.any fun e => isCvt e && (match s.stageFmt die p c e with
      | some (f, m, _) => !operandOk f m
      | none => true)) then 2
  else if ([0, 1].any fun i => (c.ops.any fun e => e.reads (2 + i)) && decide (c.inFmt i > 9)) then 2
  else 0

/-- R141, step 5: is a stream row, a scale row or a TB5 index row out of bounds? -/
def State.chainPlaced (s : State) (die p m n win : Nat) (c : Chain) : Bool :=
  ([0, 1].any fun i => (c.ops.any fun e => e.reads (2 + i)) &&
    beyond win (c.inOff i) m (c.inLd i) (ceilDiv (n * fmtWidth (c.inFmt i)) 8)) ||
  (c.ops.any fun e => e.op == 0x15 && (match s.stageFmt die p c e with
    | some (f, sm, _) =>
      beyond win c.outOff m c.outLd (ceilDiv (n * fmtWidth f) 8) ||
      (sm == 2 && beyond win c.sclOff m c.sclLd (c.sclByte + 4 * ((n - 1) / 128) + (min n 128 + 31) / 32))
    | none => false)) ||
  ((c.ops.any fun e => e.wrSel == 6) && s.claim 3 die == 5 &&
    decide (c.tb5Base * 64 + 256 * (min m 128 - 1) + 2 * min n 128 > 0x10000))

/-- R141, step 6: tile buffer 5 read as FP32 values, named as VEC_TB, RS_TB or MASK_TB, or used by an SMAX operation,
while GATHER owns it. -/
def State.chainClaim (s : State) (die : Nat) (c : Chain) : Bool :=
  s.claim 3 die == 5 &&
  (c.vecTb == 5 || c.rsTb == 5 || c.maskTb == 5 || (c.ops.any fun e => e.reads 9 || decide (0x18 ≤ e.op)))

/-! ### The generator (R145, R146) -/

/-- One round of the generator: (a, b, k, h). -/
def rngRound (x : Nat × Nat × Nat × Nat) : Nat × Nat × Nat × Nat :=
  let (a, b, k, h) := x
  let p := a * 0xCD9E8D57
  let k' := (k + 0x9E3779B9) % 2 ^ 32
  ((p / 2 ^ 32) ^^^ b ^^^ k, p % 2 ^ 32, h, k')

def rngRounds : Nat → Nat × Nat × Nat × Nat → Nat × Nat × Nat × Nat
  | 0, x => x
  | n + 1, x => rngRounds n (rngRound x)

/-- R145: the value drawn for a key and a counter. -/
def rng32 (key ctr : Nat) : Nat :=
  (rngRounds 10 (ctr % 2 ^ 32, (ctr / 2 ^ 32) % 2 ^ 32, key % 2 ^ 32, (key / 2 ^ 32) % 2 ^ 32)).1

/-! ### Arithmetic (R133 to R136) -/

/-- R134: MIN and MAX; a NaN gives the canonical NaN, and -0 ranks below +0. -/
def f32Less (x y : W32) : Bool :=
  f32Lt x y || (f32IsZero x && f32IsZero y && x.getLsbD 31 && !y.getLsbD 31)
def f32Min (x y : W32) : W32 :=
  if f32IsNan x || f32IsNan y then f32Nan else if f32Less y x then y else x
def f32Max (x y : W32) : W32 :=
  if f32IsNan x || f32IsNan y then f32Nan else if f32Less x y then y else x

def f32Inf (neg : Bool) : W32 := toF32 (.inf neg)
def isPow2 (m : Nat) : Bool := m != 0 && 2 ^ Nat.log2 m == m
def pow2F (e : Int) : W32 := toF32 (.fin false 1 e)

/-- R134: 2^a: exact for an integer within range, elsewhere the fixed function within 2 ulp. -/
def f32Exp2 (a : W32) : W32 :=
  match ofF32 a with
  | .nan => f32Nan
  | .inf neg => if neg then 0 else f32Inf false
  | .fin neg m e =>
    if m = 0 then f32One
    else if e ≥ 0 ∨ m % 2 ^ (-e).toNat = 0 then
      let i := signedOf neg (if e ≥ 0 then m <<< (min e.toNat 200) else m >>> (-e).toNat)
      if -149 ≤ i ∧ i ≤ 127 then pow2F i else engineFn 0x09 0 a (exp2Value (ofF32 a)) (ulps 2 (exp2Value (ofF32 a)))
    else engineFn 0x09 0 a (exp2Value (ofF32 a)) (ulps 2 (exp2Value (ofF32 a)))

/-- R134: log₂ a. -/
def f32Log2 (a : W32) : W32 :=
  match ofF32 a with
  | .nan => f32Nan
  | .inf neg => if neg then f32Nan else f32Inf false
  | .fin neg m e =>
    if m = 0 then f32Inf true
    else if neg then f32Nan
    else if isPow2 m then toF32 (FV.ofInt ((Nat.log2 m : Int) + e))
    else engineFn 0x0A 0 a (log2Value m e) (ulps 2 (log2Value m e))

/-- R134: 1 ÷ a. -/
def f32Rcp (a : W32) : W32 :=
  match ofF32 a with
  | .nan => f32Nan
  | .inf neg => if neg then 0x80000000#32 else 0
  | .fin neg m e =>
    if m = 0 then f32Inf neg
    else if isPow2 m ∧ (Nat.log2 m : Int) + e ≥ -127 then toF32 (.fin neg 1 (-((Nat.log2 m : Int) + e)))
    else
      let v := (FV.fin false 1 0).div (ofF32 a)
      engineFn 0x0B 0 a v (ulps 1 v)

/-- R134: 1 ÷ √a. -/
def f32Rsqrt (a : W32) : W32 :=
  match ofF32 a with
  | .nan => f32Nan
  | .inf neg => if neg then f32Nan else 0
  | .fin neg m e =>
    let p := (Nat.log2 m : Int) + e
    if m = 0 then f32Inf false
    else if neg then f32Nan
    else if isPow2 m ∧ p % 2 = 0 then pow2F (-(p / 2))
    else
      let v := (FV.fin false 1 0).div (ofF32 a).sqrt
      engineFn 0x0C 0 a v (ulps 1 v)

/-- R107: a value as an operation takes it: any NaN is the canonical one. -/
def f32Canon (x : W32) : W32 := if f32IsNan x then f32Nan else x

def f32Half : W32 := 0x3F000000#32
def f32NegZero : W32 := 0x80000000#32

/-- R135: the activation functions; exact at NaN, the infinities and zero, and RELU everywhere. -/
def actF (aux : Nat) (x : W32) : W32 :=
  if f32IsNan x then f32Nan
  else if aux = 0 then f32Max x 0
  else
    match ofF32 x with
    | .inf neg =>
      match aux with
      | 1 | 2 => if neg then f32NegZero else f32Inf false
      | 3 => if neg then 0 else f32One
      | 4 => if neg then 0xBF800000#32 else f32One
      | _ => if neg then 0 else f32Inf false
    | .fin _ 0 _ =>
      match aux with
      | 3 => f32Half
      | 5 => engineFn 0x0D aux x (actValue aux (ofF32 x)) (actTol (actValue aux (ofF32 x)))
      | _ => x
    | _ => engineFn 0x0D aux x (actValue aux (ofF32 x)) (actTol (actValue aux (ofF32 x)))

/-- R135: the derivatives used by ACT_GRAD. -/
def actGrad (aux : Nat) (x : W32) : W32 :=
  if f32IsNan x then f32Nan
  else if aux = 0 then (if f32Lt 0 x then f32One else 0)
  else
    match ofF32 x with
    | .inf neg =>
      match aux with
      | 1 | 2 => if neg then f32NegZero else f32One
      | 5 => if neg then 0 else f32One
      | _ => 0
    | .fin _ 0 _ =>
      match aux with
      | 3 => 0x3E800000#32
      | 4 => f32One
      | _ => f32Half
    | _ => engineFn 0x0E aux x (gradValue aux (ofF32 x)) (actTol (gradValue aux (ofF32 x)))

/-- R134: the condition of CMPSEL. -/
def cmpHolds (aux : Nat) (a imm : W32) : Bool :=
  let nan := f32IsNan a || f32IsNan imm
  match aux with
  | 0 => !nan && f32Lt a imm
  | 1 => !nan && !f32Lt imm a
  | 2 => !nan && !f32Lt a imm && !f32Lt imm a
  | 3 => nan || f32Lt a imm || f32Lt imm a
  | 4 => !nan && !f32Lt a imm
  | 5 => !nan && f32Lt imm a
  | 6 => f32IsNan a
  | _ => f32NonFinite a && !f32IsNan a

/-- R136: one level of the reduction tree. -/
def pairUp (f : W32 → W32 → W32) : List W32 → List W32
  | a :: b :: t => f a b :: pairUp f t
  | l => l

/-- R136: the fixed tree over the lanes, level by level. -/
def treeFold (f : W32 → W32 → W32) : Nat → List W32 → W32
  | 0, l => l.headD 0
  | k + 1, l => treeFold f k (pairUp f l)

/-- R136: reduce 128 lanes, masked lanes entering as the neutral value. -/
def rowReduce (f : W32 → W32 → W32) (neutral : W32) (masked : List Bool) (x : List W32) : W32 :=
  treeFold f 7 ((x.zip masked).map (fun p => if p.2 then neutral else p.1))

/-! ### Masks (R139, R140) -/

/-- R139: is lane j of row r masked in a masked stage, for the member at (rb, cb)? -/
def maskLane (c : Chain) (tb : WStore) (rb cb r j : Nat) : Bool :=
  let row := c.rowPos + 128 * rb + r
  let col := c.colPos + 128 * cb + j
  match c.maskSrc with
  | 1 => decide (col > row)
  | 2 => decide (col > row) || decide (row - col ≥ c.window)
  | 3 => decide (col ≥ c.window)
  | 4 => f32IsZero (tb.at (r * 128 + j))
  | _ => false

/-! ### Range monitors (R119, R144) -/

/-- The key of word w of a monitor's histogram. -/
def monKey (die layer kind w : Nat) : Nat := ((die * 4096 + layer) * 2 + kind) * 36 + w

def monAdd (m : List (Nat × Nat)) (k n : Nat) : List (Nat × Nat) :=
  if n = 0 then m else nset k (min (ngetD m k 0 + n) 0xFFFFFFFF) m

/-- R119: observe one 32-lane block: (value, counts as non-finite) of its unmasked lanes. -/
def monBlock (m : List (Nat × Nat)) (key : Nat → Nat) (l : List (W32 × Bool)) : List (Nat × Nat) :=
  if l.isEmpty then m
  else
    let nf := l.filter (fun p => p.2 || f32NonFinite p.1)
    let fin := l.filter (fun p => !(p.2 || f32NonFinite p.1))
    let zs := fin.filter (fun p => f32IsZero p.1)
    let exps := (fin.filter (fun p => !f32IsZero p.1)).map (fun p => (ofF32 p.1).log2Floor)
    let m := monAdd (monAdd (monAdd m (key 34) nf.length) (key 33) zs.length) (key 35) 1
    match exps with
    | [] => m
    | e :: es =>
      let top := es.foldl max e
      exps.foldl (fun m x => monAdd m (key (min (top - x).toNat 32)) 1) m

/-! ### The pass over a tile -/

/-- What a chain needs while it runs on one member: the tile as it stood when the chain began (R97), where, the block,
sizes, the chain, sources of its values, and whether GATHER owns tile buffer 5. -/
structure ChainRun where
  acc : WStore
  die : Nat
  lead : Nat
  core : Nat
  rb : Nat
  cb : Nat
  tile : Nat
  rows : Nat
  cols : Nat
  part : Nat
  chain : Chain
  key : Nat
  base : Nat
  lscale : W32
  gather : Bool
  deriving DecidableEq, Repr

/-- R107, R131: the values of a source on row r. -/
def State.source (s : State) (k : ChainRun) (e : OpEntry) (x : List W32) (r src : Nat) : List W32 :=
  let c := k.chain
  let rho := 128 * k.rb + r
  let stream := fun i =>
    let w := fmtWidth (c.inFmt i)
    let row := leVal (s.win k.die k.lead (c.inOff i * 64 + rho * c.inLd i * 64 + k.cb * 16 * w) (ceilDiv (w * k.cols) 8))
    (List.range 128).map (fun j => if j < k.cols then toF32 (elemValue (c.inFmt i) 0 (elemAt w j row)) else 0)
  (match src with
  | 0 => x
  | 1 => (List.range 128).map (fun j => k.acc.at (r * 128 + j))
  | 2 => stream 0
  | 3 => stream 1
  | 0xA => (List.range 128).map (fun j => (s.tb k.die k.core c.vecTb).at j)
  | 0xB => List.replicate 128 ((s.tb k.die k.core c.rsTb).at (r * 128 + c.rsLane))
  | 0xC => List.replicate 128 e.imm
  | 0xD => List.replicate 128 k.lscale
  | n => (List.range 128).map (fun j => (s.tb k.die k.core (n - 4)).at (r * 128 + j))).map f32Canon

/-- R137: one value converted: element, widened value, non-finite and saturated flags. Mode 1 forms the
exact quotient by IMM; mode 2 takes the block exponent given. -/
def cvtValue (fmt mode : Nat) (imm : W32) (ex : Option Int) (r : Rounding) (a : W32) : Nat × W32 × Bool × Bool :=
  let v := ofF32 a
  match mode with
  | 1 =>
    let (q, nf, sat) := convertElem fmt 1 r (v.div (ofF32 imm))
    (q, toF32 ((elemValue fmt 1 q).mul (ofF32 imm)), nf, sat)
  | 2 =>
    match ex with
    | some x =>
      let (q, nf, sat) := convertElem fmt 2 r (v.scale2 (-x))
      (q, toF32 ((elemValue fmt 2 q).scale2 x), nf, sat)
    | none => (0, f32Nan, f32NonFinite a, false)
  | _ =>
    let (q, nf, sat) := convertElem fmt 0 r v
    (q, toF32 (elemValue fmt 0 q), nf, sat)

/-- R137: the scale exponent and E8M0 byte of each 32-lane block, over the lanes that take part. -/
def blockScales (fmt : Nat) (x : List W32) (inBlock : List Bool) : List (Option Int × Nat) :=
  (List.range 4).map fun b =>
    let l := ((x.zip inBlock).drop (32 * b)).take 32
    mxBlockScale fmt ((l.filter (·.2)).map (fun p => ofF32 p.1))

/-- The rounding of lane j of a stage (R114, R146). -/
def laneRounding (k : ChainRun) (stoch : Bool) (stage r j : Nat) : Rounding :=
  if stoch then
    .stochastic (rng32 k.key (k.base + stage * 2 ^ 16 + (128 * k.rb + r) * 256 + (128 * k.cb + j)) % 2 ^ 16)
  else .rne

/-- Replace the elements of a packed row where `keep` is clear (R137). -/
def mergeRow (w : Nat) (old : Nat) : Nat → List (Nat × Bool) → Nat
  | _, [] => old
  | j, (q, keep) :: t => mergeRow w (if keep then old else setBits old (w * j) w q) (j + 1) t

/-- R137: STORE of a row: elements and scale bytes into the window. -/
def State.storeRow (s : State) (k : ChainRun) (fmt mode : Nat) (r : Nat) (qs : List Nat) (scales : List (Option Int × Nat))
    (masked : List Bool) : State :=
  let c := k.chain
  let rho := 128 * k.rb + r
  let w := fmtWidth fmt
  let off := c.outOff * 64 + rho * c.outLd * 64 + k.cb * 16 * w
  let n := ceilDiv (w * k.cols) 8
  let old := leVal (s.win k.die k.lead off n)
  -- R108: the bits after the last element are written as zero
  let row := mergeRow w (old % 2 ^ (w * k.cols)) 0 (((qs.zip masked).take k.cols).map (fun p => (if p.2 then 0 else p.1, p.2 && !c.zeroMode)))
  let s := s.winWrite k.die k.lead off (leBytes n row)
  if mode = 2 then
    let nb := ceilDiv k.cols 32
    (List.range nb).foldl (fun s b =>
      let live := c.zeroMode || ((masked.drop (32 * b)).take (min 32 (k.cols - 32 * b))).any (!·)
      if live then
        s.winWrite k.die k.lead (c.sclOff * 64 + c.sclByte + rho * c.sclLd * 64 + 4 * k.cb + b)
          (leBytes 1 ((scales.getD b (none, 0)).2))
      else s) s
  else s

/-- R138: WR of a stage's result. -/
def State.writeTb (s : State) (k : ChainRun) (e : OpEntry) (r : Nat) (y : List W32) (masked : List Bool) : State :=
  let c := k.chain
  let lanes := (y.zip masked).take k.cols
  let idx := List.range lanes.length
  if e.wrSel = 0 then s
  else if e.wrSel = 7 then
    match lanes with
    | (v, m) :: _ =>
      if m && !c.zeroMode then s
      else
        let v := if m then 0 else v
        let s := s.putTb k.die k.core c.rsTb ((s.tb k.die k.core c.rsTb).put (r * 128 + c.rsLane) v)
        if f32NonFinite v && !m then s.vecFlag k.die k.core (nfTb c.rsTb) else s
    | [] => s
  else
    let n := e.wrSel - 1
    if n = 5 && k.gather then
      let st := (idx.zip lanes).foldl (fun (st : WStore) p =>
        let (j, v, m) := p
        if m && !c.zeroMode then st
        else
          let q := if m || f32IsNan v then 0xFFFF
                   else match ofF32 v with
                     | .inf neg => if neg then 0 else 0xFFFF
                     | fv => (max 0 (min 0xFFFF (fv.toIntR .rne))).toNat
          let byte := c.tb5Base * 64 + 256 * r + 2 * j
          let word := (st.at (byte / 4)).toNat
          st.put (byte / 4) (BitVec.ofNat 32 (setBits word (8 * (byte % 4)) 16 q))) (s.tb k.die k.core 5)
      s.putTb k.die k.core 5 st
    else
      let st := (idx.zip lanes).foldl (fun (st : WStore) p =>
        let (j, v, m) := p
        if m && !c.zeroMode then st else st.put (r * 128 + j) (if m then 0 else v)) (s.tb k.die k.core n)
      let s := s.putTb k.die k.core n st
      if lanes.any (fun p => !p.2 && f32NonFinite p.1) then s.vecFlag k.die k.core (nfTb n) else s

/-- R147: the state of a set on a row: lane 4s + i. -/
def State.smGet (s : State) (k : ChainRun) (r i : Nat) : W32 :=
  (s.tb k.die k.core 5).at (r * 128 + 4 * k.chain.smSet + i)
def State.smPut (s : State) (k : ChainRun) (r i : Nat) (v : W32) : State :=
  s.putTb k.die k.core 5 ((s.tb k.die k.core 5).put (r * 128 + 4 * k.chain.smSet + i) v)

/-- Lane-wise results of the plain operations (R133). -/
def laneOp (k : ChainRun) (e : OpEntry) (stage r j : Nat) (a b c : W32) : W32 :=
  match e.op with
  | 0x01 => f32Add a b
  | 0x02 => f32Sub a b
  | 0x03 => f32Mul a b
  | 0x04 => f32Fma a b c
  | 0x05 => f32Min a b
  | 0x06 => f32Max a b
  | 0x07 => f32Abs a
  | 0x08 => f32Neg a
  | 0x09 => f32Exp2 a
  | 0x0A => f32Log2 a
  | 0x0B => f32Rcp a
  | 0x0C => f32Rsqrt a
  | 0x0D => actF e.aux a
  | 0x0E => f32Mul a (actGrad e.aux b)
  | 0x0F => if cmpHolds e.aux a e.imm then b else c
  | 0x16 =>
    let x := rng32 k.key (k.base + stage * 2 ^ 16 + (128 * k.rb + r) * 256 + (128 * k.cb + j))
    if x >>> 16 ≥ e.arg16 then f32Mul a e.imm else 0
  | 0x17 =>
    let x := rng32 k.key (k.base + stage * 2 ^ 16 + (128 * k.rb + r) * 256 + (128 * k.cb + j))
    toF32 (.fin false (x >>> 8) (-24))
  | _ => a

/-- One stage on one row (R133, R137, R138, R140, R143, R144, R147): X to the next X. -/
def State.stage (s : State) (k : ChainRun) (stage r : Nat) (e : OpEntry) (x : List W32) : State × List W32 :=
  let c := k.chain
  let a := s.source k e x r e.srcA
  let b := s.source k e x r e.srcB
  let cc := s.source k e x r e.srcC
  let mtb := s.tb k.die k.core c.maskTb
  let masked := (List.range 128).map fun j =>
    decide (j ≥ k.cols) || (e.masked && maskLane c mtb k.rb k.cb r j)
  let red := fun f n => List.replicate 128 (rowReduce f n masked a)
  let fmt := (s.stageFmt k.die k.part c e).getD (0, 0, false)
  let inBlock := masked.mapIdx (fun j m => !m || (c.zeroMode && e.op == 0x15 && decide (j < k.cols)))
  let aBlk := (a.zip masked).map (fun p => if p.2 then 0 else p.1)
  let scales := blockScales fmt.1 aBlk inBlock
  let cv := (List.range 128).map fun j =>
    cvtValue fmt.1 fmt.2.1 e.imm ((scales.getD (j / 32) (none, 0)).1) (laneRounding k fmt.2.2 stage r j) (aBlk.getD j 0)
  let imm := e.imm
  let res : State × List W32 :=
    match e.op with
    | 0x10 => (s, red f32Add 0)
    | 0x11 => (s, red f32Max (f32Inf true))
    | 0x12 => (s, red f32Min (f32Inf false))
    | 0x13 => (s, List.replicate 128 (rowReduce f32Max 0 masked (a.map f32Abs)))
    | 0x14 => (s, cv.map (·.2.1))
    | 0x15 => (s.storeRow k fmt.1 fmt.2.1 r (cv.map (·.1)) scales masked, a)
    | 0x18 =>
      ((((s.smPut k r 0 (f32Inf true)).smPut k r 1 0).smPut k r 2 f32One).smPut k r 3 (f32Inf true), a)
    | 0x19 =>
      let m := s.smGet k r 0
      let l := s.smGet k r 1
      let xs := a.map (fun v => f32Mul v imm)
      let mx := rowReduce f32Max (f32Inf true) masked xs
      let mn := f32Max m mx
      let dead := mn == f32Inf true
      let alpha := if dead then f32One else f32Exp2 (f32Sub m mn)
      let p := xs.map (fun v => if dead then 0 else f32Exp2 (f32Sub v mn))
      let l' := f32Fma alpha l (rowReduce f32Add 0 masked p)
      (((s.smPut k r 2 alpha).smPut k r 1 l').smPut k r 0 mn, p)
    | 0x1A =>
      let alpha := s.smGet k r 2
      (s, (a.zip b).map (fun p => f32Fma alpha p.1 p.2))
    | 0x1B =>
      let m := s.smGet k r 0
      let l := s.smGet k r 1
      let y := if f32IsZero l then a.map (fun _ => (0 : W32)) else a.map (fun v => f32Mul v (f32Rcp l))
      (s.smPut k r 3 (f32Add m (f32Log2 l)), y)
    | _ => (s, (List.range 128).map fun j => laneOp k e stage r j (a.getD j 0) (b.getD j 0) (cc.getD j 0))
  let s := res.1
  let y := ((res.2.zip x).zip masked).mapIdx fun j p =>
    if p.2 then (if decide (j < k.cols) && c.zeroMode then 0 else p.1.2) else p.1.1
  let live := fun (l : List Bool) => ((l.zip masked).any fun p => p.1 && !p.2)
  let nfCvt := isCvt e && live (cv.map (·.2.2.1))
  let satCvt := isCvt e && live (cv.map (·.2.2.2))
  let s := if live (y.map f32NonFinite) || nfCvt then s.vecFlag k.die k.core (nfAcc k.tile) else s
  let s := if satCvt then s.vecFlag k.die k.core vecSat else s
  let nfStore := e.op == 0x15 && (live (cv.map (·.2.2.1)) ||
    (fmt.2.1 == 2 && (List.range 4).any fun q =>
      (scales.getD q (none, 0)).2 == 255 && ((inBlock.drop (32 * q)).take 32).any id))
  let s := if nfStore then s.vecFlag k.die k.core nfOut else s
  let s :=
    if e.mon then
      let obs := if isCvt e then a else y
      let nfs := if isCvt e then cv.map (·.2.2.1) else y.map f32NonFinite
      let l := (obs.zip nfs).zip masked
      { s with mons := (List.range 4).foldl (fun m q =>
          monBlock m (monKey k.die c.monLayer c.monKind) ((((l.drop (32 * q)).take 32).filter (fun p => !p.2)).map (·.1))) s.mons }
    else s
  (s.writeTb k e r y masked, y)

/-- One row through every stage. -/
def State.chainRow (s : State) (k : ChainRun) (r : Nat) : State :=
  let x := (List.range 128).map (fun j => f32Canon (k.acc.at (r * 128 + j)))
  let s := if (x.take k.cols).any f32NonFinite then s.vecFlag k.die k.core (nfAcc k.tile) else s
  (k.chain.ops.foldl (fun (st : State × List W32 × Nat) e =>
    let (s, y) := st.1.stage k st.2.2 r e st.2.1
    (s, y, st.2.2 + 1)) (s, x, 0)).1

/-- R128, R129: a chain on one member, its rows in order. -/
def State.chainMember (s : State) (k : ChainRun) : State :=
  (List.range k.rows).foldl (fun s r => s.chainRow k r) s

/-- R154: the first row of the chain on this member whose input streams meet a word in error, and the window offset
of that word. -/
def State.chainBad (s : State) (k : ChainRun) : Option (Nat × Nat) :=
  (List.range k.rows).findSome? fun r =>
    [0, 1].findSome? fun i =>
      if k.chain.ops.any fun e => e.reads (2 + i) then
        let w := fmtWidth (k.chain.inFmt i)
        (s.winBad k.die k.lead (k.chain.inOff i * 64 + (128 * k.rb + r) * k.chain.inLd i * 64 + k.cb * 16 * w)
          (ceilDiv (w * k.cols) 8)).map fun o => (r, o)
      else none

end Sys2Proof.Machine
end

