-- ==== Sys2Proof/WellFormed.lean ====
section
/-!
DEFINITION. What a command's operands can be: the widths the spec gives its fields, and units that its numbering
has. A command that is not well formed cannot be sent; it has no effect.
-/

namespace Sys2Proof

/-- R15: a compute die's code. -/
def isCompute (d : Nat) : Bool := decide (4 ≤ d) && decide (d < 8)

/-- R15: the code of a die. -/
def isDieCode (d : Nat) : Bool := decide (d < 2) || isCompute d

/-- R360: a part whose temperature is measured: a die by its code, or a stack of a compute die, 64 + 8 die + position. -/
def isPartCode (x : Nat) : Bool := isDieCode x || (decide (96 ≤ x) && decide (x < 128))

/-- R103, R150, R154, R162, R164: errors that an operation mended, as (kind, place): corrected in 0 a tile of a core, 1 a tile
buffer of a core, 2 the protected word or burst at a data address; 3 uncorrectable in the cached copy of a line. -/
def fixedWf (l : List (Nat × Nat)) : Bool := l.all (fun e => decide (e.1 < 4) && decide (e.2 < 2 ^ 48))

/-- R375, R376: the fields of an OCT request within their widths. -/
def OctHdr.wf (h : OctHdr) : Bool :=
  decide (h.src < 2 ^ 128) && decide (h.port < 65536) && decide (h.version < 256) && decide (h.flags < 65536) &&
  decide (h.ctx < 256) && decide (h.status < 256) && decide (h.detailSrc < 256) && decide (h.detail < 256) &&
  decide (h.session < 2 ^ 32) && decide (h.seq < 2 ^ 32) && decide (h.length < 2 ^ 32) && decide (h.count < 2 ^ 32) &&
  decide (h.target < 2 ^ 64)

/-- R3, R166: a request from a die within the address space; a write carries its data. -/
def MemReq.wf (q : MemReq) : Bool :=
  isDieCode q.die && q.part.all (fun p => decide (p < 4)) && decide (q.addr < 2 ^ 48) && decide (q.len < 2 ^ 32) &&
  q.damage.all (fun a => decide (a < 2 ^ 48)) && fixedWf q.fixed && decide (q.block < 256) && decide (q.inst < 4096) && decide (q.ctx < 64)

/-- R370, R372: a RoCEv2 packet's fields within their widths. -/
def RdmaPkt.wf (p : RdmaPkt) : Bool :=
  decide (p.qp < 2 ^ 24) && decide (p.op < 4) && decide (p.psn < 2 ^ 24) && decide (p.va < 2 ^ 64) &&
  decide (p.rkey < 2 ^ 32) && decide (p.len < 2 ^ 32)

/-- R253: a reduction frame's fields within their widths. -/
def Frame.wf (f : Frame) : Bool :=
  decide (f.channel < 256) && decide (f.pass < 256) && decide (f.flags < 65536) && decide (f.redId < 65536) &&
  decide (f.epoch < 65536) && decide (f.step < 2 ^ 32) && decide (f.sender < 65536)

/-- R368: a received frame's fields within their widths. -/
def EthFrame.wf (f : EthFrame) : Bool :=
  decide (f.len < 65536) && decide (f.src < 2 ^ 128) && decide (f.dst < 2 ^ 128) && decide (f.srcPort < 65536) &&
  decide (f.dstPort < 65536) && f.rdma.all RdmaPkt.wf

/-- R195: samples across and down of each plane of a picture, by its chroma format. -/
def VFrame.dims (f : VFrame) : List (Nat × Nat) :=
  let w := (f.width + 1) / 2
  match f.layout % 4 with
  | 0 => [(f.width, f.height)]
  | 1 => [(f.width, f.height), (w, (f.height + 1) / 2), (w, (f.height + 1) / 2)]
  | 2 => [(f.width, f.height), (w, f.height), (w, f.height)]
  | _ => [(f.width, f.height), (f.width, f.height), (f.width, f.height)]

/-- R197: 16 by 16 luma blocks across and down. -/
def VFrame.across (f : VFrame) : Nat := (f.width + 15) / 16
def VFrame.down (f : VFrame) : Nat := (f.height + 15) / 16

/-- R195, R197: a decoded picture: its fields fit the header's, its planes and its blocks are whole. -/
def VFrame.wf (f : VFrame) : Bool :=
  decide (f.width < 65536) && decide (f.height < 65536) && decide (f.pts < 2 ^ 64) && decide (f.layout < 16) && decide (f.sample < 2) &&
  decide (f.depth ≤ 16) && (f.sample != 1 || f.depth == 8) && decide (f.prim < 256) && decide (f.transfer < 256) && decide (f.matrix < 256) &&
  decide (f.nits < 65536) && decide (f.range < 2) && (!f.rgb || f.layout % 4 == 3) &&
  (f.planes.map (·.length) == f.dims.map (fun d => d.1 * d.2)) && (f.blocks.isEmpty || f.blocks.length == f.across * f.down)

/-- R192, R195: a decoded unit: its error is none, a syntax error or a missing reference. -/
def VUnit.wf (u : VUnit) : Bool :=
  (u.error == 0 || u.error == 4 || u.error == 6) && u.frames.all VFrame.wf

/-- R195: a block of audio. -/
def ABlock.wf (b : ABlock) : Bool := decide (b.rate < 2 ^ 32) && decide (b.pts < 2 ^ 64) && decide (b.samples < 2 ^ 32)

/-- R195: a caption record. -/
def CapRec.wf (r : CapRec) : Bool :=
  decide (r.service < 256) && decide (r.channel < 256) && decide (r.pts < 2 ^ 64) && decide (r.bmW < 65536) && decide (r.bmH < 65536) &&
  decide (r.page < 0x900)

def Instr.wf : Instr → Bool
  | .registerWrite addr value => decide (addr < 2 ^ 40) && decide (value < 2 ^ 64)
  | .regionStop h => h.wf
  | .regionDrained region => decide (region < 256)
  | .drainTimeout region => decide (region < 256)
  | .regionLoad h _ => h.wf
  | .regionStart h => h.wf
  | .regionUnitsInitialised region _ => decide (region < 256)
  | .mxcQtailWrite die core ctx tail => isCompute die && decide (core < 32) && decide (ctx < 64) && decide (tail < 65536)
  | .queueEnable block die inst ctx size => decide (block < 256) && decide (die < 16) && decide (inst < 4096) && decide (ctx < 64) && decide (size < 32)
  | .queueResume block die inst ctx => decide (block < 256) && decide (die < 16) && decide (inst < 4096) && decide (ctx < 64)
  | .tokenClear die core => isCompute die && decide (core < 32)
  | .descriptorTake die core => isCompute die && decide (core < 32)
  | .tokenWaitMet _ die core ctx => isCompute die && decide (core < 32) && decide (ctx < 64)
  | .productStart die core starved fillers => isCompute die && decide (core < 32) && decide (starved < 2 ^ 64) && decide (fillers < 2 ^ 64)
  | .productComplete die core stall fixed => isCompute die && decide (core < 32) && decide (stall < 2 ^ 64) && fixedWf fixed
  | .barrierComplete die core ctx => isCompute die && decide (core < 32) && decide (ctx < 64)
  | .lockLimitExpire die core => isCompute die && decide (core < 32)
  | .groupSleep die core fillers => isCompute die && decide (core < 32) && decide (fillers < 2 ^ 64)
  | .groupWake die core fillers => isCompute die && decide (core < 32) && decide (fillers < 2 ^ 64)
  | .accEccUncorr die core tile => isCompute die && decide (core < 32) && decide (tile < 4)
  | .feedParity die core => isCompute die && decide (core < 32)
  | .postChainStart die core => isCompute die && decide (core < 32)
  | .chainComplete die core cycles stalled fixed => isCompute die && decide (core < 32) && decide (cycles < 2 ^ 64) && decide (stalled < 2 ^ 64) && fixedWf fixed
  | .routedProductComplete die core cycles fixed => isCompute die && decide (core < 32) && decide (cycles < 2 ^ 64) && fixedWf fixed
  | .tbEccUncorr die core tb rows => isCompute die && decide (core < 32) && decide (tb < 8) && decide (rows < 128)
  | .spadQtailWrite die core ctx tail => isCompute die && decide (core < 32) && decide (ctx < 64) && decide (tail < 65536)
  | .moveTake die core => isCompute die && decide (core < 32)
  | .moveComplete die core cycles fixed => isCompute die && decide (core < 32) && decide (cycles < 2 ^ 64) && fixedWf fixed
  | .spadEccUncorr die core off => isCompute die && decide (core < 32) && decide (off < 0x400000)
  | .memoryRequest q => q.wf
  | .rlcFillReturn die line => isCompute die && decide (line < 2 ^ 48)
  | .rlcInvalidation die line => isCompute die && decide (line < 2 ^ 48)
  | .patrolScrub die stack result addr => isCompute die && decide (stack < 8) && decide (result < 4) && decide (addr < 2 ^ 48)
  | .dramRefresh die stack chan => isCompute die && decide (stack < 8) && decide (chan < 32)
  | .farSpillAck die core cycles _ => isCompute die && decide (core < 32) && decide (cycles < 2 ^ 64)
  | .reservoirPacket p => p.wf
  | .reservoirChunkComplete qp => decide (qp < 2 ^ 24)
  | .demuxChunk hub inst => decide (hub < 2) && decide (inst < 16)
  | .vdecUnit hub inst u => decide (hub < 2) && decide (inst < 16) && u.wf
  | .adecAudioBlock hub inst error blocks => decide (hub < 2) && decide (inst < 16) && decide (error < 16) && blocks.all ABlock.wf
  | .adecCaption hub inst error recs => decide (hub < 2) && decide (inst < 16) && decide (error < 16) && recs.all CapRec.wf
  | .xformFrame hub inst => decide (hub < 2) && decide (inst < 16)
  | .tokenTile hub inst => decide (hub < 2) && decide (inst < 16)
  | .deliveryEntry hub inst => decide (hub < 2) && decide (inst < 256)
  | .deliveryConsumedPoll hub inst => decide (hub < 2) && decide (inst < 256)
  | .stageRoomResume hub block inst => decide (hub < 2) && decide (block < 256) && decide (inst < 256)
  | .permGenBlock hub => decide (hub < 2)
  | .permHostGo hub => decide (hub < 2)
  | .permHostDone hub => decide (hub < 2)
  | .shuffleEntry hub => decide (hub < 2)
  | .shuffleFlush hub => decide (hub < 2)
  | .seteBlock hub inst => decide (hub < 2) && decide (inst < 4)
  | .seteQtailWrite hub ctx tail => decide (hub < 2) && decide (ctx < 64) && decide (tail < 65536)
  | .setDescTake hub => decide (hub < 2)
  | .setDescComplete hub cycles => decide (hub < 2) && decide (cycles < 2 ^ 64)
  | .stepBegin p => decide (p < 4)
  | .stepAdvance p => decide (p < 4)
  | .discardAccum p => decide (p < 4)
  | .discardAccumDone p => decide (p < 4)
  | .stepAbort p => decide (p < 4)
  | .updTableReport die => isCompute die
  | .closingReductionIssue p => decide (p < 4)
  | .verdict p => decide (p < 4)
  | .updApplyDone die => isCompute die
  | .verdictTimeout p => decide (p < 4)
  | .updCommitFault die entry addr => isCompute die && decide (entry < 65536) && decide (addr < 2 ^ 48)
  | .redQtailWrite chan tail => decide (chan < 32) && decide (tail < 65536)
  | .redRequestTake chan => decide (chan < 32)
  | .redRequestStart chan => decide (chan < 32)
  | .exponentFrame hop part f => decide (hop < 32) && decide (part < 4) && f.wf
  | .reduceScatterFrame hop part f => decide (hop < 32) && decide (part < 4) && f.wf
  | .allGatherFrame hop part f => decide (hop < 32) && decide (part < 4) && f.wf
  | .rollCallFrame hop part f => decide (hop < 32) && decide (part < 4) && f.wf
  | .stragglerDecision chan => decide (chan < 32)
  | .redHang chan => decide (chan < 32)
  | .peerReplay port _ => decide (port < 16)
  | .peerLinkDown port => decide (port < 16)
  | .peerLinkUp port lanes partnerMax partnerPart _ => decide (port < 16) && decide (lanes < 256) && decide (partnerMax < 256) && decide (partnerPart < 65536)
  | .peerLinkRetry port lanes partnerMax partnerPart _ => decide (port < 16) && decide (lanes < 256) && decide (partnerMax < 256) && decide (partnerPart < 65536)
  | .allgatherShardFrame hop part f => decide (hop < 32) && decide (part < 4) && f.wf
  | .gatherConsumedPoll chan => decide (chan < 32)
  | .permuteStart chan => decide (chan < 32)
  | .permuteMoveFrame hop part f => decide (hop < 32) && decide (part < 4) && f.wf
  | .permuteComplete chan => decide (chan < 32)
  | .arbGrant die inst arrivals => isDieCode die && decide (inst < 4096) && arrivals.all (fun x => decide (x.1 < 256) && decide (x.2 < 65536))
  | .arbAged die inst cls => isDieCode die && decide (inst < 4096) && decide (cls < 4)
  | .arbFreeze die inst v => isDieCode die && decide (inst < 4096) && decide (v < 2 ^ 64)
  | .weaveRetrain die => isCompute die
  | .weaveTrainDone die _ _ => isCompute die
  | .weaveWordError die _ _ => isCompute die
  | .weaveDownRetry die => isCompute die
  | .seamRetrain hub => decide (hub < 2)
  | .seamReceiverLock hub => decide (hub < 2)
  | .seamLaneTestEnd hub mask => decide (hub < 2) && decide (mask < 2 ^ 64)
  | .seamTrainingSet hub _ => decide (hub < 2)
  | .seamAgreeLimit hub => decide (hub < 2)
  | .seamConfirmEnd hub _ => decide (hub < 2)
  | .seamLossLimit hub => decide (hub < 2)
  | .seamUpStable hub => decide (hub < 2)
  | .seamDownRetry hub => decide (hub < 2)
  | .seamFlitError hub _ => decide (hub < 2)
  | .fence h => h.wf
  | .fenceProbe number entry => decide (number < 2 ^ 32) && decide (entry < 65536)
  | .fenceWatermarkSend number entry => decide (number < 2 ^ 32) && decide (entry < 65536)
  | .fenceWatermarkArrive number entry => decide (number < 2 ^ 32) && decide (entry < 65536)
  | .fenceTimeout number => decide (number < 2 ^ 32)
  | .pllLockLost die domain => isDieCode die && decide (domain < 16)
  | .referenceLost osc => decide (osc < 2)
  | .powerApplied _ => true
  | .vinSample tenmv => decide (tenmv < 65536)
  | .powerLost => true
  | .powerReading watts average => decide (watts < 65536) && decide (average < 65536)
  | .powerMsBoundary temps => temps.all (fun x => isPartCode x.1 && decide (x.2 < 256))
  | .throttleStep die => isDieCode die
  | .thermalTrip die temp => isDieCode die && decide (temp < 256)
  | .coolantFault tIn tOut flow => decide (tIn < 256) && decide (tOut < 256) && decide (flow < 65536)
  | .coolantClear tIn tOut flow => decide (tIn < 256) && decide (tOut < 256) && decide (flow < 65536)
  | .emergencyReset => true
  | .ethSpeedTry => true
  | .ethLinkLoss => true
  | .ethSpeedsWrite v => decide (v < 8)
  | .ethRxFrame f => f.wf
  | .pfcRx prios quanta => decide (prios < 256) && quanta.all (fun x => decide (x < 65536))
  | .pfcRefresh => true
  | .rdmaPacketRx p => p.wf
  | .rdmaCnpRx qp => decide (qp < 2 ^ 24)
  | .rdmaRateRecover qp => decide (qp < 2 ^ 24)
  | .rdmaAckTimeout qp => decide (qp < 2 ^ 24)
  | .qpLoad qp => decide (qp < 2 ^ 24)
  | .qpToError qp => decide (qp < 2 ^ 24)
  | .qpToReset qp => decide (qp < 2 ^ 24)
  | .negotiate h => h.wf
  | .close h => h.wf
  | .csrRead h => h.wf
  | .csrWrite h => h.wf
  | .memRead h => h.wf
  | .memWrite h => h.wf
  | .doorbell h => h.wf
  | .ctxOpen h => h.wf
  | .ctxClose h => h.wf
  | .ctxStopConfirmed ctx => decide (ctx < 64)
  | .ctxClosed ctx => decide (ctx < 64)
  | .ctxDrainLimit ctx => decide (ctx < 64)
  | .subscribe h => h.wf
  | .octSessionIdle src port session => decide (src < 2 ^ 128) && decide (port < 65536) && decide (session < 2 ^ 32)
  | .attestIdentity h => h.wf
  | .attestReport h => h.wf
  | .installFw h => h.wf
  | .installStream h => h.wf
  | .prefer h => h.wf
  | .raiseSvn h => h.wf
  | .installBackgroundDone _ => true
  | .daybreakStepComplete fails => fails.all (fun x => decide (x.1 < 256) && decide (x.2 < 4096))
  | .daybreakGo => true
  | .pllLockTimeout die domain => isDieCode die && decide (domain < 16)
  | .weaveStepTimeout die => isCompute die
  | .seamWaitTimeout => true
  | .peerStepTimeout => true
  | .ethStepTimeout => true
  | .announceRepeat => true
  | .watchdogExpire die block inst => isDieCode die && decide (block < 256) && decide (inst < 4096)
  | .fwWatchdogExpire => true
  | .rstKick => true
  | .resetEngine h => h.wf
  | .resetDie h => h.wf
  | .resetHalf h => h.wf
  | .resetModule h => h.wf
  | .duskDrained die => isDieCode die
  | .duskLimit die outstanding => isDieCode die && decide (outstanding < 2 ^ 32)
  | .dumpDone => true
  | .debugRingTimeout _ die bank => isDieCode die && decide (bank < 65536)
  | .resetReleased die fails => isDieCode die && fails.all (fun x => decide (x < 16))
  | .resetEscalate die => isDieCode die
  | .quarantineTurnEnd die inst => isDieCode die && decide (inst < 4096)
  | .replayWindowExpire die inst => isDieCode die && decide (inst < 4096)
  | .dumpOnDemand dies => decide (dies < 256)
  | .j20UartCommand _ => true
  | .j20TapAccess reg => decide (reg < 2 ^ 105)
  | .pcsLock lanes => decide (lanes < 256)
  | .emrstNRelease => true
  | .pauseQuantaExpire prio => decide (prio < 8)
  | .nakReceived qp => decide (qp < 2 ^ 24)

end Sys2Proof
end

