-- ==== Sys2Proof/Machine/Ingest.lean ====
section
/-!
DEFINITION. Media ingest (R178 to R210): stage queues, bodies and spill, the reservoirs, demux, decoders, transform,
tokeniser and delivery.
-/

namespace Sys2Proof.Machine

/-! ### The registers every engine carries (R208) -/

/-- The counter of an engine block: 0 IN, 1 OUT, 2 DROPPED, 3 STALL_OUT, 4 STARVED, 5 SPILL. -/
def engCount (block k : Nat) : Fld :=
  let pick (a b c d e f : Fld) : Fld :=
    match k with | 0 => a | 1 => b | 2 => c | 3 => d | 4 => e | _ => f
  match block with
  | 0x30 => pick R.DEMUX_IN_COUNT R.DEMUX_OUT_COUNT R.DEMUX_DROPPED_COUNT R.DEMUX_STALL_OUT_COUNT R.DEMUX_STARVED_COUNT R.DEMUX_SPILL_COUNT
  | 0x31 => pick R.VDEC_IN_COUNT R.VDEC_OUT_COUNT R.VDEC_DROPPED_COUNT R.VDEC_STALL_OUT_COUNT R.VDEC_STARVED_COUNT R.VDEC_SPILL_COUNT
  | 0x32 => pick R.ADEC_IN_COUNT R.ADEC_OUT_COUNT R.ADEC_DROPPED_COUNT R.ADEC_STALL_OUT_COUNT R.ADEC_STARVED_COUNT R.ADEC_SPILL_COUNT
  | 0x33 => pick R.XFORM_IN_COUNT R.XFORM_OUT_COUNT R.XFORM_DROPPED_COUNT R.XFORM_STALL_OUT_COUNT R.XFORM_STARVED_COUNT R.XFORM_SPILL_COUNT
  | 0x34 => pick R.TOKEN_IN_COUNT R.TOKEN_OUT_COUNT R.TOKEN_DROPPED_COUNT R.TOKEN_STALL_OUT_COUNT R.TOKEN_STARVED_COUNT R.TOKEN_SPILL_COUNT
  | 0x35 => pick R.PERM_IN_COUNT R.PERM_OUT_COUNT R.PERM_DROPPED_COUNT R.PERM_STALL_OUT_COUNT R.PERM_STARVED_COUNT R.PERM_SPILL_COUNT
  | _ => pick R.SETE_IN_COUNT R.SETE_OUT_COUNT R.SETE_DROPPED_COUNT R.SETE_STALL_OUT_COUNT R.SETE_STARVED_COUNT R.SETE_SPILL_COUNT

/-- The *_ERROR register of an engine block. -/
def engError (block : Nat) : RegDef :=
  match block with
  | 0x30 => R.DEMUX_ERROR | 0x31 => R.VDEC_ERROR | 0x32 => R.ADEC_ERROR | 0x33 => R.XFORM_ERROR
  | 0x34 => R.TOKEN_ERROR | 0x35 => R.PERM_ERROR | _ => R.SETE_ERROR

/-- Count at an engine; a delivery node has no such counters. -/
def State.eng (s : State) (hub : Nat) (n : NodeCfg) (k c : Nat) : State :=
  if n.block = 0xFE then s else s.count (engCount n.block k) c hub n.inst

/-- R208, R209, R225: record an error code: STREAM_ERR [0], ITEM_ERR [1], ACCESS [2], ECC_UNCORR [3], SET_ERR [4]. -/
def State.engErr (s : State) (hub : Nat) (n : NodeCfg) (code source item : Nat) : State :=
  if n.block = 0xFE then s
  else
    let b := if code ≤ 6 then 0 else if code ≤ 8 then 1 else if code = 9 then 2 else if code = 0xA then 3 else 4
    let r := engError n.block
    let v := s.rd r hub n.inst 0
    s.wr r hub n.inst 0 (setBits (setBits (setBits (setBits v b 1 1) 8 8 code) 16 16 source) 32 32 item)

/-! ### The graph in force -/

/-- R41, R61: the INGEST region of a hub. -/
def ingestRegion (hub : Nat) : Nat := 0x10 + hub

/-- Does the region let nodes work (RUNNING or STOPPING, R61, R207)? -/
def State.ingestOn (s : State) (hub : Nat) : Bool :=
  isHub hub && (s.region (ingestRegion hub) == 0 || s.region (ingestRegion hub) == 1)

/-- The node of an engine instance or of a delivery INSTANCE. -/
def State.nodeOf (s : State) (hub block inst : Nat) : Option NodeCfg :=
  (s.nodes hub).find? (fun n => n.block == block && n.inst == inst)

/-- An edge (R48): from node and port, to node and port, depth. -/
structure Edge where
  src : Nat
  sport : Nat
  dst : Nat
  dport : Nat
  depth : Nat
  deriving DecidableEq, Repr

def edgeOfPayload (p : List Byte) : Edge :=
  let x := fieldAt p 0 8
  ⟨bits x 0 8, bits x 8 4, bits x 16 8, bits x 24 4, 2 ^ bits x 32 4⟩

def State.edges (s : State) (hub : Nat) : List Edge :=
  (s.recsOf (ingestRegion hub) 0x302).map (fun r => edgeOfPayload r.payload)

def nodeKey (hub node : Nat) : Nat := hub * 256 + node
def stageKey (hub node port : Nat) : Nat := nodeKey hub node * 16 + port

def State.inode (s : State) (hub node : Nat) : INode := ngetD s.inodes (nodeKey hub node) {}
def State.putNode (s : State) (hub node : Nat) (n : INode) : State :=
  { s with inodes := nset (nodeKey hub node) n s.inodes }
def State.inq (s : State) (hub node port : Nat) : List SEntry := ngetD s.stageQ (stageKey hub node port) []
def State.putInq (s : State) (hub node port : Nat) (q : List SEntry) : State :=
  { s with stageQ := nset (stageKey hub node port) q s.stageQ }

/-- A byte of a node's PARAMS, and a field of them. -/
def NodeCfg.par (n : NodeCfg) (off w : Nat) : Nat := fieldAt n.params off w

/-! ### Room for bodies (R181, R182) -/

/-- Bodies held in memory that meet a span. -/
def State.bodyAt (s : State) (a n : Nat) : Option (Nat × Nat × Nat) :=
  s.bodies.find? (fun b => overlap b.2.1 b.2.2 a n)

/-- The 64 KiB spill block that holds an address, within a carve-out. -/
def spillBlock (base a : Nat) : Nat := base + (a - base) / 0x10000 * 0x10000

/-- R182: may the node place a body there in a spill carve-out: every block it touches is free or holds only this node's bodies? -/
def State.spillFree (s : State) (key base a n : Nat) : Bool :=
  let lo := spillBlock base a
  let hi := spillBlock base (a + n - 1) + 0x10000
  (s.bodyAt a n).isNone && s.bodies.all (fun b => b.1 == key || !overlap b.2.1 b.2.2 lo (hi - lo))

/-- R182: blocks a body would take that the node does not hold yet. -/
def State.newBlocks (s : State) (key base a n : Nat) : Nat :=
  let lo := spillBlock base a
  let k := (spillBlock base (a + n - 1) + 0x10000 - lo) / 0x10000
  ((List.range k).filter fun i =>
    !(s.bodies.any fun b => b.1 == key && overlap b.2.1 b.2.2 (lo + i * 0x10000) 0x10000)).length

/-- The lowest place for n bytes in an area, at 64-byte steps from its base and from the ends of bodies in it. -/
def State.placeIn (s : State) (base size n : Nat) (ok : Nat → Bool) : Option Nat :=
  let ends := (s.bodies.filter (fun b => overlap b.2.1 b.2.2 base size)).flatMap
    (fun b => [roundUp (b.2.1 + b.2.2) 64, spillBlock base (b.2.1 + b.2.2 - 1) + 0x10000])
  let cand := (base :: ends).filter (fun a => decide (base ≤ a) && decide (a + n ≤ base + size) && ok a)
  cand.min?

/-- R182: the SPILL carve-outs of an INGEST region, in order of BASE. -/
def State.spillCarves (s : State) (hub : Nat) : List Carve :=
  sortBy (fun a b => decide (a.base ≤ b.base)) (s.carves.filter (fun c => c.kind == 2 && c.owner == ingestRegion hub))

/-- Where a node puts a body, and the spill blocks that takes; none where there is no room, or no path to it (R17, R18). -/
def State.room (s : State) (hub : Nat) (c : NodeCfg) (n : Nat) : Option (Nat × Nat) :=
  let key := nodeKey hub c.node
  let base := c.par 0 8 % 2 ^ 48
  match s.placeIn base (c.par 8 4 * 0x10000) n (fun a => (s.bodyAt a n).isNone) with
  | some a => some (a, 0)
  | none =>
    if bit (c.par 0xC 4) 0 then
      (s.spillCarves hub).findSome? fun v =>
        match s.placeIn v.base v.size n (s.spillFree key v.base · n) with
        | some a => if s.linkedTo hub [a] then some (a, s.newBlocks key v.base a n) else none
        | none => none
    else none

/-- R24, R26, R203: the partition of a node. With four partitions a delivery node's is that of its DEST (log 23), as the
stream assigns no delivery node to one; in the other cuts a hub's nodes belong to the one partition that the hub serves. -/
def nodePart (g : State) (hub : Nat) (n : NodeCfg) : Option Nat :=
  if n.block = 0xFE ∧ g.cut = 3 then
    (g.partOfDie (addrDie (n.par 0 8))).filter (fun p => (g.partHubs p).contains hub)
  else some (g.partOfEngine hub n.block n.inst)

/-- Who an engine's access is made for (R27). -/
def State.engWho (s : State) (hub : Nat) (c : NodeCfg) : Who :=
  { die := hub, part := nodePart s hub c }

/-- The consumer releases an entry's body (R179). -/
def State.freeBody (s : State) (a : Nat) : State :=
  { s with bodies := s.bodies.filter (fun b => b.2.1 != a) }

/-- R208: a fault on a body: the code, recorded with the access fault of the hub. -/
def State.bodyFault (s : State) (hub : Nat) (c : NodeCfg) (kind a source item : Nat) : State :=
  (s.hubFault hub c.block c.inst 0 kind a).engErr hub c (if kind = 6 then 0xA else 9) source item

/-! ### Items -/

/-- The item of a source open at a node. -/
def INode.item (n : INode) (item source : Nat) : Option IItem :=
  n.items.find? (fun i => i.item == item && i.source == source)

/-- ERROR and DISCONT, owed to an item's next entry after a unit was dropped (R208). -/
def owed : Nat := 0x24

def orFlag (f i : Nat) : Nat := setBits f i 1 1
def orFlags (f g : Nat) : Nat := f ||| g

/-- The item of a source as a unit of it finds it: open, or opened with the flags owed to its first entry. -/
def INode.open (n : INode) (item source : Nat) : IItem :=
  (n.item item source).getD { item := item, source := source, pend := if n.owes.contains (item, source) then owed else 0 }

def INode.putItem (n : INode) (i : IItem) : INode :=
  if (n.item i.item i.source).isSome then
    { n with items := n.items.map (fun j => if j.item = i.item ∧ j.source = i.source then i else j) }
  else { n with items := n.items ++ [i], owes := n.owes.erase (i.item, i.source) }

def INode.dropItem (n : INode) (item source : Nat) : INode :=
  { n with items := n.items.filter (fun j => !(j.item == item && j.source == source)) }

/-- Owe an item's next entry ERROR and DISCONT (R208). -/
def INode.owe (n : INode) (item source : Nat) : INode :=
  match n.item item source with
  | some i => n.putItem { i with pend := orFlags i.pend owed }
  | none => if n.owes.contains (item, source) then n else { n with owes := n.owes ++ [(item, source)] }

/-- R208: a unit of an item is dropped: it is counted, and the item's next entry owes ERROR and DISCONT. -/
def State.dropUnit (s : State) (hub : Nat) (c : NodeCfg) (item source : Nat) : State :=
  let s := s.eng hub c 2 1
  s.putNode hub c.node ((s.inode hub c.node).owe item source)

/-! ### Emitting (R179, R180, R206) -/

/-- Emit one unit: `none` where its queue is full or there is no room for its body. A unit whose body meets an access fault is
dropped (R208). -/
def State.emit (s : State) (hub : Nat) (c : NodeCfg) (m : Emis) : Option State :=
  match (s.edges hub).find? (fun g => g.src == c.node && g.sport == m.port) with
  | none => some (s.eng hub c 2 1)
  | some g =>
    let q := s.inq hub g.dst g.dport
    if q.length ≥ g.depth then none
    else
      let n := m.body.length
      match s.room hub c n with
      | none => none
      | some (a, blocks) =>
        match s.store (s.engWho hub c) a m.body with
        | (s, 0) =>
          let s : State := if m.fogLen = 0 then s else
            let (k, s) := s.tick
            { s with mem := s.mem.forget (a + m.fogOff) m.fogLen k }
          let s : State := { s with bodies := (nodeKey hub c.node, a, n) :: s.bodies }
          let s := s.putInq hub g.dst g.dport (q ++ [{ m.e with body := a, bytes := n }])
          some ((s.eng hub c 1 1).eng hub c 5 blocks)
        | (s, k) => some ((s.bodyFault hub c k a m.e.source m.e.item).dropUnit hub c m.e.item m.e.source)

/-- Units that leave only together (R206): all but the last are tied to the next. -/
def tie : List Emis → List Emis
  | [] => []
  | [m] => [{ m with tied := false }]
  | m :: t => { m with tied := true } :: tie t

/-- The units at the front that leave together. -/
def group : List Emis → List Emis
  | [] => []
  | m :: t => if m.tied then m :: group t else [m]

/-- Emit units that leave together: `none` while one of them must wait (R206). -/
def State.emitGroup (s : State) (hub : Nat) (c : NodeCfg) : List Emis → Option State
  | [] => some s
  | m :: t => match s.emit hub c m with
    | some s => s.emitGroup hub c t
    | none => none

/-- Emit held units in order until one must wait (R206), with fuel: the state and what is still held. -/
def State.emitAll (s : State) (hub : Nat) (c : NodeCfg) : Nat → List Emis → State × List Emis
  | 0, l => (s, l)
  | _ + 1, [] => (s, [])
  | k + 1, m :: t =>
    match s.emitGroup hub c (group (m :: t)) with
    | some s' => s'.emitAll hub c k ((m :: t).drop (group (m :: t)).length)
    | none => (s, m :: t)

/-- Emit what the node holds, with more units after it. -/
def State.flush (s : State) (hub : Nat) (c : NodeCfg) (more : List Emis) : State :=
  let all := (s.inode hub c.node).held ++ more
  let (s, held) := s.emitAll hub c all.length all
  s.putNode hub c.node { s.inode hub c.node with held := held }

/-! ### Taking -/

/-- The next input port with an entry, round robin (R206). -/
def State.nextPort (s : State) (hub : Nat) (c : NodeCfg) : Option Nat :=
  roundRobin 16 (s.inode hub c.node).rr (fun p => !(s.inq hub c.node p).isEmpty)

/-- Take the entry at the front of an input port; its body is read and, unless `keep`, released. Where the read faults the body
is none: the unit is dropped (R208). An entry whose body no path leads to waits (R17, R18). -/
def State.take (s : State) (hub : Nat) (c : NodeCfg) (p : Nat) (keep : Bool := false) :
    State × Option (SEntry × Option (List Byte)) :=
  match s.inq hub c.node p with
  | [] => (s, none)
  | e :: t =>
    if !s.linkedTo hub [e.body] then (s, none)
    else
      let s := (s.putInq hub c.node p t).eng hub c 0 1
      let s := s.putNode hub c.node { s.inode hub c.node with rr := p }
      match s.load (s.engWho hub c) e.body e.bytes with
      | (s, .ok b) => (if keep then s else s.freeBody e.body, some (e, some b))
      | (s, .error k) =>
        let s := (s.bodyFault hub c k e.body e.source e.item).dropUnit hub c e.item e.source
        (s.freeBody e.body, some (e, none))

/-- May the node start a unit: its region lets it work, it holds nothing back and has no unit in hand? -/
def State.mayWork (s : State) (hub : Nat) (c : NodeCfg) : Bool :=
  let n := s.inode hub c.node
  s.ingestOn hub && n.held.isEmpty && n.chunk.isNone && n.unit.isNone

/-- R207: in STOPPING, with every queue of the hub empty and nothing held or in hand, nothing more can follow what a node holds
back for its item's LAST: it lets it go. -/
def State.letsGo (s : State) (hub : Nat) : Bool :=
  s.region (ingestRegion hub) == 1 && s.stageQ.all (fun q => q.1 / 4096 != hub || q.2.isEmpty) &&
  s.inodes.all (fun n => n.1 / 256 != hub || (n.2.held.isEmpty && n.2.chunk.isNone && n.2.unit.isNone))

/-! ### Headers -/

def flagFirst : Nat := 0
def flagLast : Nat := 1
def flagError : Nat := 2
def flagRedundant : Nat := 3
def flagConcealed : Nat := 4
def flagDiscont : Nat := 5
def flagKey : Nat := 6

/-- R195: the 64-byte header: the common fields, then the kind's own from 0x14, zero after them. -/
def bodyHeader (e : SEntry) (codec : Nat) (tail : List Byte) : List Byte :=
  let h := leBytes 4 e.item ++ leBytes 4 e.index ++ leBytes 8 e.pts ++ leBytes 1 e.kind ++ leBytes 1 codec ++ leBytes 2 e.source
  h ++ (tail ++ List.replicate 44 0).take 44

/-- Pad bytes to a multiple of 64. -/
def pad64 (l : List Byte) : List Byte := l ++ List.replicate (roundUp l.length 64 - l.length) 0

def IItem.nextIndex (i : IItem) (port : Nat) : Nat := ngetD i.next port 0

/-- FIRST on the item's first entry of a port, and the flags owed to its next entry (R208). -/
def IItem.mark (i : IItem) (port flags : Nat) : IItem × Nat :=
  let f := if i.begun.contains port then flags else orFlag flags flagFirst
  ({ i with begun := if i.begun.contains port then i.begun else port :: i.begun, pend := 0 }, orFlags f i.pend)

/-! ### The reservoir (R183 to R187) -/

/-- The largest padded chunk: 1 MiB + 64 bytes. -/
def resvSpan : Nat := 0x100040

/-- A hub's reservoir carve-out, and its water marks (HIGH, LOW). -/
def State.resvCarve (s : State) (hub : Nat) : Option Carve :=
  s.carves.find? (fun c => c.kind == 1 && c.owner == ingestRegion hub)
def State.water (s : State) (hub : Nat) : Option (Nat × Nat) :=
  (s.recOf (ingestRegion hub) 0x303).map (fun p => (fieldAt p 0 8, fieldAt p 8 8))

def State.reservoir (s : State) (hub : Nat) : Resv := ngetD s.resv hub {}

/-- R185: USED, round the ring from the oldest chunk or reservation to the allocation position. -/
def resvUsed (r : Resv) (size : Nat) : Nat :=
  match r.ring with
  | [] => 0
  | c :: _ => let d := (r.pos + size - c.start) % size; if d = 0 then size else d

/-- R185: where the next reservation would start, and whether it finds room. -/
def resvNext (r : Resv) (size : Nat) : Option Nat :=
  let a := if size - r.pos < resvSpan then 0 else r.pos
  if resvSpan ≤ size ∧ r.ring.all (fun c => !overlap c.start resvSpan a resvSpan) ∧
     r.ring.all (fun c => a != 0 || r.pos == 0 || !overlap c.start resvSpan r.pos (size - r.pos)) then some a
  else none

/-- R186: the priorities on which a reservoir is asserting with flow control on. -/
def State.pfcMask (s : State) : List Nat :=
  (List.range 8).filter fun p => hubs.any fun h =>
    s.flag R.DEMUX_RES_STATUS_ASSERTING h && s.flag R.DEMUX_RES_CFG_PFC_EN h && s.get R.DEMUX_RES_CFG_PFC_PRIO h == p

/-- R369: send a PFC frame: priority and quanta. -/
def State.sendPfc (s : State) (prio quanta : Nat) : State :=
  (s.send (.eth 0 [prio, quanta] [])).count R.ETH_PFC_TX_COUNT 1 0

/-- R186, R210, R369: bring a reservoir's registers up to date; PFC frames leave where a priority begins or ends. Without a
reservoir or water marks none is present, and none asserts. -/
def State.resvUpdate (s : State) (hub : Nat) (r : Resv) : State :=
  let before := s.pfcMask
  let s : State := { s with resv := nset hub r s.resv }
  let used := match s.resvCarve hub with | some c => resvUsed r c.size | none => 0
  let s := s.put R.DEMUX_RES_STATUS_USED used hub
  let was := s.flag R.DEMUX_RES_STATUS_ASSERTING hub
  let s :=
    match s.resvCarve hub, s.water hub with
    | some _, some (high, low) =>
      let s := s.put R.DEMUX_RES_STATUS_PRESENT 1 hub
      if !was && decide (used > high) then (s.put R.DEMUX_RES_STATUS_ASSERTING 1 hub).count R.DEMUX_RES_XOFF_COUNT 1 hub
      else if was && decide (used ≤ low) then s.put R.DEMUX_RES_STATUS_ASSERTING 0 hub
      else s
    | _, _ => (s.put R.DEMUX_RES_STATUS_PRESENT 0 hub).put R.DEMUX_RES_STATUS_ASSERTING 0 hub
  let after := s.pfcMask
  let s := (after.filter (fun p => !before.contains p)).foldl (fun s p => s.sendPfc p 0xFFFF) s
  (before.filter (fun p => !after.contains p)).foldl (fun s p => s.sendPfc p 0) s

/-- R184: free space in ring order, up to the oldest chunk or reservation not released. -/
def freeRing : List RChunk → List RChunk
  | [] => []
  | c :: t => if c.released then freeRing t else c :: t

/-- Release a chunk by its start. -/
def Resv.release (r : Resv) (start : Nat) : Resv :=
  { r with ring := freeRing (r.ring.map (fun c => if c.start = start then { c with released := true } else c)) }

/-- The longest SEND that is kept: 1 MiB and the chunk header (R183). -/
def resvMost : Nat := 0x100010

/-- What becomes of a packet of a SEND at a reservoir: it lands, finds no room (R187), makes its message too long (R183), or
belongs to none. -/
inductive Landing where
  | lands | noRoom | tooLong | noMessage
  deriving DecidableEq, Repr

/-- The open reservation of a queue pair: the one whose message is still arriving. -/
def Resv.opened (r : Resv) (qp : Nat) : Option RChunk := r.ring.find? (fun k => k.qp == qp && !k.landed)

/-- R183, R185, R187: a packet of a SEND arrives: a first packet takes a reservation where there is room, its bytes join it, and
the last one ends the message. -/
def State.resvPacket (s : State) (hub qp : Nat) (first last : Bool) (data : List Byte) : State × Landing :=
  match s.resvCarve hub, s.water hub with
  | some c, some _ =>
    let r := s.reservoir hub
    let r? : Option Resv :=
      if first then
        (resvNext r c.size).map fun a =>
          { r with ring := r.ring ++ [{ start := a, qp := qp }], pos := (a + resvSpan) % c.size }
      else some r
    match r? with
    | none => (s.count R.DEMUX_RES_OVERFLOW_COUNT 1 hub, .noRoom)
    | some r =>
      match r.opened qp with
      | none => (s, .noMessage)
      | some k =>
        let n := data.length
        if k.bytes + n > resvMost then (s.resvUpdate hub r, .tooLong)
        else
          let s := (s.store { die := hub, part := none } (c.base + k.start + k.bytes) data).1
          let r := { r with ring := r.ring.map (fun (x : RChunk) =>
            if x.start = k.start then { x with bytes := k.bytes + n, landed := last } else x) }
          (s.resvUpdate hub r, .lands)
  | _, _ => (s.count R.DEMUX_RES_OVERFLOW_COUNT 1 hub, .noRoom)

/-- R183, R185: a SEND ends without all its packets, or in error: none of it is kept, and its reservation is freed. -/
def State.resvAbort (s : State) (hub qp : Nat) : State :=
  match (s.reservoir hub).opened qp with
  | none => s
  | some k =>
    let r := s.reservoir hub
    let r := { r with ring := r.ring.map (fun (x : RChunk) => if x.start = k.start then { x with landed := true, complete := true } else x) }
    s.resvUpdate hub (r.release k.start)

/-- R189: the demux nodes of a hub with their SOURCE ranges. -/
def State.demuxFor (s : State) (hub source : Nat) : Option NodeCfg :=
  (s.nodes hub).find? (fun n => n.block == 0x30 && decide (n.par 0x10 2 ≤ source) && decide (source ≤ n.par 0x12 2))

/-- SOURCE of a chunk in the reservoir. -/
def State.chunkSource (s : State) (base : Nat) (k : RChunk) : Nat := leVal (s.mem.read (base + k.start) 2)

/-- R189: discard and count the complete chunks whose SOURCE lies in no range, while the region runs. -/
def State.dropUnbound (s : State) (hub : Nat) : State :=
  match s.resvCarve hub with
  | some c =>
    if s.region (ingestRegion hub) = 0 then
      let r := s.reservoir hub
      let un := r.ring.filter (fun k => k.complete && !k.released && (s.demuxFor hub (s.chunkSource c.base k)).isNone)
      if un.isEmpty then s
      else
        let s := s.count R.DEMUX_RES_UNBOUND_COUNT un.length hub
        s.resvUpdate hub (un.foldl (fun (r : Resv) (k : RChunk) => r.release k.start) r)
    else s
  | none => s

/-- R185: a message whose last packet has landed becomes a chunk; true where there is one. -/
def State.resvComplete (s : State) (hub qp : Nat) : State × Bool :=
  let r := s.reservoir hub
  match r.ring.find? (fun k => k.qp == qp && k.landed && !k.complete) with
  | none => (s, false)
  | some k =>
    let r : Resv := { r with
      order := r.order + 1
      ring := r.ring.map (fun (x : RChunk) => if x.start = k.start then { x with complete := true, order := r.order } else x) }
    (((s.resvUpdate hub r).count R.DEMUX_RES_CHUNKS_COUNT 1 hub).dropUnbound hub, true)

/-! ### Transport streams (R188, R190) -/

/-- The codec code (R192) of an MPEG-2 stream type, with the descriptor tags its entry carries (ISO/IEC 13818-1). -/
def esCodec (stype : Nat) (tags : List Nat) : Nat :=
  match stype with
  | 0x02 => 1 | 0x1B => 2 | 0x24 => 3 | 0x33 => 4 | 0x21 => 6 | 0x32 => 7
  | 0x03 => 8 | 0x04 => 8 | 0x0F => 9 | 0x11 => 9 | 0x81 => 0xA | 0x87 => 0xB
  | 0x06 => if tags.contains 0x6A then 0xA else if tags.contains 0x7A then 0xB else if tags.contains 0x05 then 5 else 0
  | _ => 0

/-- R190: the kind of an elementary stream: 0 video, 1 audio, 2 teletext, 3 DVB subtitle, 5 any other. -/
def esKind (stype : Nat) (tags : List Nat) : Nat :=
  if stype = 6 ∧ tags.contains 0x56 then 2
  else if stype = 6 ∧ tags.contains 0x59 then 3
  else
    let c := esCodec stype tags
    if 1 ≤ c ∧ c ≤ 7 then 0 else if 8 ≤ c then 1 else 5

/-- Descriptor tags of a loop, and the language of an ISO 639 (0x0A), teletext or subtitle descriptor. -/
def descTags : Nat → List Byte → List Nat × Nat
  | 0, _ => ([], 0)
  | k + 1, t :: n :: rest =>
    let (ts, l) := descTags k (rest.drop n.toNat)
    let here := if t = 0x0A ∨ t = 0x56 ∨ t = 0x59 then leVal (rest.take 3) else 0
    (t.toNat :: ts, if here ≠ 0 then here else l)
  | _, _ => ([], 0)

/-- The streams of a PMT's loop. -/
def pmtLoop : Nat → List Byte → List TsEs
  | 0, _ => []
  | k + 1, l =>
    if l.length < 5 then []
    else
      let st := (nth l 0 0).toNat
      let pid := beVal ((l.drop 1).take 2) % 8192
      let n := beVal ((l.drop 3).take 2) % 4096
      let (tags, lang) := descTags n ((l.drop 5).take n)
      ⟨pid, st, esKind st tags, esCodec st tags, lang⟩ :: pmtLoop k (l.drop (5 + n))

/-- The program and PMT PID in a PAT's loop; program 0 takes the first. -/
def patLoop (prog : Nat) : Nat → List Byte → Option (Nat × Nat)
  | 0, _ => none
  | k + 1, l =>
    if l.length < 4 then none
    else
      let n := beVal (l.take 2)
      if n ≠ 0 ∧ (prog = 0 ∨ n = prog) then some (n, beVal ((l.drop 2).take 2) % 8192)
      else patLoop prog k (l.drop 4)

/-- Read a complete section of the PAT or of the program's PMT: one that is current and whose CRC_32 holds. A new version of the
PAT is searched anew, through all its sections; a PMT is read where its version is new. -/
def TsState.section (t : TsState) (prog pid : Nat) (b : List Byte) : TsState :=
  let body := (b.take (b.length - 4)).drop 8
  let x := (nth b 5 0).toNat
  let ver := bits x 1 5
  if b.length < 12 || !bit x 0 || crcMpeg b != 0 then t
  else if pid = 0 ∧ nth b 0 0 = 0 then
    let t : TsState := if t.patVer = some ver then t else { t with patVer := some ver, pmt := none, ver := none }
    match t.pmt, patLoop prog body.length body with
    | none, some (n, p) => { t with pmt := some p, prog := n }
    | _, _ => t
  else if t.pmt = some pid ∧ nth b 0 0 = 2 ∧ beVal ((b.drop 3).take 2) = t.prog then
    if t.ver = some ver then t
    else
      let pil := beVal ((body.drop 2).take 2) % 4096
      { t with ver := some ver, es := pmtLoop body.length (body.drop (4 + pil)) }
  else t

/-- The length of a section, by its header. -/
def sectionLen (b : List Byte) : Nat := 3 + beVal ((b.drop 1).take 2) % 4096

/-- Read the complete sections at the front of a PSI PID's bytes, with fuel: what is left is the start of a section, or
nothing from the stuffing on. -/
def TsState.sections (t : TsState) (prog pid : Nat) : Nat → List Byte → TsState × List Byte
  | 0, b => (t, b)
  | k + 1, b =>
    if b.isEmpty || nth b 0 0 == 0xFF then (t, [])
    else if b.length < 3 ∨ b.length < sectionLen b then (t, b)
    else (t.section prog pid (b.take (sectionLen b))).sections prog pid k (b.drop (sectionLen b))

/-- A selector of a demux node (R190): its port, KIND, NTH, PID, LANG and DIST. -/
structure Sel where
  port : Nat
  kind : Nat
  nth : Nat
  pid : Nat
  lang : Nat
  dist : Nat
  deriving DecidableEq, Repr

def NodeCfg.sels (c : NodeCfg) : List Sel :=
  (List.range (c.par 0x19 1)).map fun i =>
    let x := c.par (0x20 + 8 * i) 8
    ⟨i, bits x 0 4, bits x 4 4, bits x 8 13, bits x 24 24, bits x 48 4 + 1⟩

/-- The elementary stream a selector names in a PMT. -/
def Sel.resolve (x : Sel) (es : List TsEs) : Option TsEs :=
  let m := es.filter fun e => (if x.kind = 4 then e.pid == x.pid else e.kind == x.kind) && (x.lang == 0 || e.lang == x.lang)
  m[x.nth]?

def TsState.pidOf (t : TsState) (pid : Nat) : TsPid := (t.pids.find? (fun p => p.pid == pid)).getD { pid := pid }
def TsState.putPid (t : TsState) (p : TsPid) : TsState :=
  if t.pids.any (fun q => q.pid == p.pid) then { t with pids := t.pids.map (fun q => if q.pid = p.pid then p else q) }
  else { t with pids := t.pids ++ [p] }

/-- The 33-bit time stamp of five PES header bytes. -/
def pesTime (b : List Byte) : Nat :=
  let x := beVal (b.take 5)
  bits x 33 3 * 2 ^ 30 + bits x 17 15 * 2 ^ 15 + bits x 1 15

/-- Stream ids whose PES packets carry no optional header (ISO/IEC 13818-1). -/
def pesPlain (id : Nat) : Bool := [0xBC, 0xBE, 0xBF, 0xF0, 0xF1, 0xF2, 0xF8, 0xFF].contains id

/-- A PES packet's PTS (with PTS_VALID, R179), DTS and payload, and whether its start code is there. A packet with a length ends
there. PRESUMED (log 33). -/
def pesParts (b : List Byte) : Nat × Nat × List Byte × Bool :=
  let len := beVal ((b.drop 4).take 2)
  let b := if len = 0 then b else b.take (6 + len)
  let ok := decide (6 ≤ b.length) && beVal (b.take 3) == 1
  if !ok then (0, 0, b, false)
  else if pesPlain (nth b 3 0).toNat then (0, 0, b.drop 6, true)
  else
    let f := bits (nth b 7 0).toNat 6 2
    let h := (nth b 8 0).toNat
    let pts := if f ≥ 2 then pesTime (b.drop 9) + 2 ^ 33 else 0
    let dts := if f = 3 then pesTime (b.drop 14) + 2 ^ 33 else pts
    (pts, dts, b.drop (9 + h), true)

/-- What the demux makes of an item while it reads: the item, units to emit as (selector or none for ES_PORT, stream, PES, ERROR, KEY), and codes recorded. -/
structure DemuxRun where
  t : TsState
  units : List (TsEs × List Byte × Bool × Bool) := []
  codes : List Nat := []

/-- Close the PES in assembly on a PID: one ES unit per PES packet (R188). -/
def DemuxRun.close (d : DemuxRun) (pid : Nat) : DemuxRun :=
  let p := d.t.pidOf pid
  match p.run, d.t.es.find? (fun e => e.pid == pid) with
  | true, some e =>
    { d with units := d.units ++ [(e, p.buf, p.err, p.key)], t := d.t.putPid { p with run := false, buf := [], err := false } }
  | _, _ => { d with t := d.t.putPid { p with run := false, buf := [] } }

/-- One transport packet (R188). -/
def DemuxRun.packet (d : DemuxRun) (prog : Nat) (b : List Byte) : DemuxRun :=
  let b1 := (nth b 1 0).toNat
  let b3 := (nth b 3 0).toNat
  let pid := (b1 % 32) * 256 + (nth b 2 0).toNat
  let pusi := bit b1 6
  if bits b3 6 2 ≠ 0 then { d with codes := d.codes ++ [3] }
  else
    let afc := bits b3 4 2
    let afl := if afc ≥ 2 then (nth b 4 0).toNat + 1 else 0
    let aff := if afc ≥ 2 && afl > 1 then (nth b 5 0).toNat else 0
    let pay := if afc = 1 ∨ afc = 3 then b.drop (4 + afl) else []
    if pay.isEmpty || pid == 0x1FFF then d
    else
      let p := d.t.pidOf pid
      let cc := b3 % 16
      let dup := p.cc == some cc
      let gap := match p.cc with | some c => !dup && cc != (c + 1) % 16 && !bit aff 7 | none => false
      if dup then d
      else
        let p := { p with cc := some cc, err := p.err || (gap && p.run) }
        let d := { d with t := d.t.putPid p, codes := if gap then d.codes ++ [2] else d.codes }
        if pid = 0 ∨ d.t.pmt = some pid then
          -- the bytes before the pointer's place end the section in assembly
          let ptr := (nth pay 0 0).toNat
          let old := if !p.run then [] else if pusi then p.buf ++ (pay.drop 1).take ptr else p.buf ++ pay
          let (t, left) := d.t.sections prog pid (old.length + 1) old
          let new := if pusi then pay.drop (1 + ptr) else left
          let (t, left) := if pusi then t.sections prog pid (new.length + 1) new else (t, left)
          { d with t := t.putPid { p with buf := left, run := !left.isEmpty } }
        else if pusi then
          let d := d.close pid
          { d with t := d.t.putPid { (d.t.pidOf pid) with buf := pay, run := true, err := false, key := bit aff 6 } }
        else if p.run then { d with t := d.t.putPid { p with buf := p.buf ++ pay } }
        else d

/-- Take the next packet of the bytes not yet cut, or look one place further for sync (R188): none where the bytes do not hold it. -/
def DemuxRun.one (d : DemuxRun) (prog : Nat) : Option DemuxRun :=
  let l := d.t.left
  if d.t.need = 0 then
    match l with
    | [] => none
    | b :: _ =>
      if b ≠ 0x47 then some { d with t := { d.t with need := 3 }, codes := d.codes ++ [1] }
      else if (l.take 188).length < 188 then none
      else some (({ d with t := { d.t with left := l.drop 188 } } : DemuxRun).packet prog (l.take 188))
  else
    let n := 188 * (d.t.need - 1)
    if (l.take (n + 1)).length ≤ n then none
    else if (List.range d.t.need).all (fun i => nth l (188 * i) 0 == 0x47) then
      some { d with t := { d.t with need := 0 } }
    else some { d with t := { d.t with left := l.drop 1 } }

/-- R190: free entries of the queue an output port feeds. -/
def State.freeSlots (s : State) (hub : Nat) (c : NodeCfg) (port : Nat) : Nat :=
  match (s.edges hub).find? (fun g => g.src == c.node && g.sport == port) with
  | some g => g.depth - (s.inq hub g.dst g.dport).length
  | none => 0

/-- R190: the port of a new item on a selector: the most free entries, the lowest-numbered of equals. -/
def State.pickPort (s : State) (hub : Nat) (c : NodeCfg) (x : Sel) : Nat :=
  (List.range x.dist).foldl (fun best i =>
    if s.freeSlots hub c (x.port + i) > s.freeSlots hub c best then x.port + i else best) x.port

/-- The emission of one ES unit of an item on a port (R179, R195). -/
def esUnit (i : IItem) (port codec stype pid lang pts dts flags : Nat) (data : List Byte) : IItem × Emis :=
  let (i, f) := i.mark port flags
  let e : SEntry := ⟨0, 0, i.item, i.nextIndex port, i.source, 1, f, pts⟩
  let tail := leBytes 1 stype ++ leBytes 1 0 ++ leBytes 2 pid ++ leBytes 3 lang ++ leBytes 5 0 ++ leBytes 8 dts
  ({ i with next := nset port (i.nextIndex port + 1) i.next, codec := nset port codec i.codec },
   { port := port, e := e, body := bodyHeader e codec tail ++ data })

/-- The units that a PES packet gives: every selector that names its stream carries it on the item's port; they leave together. -/
def State.pesUnits (s : State) (hub : Nat) (c : NodeCfg) (i : IItem) (u : TsEs × List Byte × Bool × Bool) : IItem × List Emis :=
  let (es, pes, err, key) := u
  let (pts, dts, data, ok) := pesParts pes
  let f := b2n (err || !ok) * 4 + b2n key * 64
  let r := (c.sels.filter (fun x => x.resolve i.ts.es == some es)).foldl
    (fun (acc : IItem × List Emis) x =>
      let i := acc.1
      let port := match nfind x.port i.ports with | some p => p | none => s.pickPort hub c x
      let i := { i with ports := nset x.port port i.ports }
      let (i, m) := esUnit i port es.codec es.stype es.pid es.lang pts dts f data
      (i, acc.2 ++ [m])) (i, [])
  (r.1, tie r.2)

/-- The units of several PES packets. -/
def State.tsUnits (s : State) (hub : Nat) (c : NodeCfg) (i : IItem) : List (TsEs × List Byte × Bool × Bool) → IItem × List Emis
  | [] => (i, [])
  | u :: t =>
    let r := s.pesUnits hub c i u
    let rest := s.tsUnits hub c r.1 t
    (rest.1, r.2 ++ rest.2)

/-- Mark the last emission on each port (LAST, and more flags). -/
def markLasts (flags : Nat) (l : List Emis) : List Emis :=
  let ports := (l.map (·.port)).eraseDups
  ports.foldl (fun l p =>
    match (l.reverse.findIdx? (fun m => m.port == p)) with
    | some k =>
      let j := l.length - 1 - k
      match l[j]? with
      | some m => l.set j { m with e := { m.e with flags := orFlags m.e.flags flags } }
      | none => l
    | none => l) l

/-- R189: the end of an item at a demux, after the units given: the PES in assembly are emitted as its last entries. A port that
carried the item and has none gets an empty unit, so that its consumer learns of the end (log 84). -/
def State.demuxEnd (s : State) (hub : Nat) (c : NodeCfg) (i : IItem) (pre : List Emis) (flags : Nat) : List Emis :=
  let d : DemuxRun := i.ts.pids.foldl (fun d p => if p.run then d.close p.pid else d) { t := i.ts }
  let r := s.tsUnits hub c i d.units
  let out := pre ++ r.2
  let bare := r.1.begun.filter (fun p => !out.any (fun m => m.port == p))
  let close := bare.map fun p => (esUnit r.1 p (ngetD r.1.codec p 0) 0 0 0 0 0 0 []).2
  markLasts (orFlag flags flagLast) (out ++ close)

/-- The parts of a chunk header (R183): SOURCE, FLAGS, ITEM, SEQ, and whether a reserved field is nonzero. -/
def chunkHead (b : List Byte) : Nat × Nat × Nat × Nat × Bool :=
  (fieldAt b 0 2, fieldAt b 2 1, fieldAt b 4 4, fieldAt b 8 4,
   fieldAt b 2 1 / 16 != 0 || fieldAt b 3 1 != 0 || fieldAt b 0xC 4 != 0)

/-- A demux works through the chunk in hand, one transport packet at a time, until a unit must wait or the chunk is done (R178,
R206), with fuel; a LAST chunk ends its item. -/
def State.demuxGo (s : State) (hub : Nat) (c : NodeCfg) : Nat → State
  | 0 => s
  | k + 1 =>
    let n := s.inode hub c.node
    match n.chunk with
    | none => s
    | some h =>
      if !n.held.isEmpty then s
      else
        match n.item h.item h.source with
        | none => s.putNode hub c.node { n with chunk := none }
        | some i =>
          match ({ t := i.ts } : DemuxRun).one (c.par 0x14 2) with
          | some d =>
            let s := d.codes.foldl (fun s k => s.engErr hub c k h.source h.item) s
            let (i, out) := s.tsUnits hub c { i with ts := d.t } d.units
            ((s.putNode hub c.node (n.putItem i)).flush hub c out).demuxGo hub c k
          | none =>
            let n := { n with chunk := none }
            if h.last then (s.putNode hub c.node (n.dropItem h.item h.source)).flush hub c (s.demuxEnd hub c i [] 0)
            else s.putNode hub c.node n

/-- A demux takes a chunk of its node (R188, R189): an ES chunk is one unit; a transport-stream chunk is copied into the work
area and worked through. -/
def State.demuxChunk (s : State) (hub : Nat) (c : NodeCfg) (b : List Byte) : State :=
  let (source, fl, item, seq, bad) := chunkHead b
  let pay := b.drop 16
  let last := bit fl 1
  let n := s.inode hub c.node
  -- a FIRST chunk opens its item, ending the oldest one beyond ACTIVE_MAX
  let (s, n, ev) :=
    if bit fl 0 then
      let n := n.dropItem item source
      if n.items.length ≥ c.par 0x18 1 then
        match n.items with
        | o :: _ => (s.engErr hub c 7 o.source o.item, n.dropItem o.item o.source, s.demuxEnd hub c o [] 4)
        | [] => (s, n, [])
      else (s, n, [])
    else (s, n, [])
  let n := if bit fl 0 then n.putItem (n.open item source) else n
  match n.item item source with
  | none => ((s.engErr hub c 8 source item).eng hub c 2 1).putNode hub c.node n |>.flush hub c ev
  | some i =>
    let disc := bit fl 3 || bad || seq != i.seq
    let i : IItem := { i with seq := seq + 1, pend := if disc then orFlag i.pend flagDiscont else i.pend }
    if bit fl 2 then
      let (i, m) := esUnit i (c.par 0x16 1) (c.par 0x17 1) 0 0 0 0 0 0 pay
      if last then (s.putNode hub c.node (n.dropItem item source)).flush hub c (ev ++ s.demuxEnd hub c i [m] 0)
      else (s.putNode hub c.node (n.putItem i)).flush hub c (ev ++ [m])
    else
      let i : IItem := { i with ts := { i.ts with left := i.ts.left ++ pay } }
      let n := { n.putItem i with chunk := some ⟨item, source, last⟩ }
      ((s.putNode hub c.node n).flush hub c ev).demuxGo hub c (2 * i.ts.left.length + 4)

/-- R189: the complete chunks of a reservoir that a demux node is to take. -/
def State.demuxMine (s : State) (hub : Nat) (c : NodeCfg) : List RChunk :=
  match s.resvCarve hub with
  | none => []
  | some v => (s.reservoir hub).ring.filter fun k => k.complete && !k.released &&
      (match s.demuxFor hub (s.chunkSource v.base k) with | some d => d.node == c.node | none => false)

/-- The chunk of a list that arrived first. -/
def oldest (l : List RChunk) : Option RChunk := l.find? (fun k => l.all (fun j => decide (k.order ≤ j.order)))

/-- DEMUX_CHUNK: the demux reads the oldest complete chunk bound to its node, copies it, releases it, and parses it, emitting its
ES units, until one must wait (R184, R206). -/
def demuxChunkEff (hub inst : Nat) (s : State) : State :=
  let s := if isHub hub then s.dropUnbound hub else s
  match s.nodeOf hub 0x30 inst, s.resvCarve hub with
  | some c, some v =>
    if !s.mayWork hub c || s.region (ingestRegion hub) != 0 || !s.linkedTo hub [v.base] then s
    else
      match oldest (s.demuxMine hub c) with
      | none => s
      | some k =>
        let (s, x) := s.load { die := hub, part := some (s.partOfEngine hub 0x30 inst), resv := true } (v.base + k.start) k.bytes
        let s := (s.eng hub c 0 1).resvUpdate hub ((s.reservoir hub).release k.start)
        match x with
        | .ok b => s.demuxChunk hub c b
        | .error f =>
          let src := s.chunkSource v.base k
          let item := leVal (s.mem.read (v.base + k.start + 4) 4)
          (s.bodyFault hub c f (v.base + k.start) src item).dropUnit hub c item src
  | _, _ => s

/-! ### Video decoders (R191 to R197) -/

/-- A number of quarters of a mean that need not be whole: the quotient, or one more where the spec leaves the rounding open. -/
def State.openDiv (s : State) (a b : Nat) : State × Nat :=
  if b = 0 then (s, 0)
  else if a % b = 0 then (s, a / b)
  else let (k, s) := s.tick; (s, a / b + Config.free k 0 % 2)

/-- R197: the blocks of a frame in raster order, as many as it has. -/
def frameGrid (f : VFrame) : List VBlock := (List.range (f.across * f.down)).map fun i => nth f.blocks i ⟨0, 0, 0, 0⟩

/-- R197: a block's vector: zero for intra blocks. -/
def blockMv (b : VBlock) : Int × Int := if b.type % 4 = 0 then (0, 0) else (b.mvx, b.mvy)

/-- R197: MEAN_MV and SKIP_FRAC of a frame's blocks. -/
def State.frameSummary (s : State) (f : VFrame) : State × Nat × Nat :=
  let g := (frameGrid f)
  let mv := (g.map (fun b => (blockMv b).1.natAbs + (blockMv b).2.natAbs)).sum
  let skip := (g.filter (fun b => b.type % 4 == 2)).length
  let (s, m) := s.openDiv mv g.length
  let (s, k) := s.openDiv (skip * 65536) g.length
  (s, min m 65535, min k 65535)

/-- R197: the FP32 of a sum of squares. -/
def energyF32 (n : Nat) : W32 := toF32 (FV.ofInt n)

/-- R197: ENERGY of a block, 256 times the base-2 logarithm of one more than its sum of squares: exact at powers of two, else the
whole number below it or the next, as the spec states no rounding; `r` chooses. -/
def blockEnergy (sq r : Nat) : Nat :=
  let q := Nat.log2 ((1 + sq) ^ 256)
  min 65535 (if 2 ^ Nat.log2 (1 + sq) = 1 + sq then q else q + r % 2)

/-- R195: bytes of a sample, and of a row of each plane, padded. -/
def frameSampleBytes (f : VFrame) : Nat := if f.sample = 1 then 1 else 2
def frameRowBytes (f : VFrame) (p : Nat) : Nat :=
  match f.dims[p]? with | some d => roundUp (d.1 * (frameSampleBytes f)) 64 | none => 0

/-- R195: the data of a frame: its planes, each row padded; a 16-bit container holds the value in its low DEPTH bits. -/
def frameData (f : VFrame) : List Byte :=
  (f.dims.zipIdx).flatMap fun (d, p) => (List.range d.2).flatMap fun y =>
    pad64 ((List.range d.1).flatMap fun x => leBytes (frameSampleBytes f) (nth (nth f.planes p []) (y * d.1 + x) 0 % 2 ^ f.depth))

/-- R196: is a sample of a plane damaged? -/
def frameDamaged (f : VFrame) (p i : Nat) : Bool :=
  f.damage.any (fun d => d.1 == p && decide (d.2.1 ≤ i) && decide (i < d.2.1 + d.2.2))

/-- R196, CONCEAL: damaged samples take those of the previous output frame at their places. Where there is no such frame, or one
of another form, the spec states no value: they are free. -/
def State.conceal (s : State) (prev : Option VFrame) (f : VFrame) : State × VFrame :=
  let (key, s) := s.tick
  let from' : Option VFrame := match prev with
    | some g => if g.dims = f.dims ∧ g.depth = f.depth then some g else none
    | none => none
  (s, { f with planes := (f.planes.zipIdx).map fun (pl, p) => (pl.zipIdx).map fun (v, i) =>
    if frameDamaged f p i then
      (match from' with | some g => nth (nth g.planes p []) i 0 | none => Config.free key (p * 2 ^ 32 + i) % 2 ^ f.depth)
    else v })

/-- Codecs 6 and 7 (JPEG 2000, JPEG XS) carry no side channel (R197). -/
def noSide (codec : Nat) : Bool := codec == 6 || codec == 7

/-- R193: is a picture within the limits? -/
def pictureOk (f : VFrame) : Bool :=
  decide (f.width ≤ 4096) && decide (f.height ≤ 2304) && decide (f.width * f.height ≤ 8912896)

/-- R192: the codec of a profile, and the levels accepted; none for a profile that is not supported. Baseline streams of H.264
are decoded where they keep off the tools that R192 excludes. -/
def profileTakes : VProfile → Option (Nat × (Nat → Bool))
  | .mpeg2Main | .mpeg2Y422 => some (1, fun l => l == 20 || l == 40)
  | .avcBaseline | .avcConstrainedBaseline | .avcMain | .avcHigh | .avcHigh422Intra => some (2, fun l => decide (l ≤ 52))
  | .hevcMain | .hevcMain10 | .hevcMain422x10 => some (3, fun l => decide (l ≤ 52))
  | .vvcMain10 => some (4, fun l => decide (l ≤ 52))
  | .av1Main => some (5, fun l => decide (l ≤ 53))
  | .j2kBroadcast => some (6, fun l => decide (l ≤ 50))
  | .jxsLight422x10 | .jxsMain422x10 | .jxsMain444x12 | .jxsHigh444x12 => some (7, fun l => decide (l ≤ 30))
  | .mpeg2High | .mpeg2Snr | .mpeg2Spatial | .avcHigh10 | .avcHigh422 | .hevcMain12 | .hevcRext444 | .hevcScc | .hevcLayered
  | .vvcLayered | .av1High | .av1Professional | .other => none

/-- R192: the sample forms that the table names beside a profile: AV1 has 8 or 10 bits in 4:2:0 or monochrome, JPEG 2000 up to
12 bits in 4:2:2 or 4:4:4. -/
def formOk (codec : Nat) (f : VFrame) : Bool :=
  if codec = 5 then (f.depth == 8 || f.depth == 10) && decide (f.layout % 4 ≤ 1)
  else if codec = 6 then decide (f.depth ≤ 12) && decide (2 ≤ f.layout % 4)
  else true

/-- R192, R193: does a decoder that accepts these codecs decode the unit, whose entry names this codec? -/
def unitOk (codecs codec : Nat) (u : VUnit) : Bool :=
  bit codecs codec && !u.tools && u.within && u.frames.all (fun f => pictureOk f && formOk codec f) &&
  (match profileTakes u.profile with | some (k, levels) => k == codec && levels u.level | none => false)

/-- R197: the data of a side-channel record. -/
def sideData (f : VFrame) (key : Nat) : List Byte :=
  ((frameGrid f).zipIdx).flatMap (fun (b, i) => leBytes 2 (ofInt 16 (blockMv b).1) ++ leBytes 2 (ofInt 16 (blockMv b).2) ++
    leBytes 2 (blockEnergy b.sq (Config.free key i)) ++ leBytes 2 (b.type % 4))

/-- The frame of one output frame, with its side-channel record after it (R195 to R197): they leave together (R206). -/
def State.frameOut (s : State) (c : NodeCfg) (i : IItem) (codec : Nat) (f : VFrame) (flags index : Nat) : State × List Emis :=
  let (s, mean, skip) := if noSide codec then (s, 0, 0) else s.frameSummary f
  let en := energyF32 ((frameGrid f).map (·.sq)).sum
  let red := !noSide codec && !bit flags flagKey && decide (skip ≥ c.par 0x14 2) && c.par 0x18 4 != 0 &&
    !f32Lt (BitVec.ofNat 32 (c.par 0x18 4)) en
  let flags := if red then orFlag flags flagRedundant else flags
  let e : SEntry := ⟨0, 0, i.item, index, i.source, 2, flags, f.pts⟩
  let sum := leBytes 2 mean ++ leBytes 2 skip ++ leBytes 4 (if noSide codec then 0 else en.toNat)
  let tail := leBytes 2 f.width ++ leBytes 2 f.height ++ leBytes 1 f.layout ++ leBytes 1 f.sample ++ leBytes 1 f.depth ++
    leBytes 1 f.prim ++ leBytes 1 f.transfer ++ leBytes 1 f.matrix ++ leBytes 1 (f.dims.length + 128 * b2n f.rgb) ++ leBytes 1 0 ++
    leBytes 4 (frameRowBytes f 0) ++ leBytes 4 (frameRowBytes f 1) ++ leBytes 4 (frameRowBytes f 2) ++ sum ++ leBytes 2 f.nits ++ leBytes 1 f.range
  let frame : Emis := { port := 0, e := e, body := bodyHeader e codec tail ++ frameData f }
  if bit (c.par 0x12 1) 0 && !noSide codec then
    let (key, s) := s.tick
    let e := { e with kind := 3 }
    let side := bodyHeader e codec (leBytes 2 f.across ++ leBytes 2 f.down ++ leBytes 20 0 ++ sum) ++ sideData f key
    (s, tie [frame, { port := 1, e := e, body := side }])
  else (s, [frame])

/-- One decoded frame of an item: ERR_POLICY applied (R196), the frame held back behind the one before it. -/
def State.frameStep (s : State) (hub : Nat) (c : NodeCfg) (codec err unitFlags : Nat) (i : IItem) (f : VFrame) :
    State × IItem × List Emis :=
  let pol := bits (c.par 0x12 1) 2 2
  let hurt := err != 0 && !f.damage.isEmpty
  let index := i.nextIndex 0
  let i := { i with next := nset 0 (index + 1) i.next }
  let s := if hurt then s.engErr hub c err i.source i.item else s
  if hurt && pol == 1 then (s, i, [])
  else if hurt && pol == 2 then (s, { i with resync := true }, [])
  else if i.resync && !f.key then (s, i, [])
  else
    let fl := unitFlags % 64 / 32 * 32 + b2n f.key * 64 + (if i.resync then 32 else 0) + (if hurt then 16 else 0)
    let (s, f) := if hurt then s.conceal i.prev f else (s, f)
    let (i, fl) := { i with resync := false }.mark 0 fl
    let (s, out) := s.frameOut c i codec f fl index
    (s, { i with last := out, prev := some f }, i.last)

/-- R196: a unit of an item is lost, or gives no picture for its error: DROP skips a number, RESYNC waits for the next
random-access point. -/
def IItem.lost (i : IItem) (policy : Nat) : IItem :=
  if policy = 1 then { i with next := nset 0 (i.nextIndex 0 + 1) i.next }
  else if policy = 2 then { i with resync := true }
  else i

/-- What an item held back, with flags added. -/
def IItem.finish (i : IItem) (flags : Nat) : List Emis :=
  i.last.map fun m => { m with e := { m.e with flags := orFlags m.e.flags flags } }

/-- An item a decoder has ended: its later units are discarded (R191, R193). -/
def INode.isEnded (n : INode) (item source : Nat) : Bool := n.ended.contains (item, source)

/-- A decoder works through the ES unit in hand, one frame at a time, until one must wait or the unit is done (R178, R206),
with fuel; the unit with LAST ends its item. -/
def State.vdecGo (s : State) (hub : Nat) (c : NodeCfg) : Nat → State
  | 0 => s
  | k + 1 =>
    let n := s.inode hub c.node
    match n.unit with
    | none => s
    | some r =>
      if !n.held.isEmpty then s
      else
        let i := n.open r.e.item r.e.source
        match r.frames with
        | f :: t =>
          let (s, i, out) := s.frameStep hub c r.codec r.error r.e.flags i f
          let n := { n.putItem i with unit := some { r with frames := t } }
          ((s.putNode hub c.node n).flush hub c out).vdecGo hub c k
        | [] =>
          let last := bit r.e.flags flagLast
          let (i, ud) :=
            if bit (c.par 0x12 1) 1 && !r.userData.isEmpty then
              let (i, fl) := i.mark 2 (b2n last * 2)
              let ue : SEntry := ⟨0, 0, i.item, i.nextIndex 2, i.source, 4, fl, r.e.pts⟩
              ({ i with next := nset 2 (i.nextIndex 2 + 1) i.next },
               [({ port := 2, e := ue, body := bodyHeader ue r.codec [] ++ r.userData } : Emis)])
            else (i, [])
          let n := { n with unit := none }
          if last then (s.putNode hub c.node (n.dropItem r.e.item r.e.source)).flush hub c (ud ++ i.finish 2)
          else (s.putNode hub c.node (n.putItem i)).flush hub c ud

/-- R207: what the items of a node held back is emitted, as nothing more can follow. -/
def State.letGo (s : State) (hub : Nat) (c : NodeCfg) : State :=
  let n := s.inode hub c.node
  (s.putNode hub c.node { n with items := n.items.map (fun i => { i with last := [] }) }).flush hub c (n.items.flatMap (·.last))

/-- VDEC_UNIT: the decoder takes its next ES unit and emits what becomes ready: `u` is what the codec's standard makes of it. -/
def vdecUnitEff (hub inst : Nat) (u : VUnit) (s : State) : State :=
  match s.nodeOf hub 0x31 inst with
  | none => s
  | some c =>
    if !s.mayWork hub c then s
    else if s.letsGo hub then s.letGo hub c
    else
      match s.take hub c 0 with
      | (s, none) => s
      | (s, some (e, x)) =>
        let n := s.inode hub c.node
        let last := bit e.flags flagLast
        let n := if bit e.flags flagFirst then { n with ended := n.ended.erase (e.item, e.source) } else n
        if n.isEnded e.item e.source then
          let n := if last then { n with ended := n.ended.erase (e.item, e.source) } else n
          (if x.isSome then s.eng hub c 2 1 else s).putNode hub c.node n
        else
          match x with
          | none =>
            let i := (n.open e.item e.source).lost (bits (c.par 0x12 1) 2 2)
            if (n.item e.item e.source).isNone then s.putNode hub c.node n
            else if last then (s.putNode hub c.node (n.dropItem e.item e.source)).flush hub c (if i.dead then [] else i.finish (orFlags owed 2))
            else s.putNode hub c.node (n.putItem i)
          | some b =>
            let fresh := (n.item e.item e.source).isNone
            -- a fifth item ends the oldest held one (R191)
            let (s, n, ev) :=
              if fresh && decide (n.items.length ≥ 4) then
                match n.items with
                | o :: _ =>
                  (s.engErr hub c 7 o.source o.item,
                   { (n.dropItem o.item o.source) with ended := (o.item, o.source) :: n.ended },
                   if o.dead then [] else o.finish 6)
                | [] => (s, n, [])
              else (s, n, [])
            let i := n.open e.item e.source
            let codec := fieldAt b 0x11 1
            if i.dead then
              let n := if last then n.dropItem e.item e.source else n
              ((s.eng hub c 2 1).putNode hub c.node n).flush hub c ev
            else if !unitOk (c.par 0x10 2) codec u then
              let s := s.engErr hub c 5 e.source e.item
              let n := if last then n.dropItem e.item e.source else n.putItem { i with dead := true, last := [] }
              (s.putNode hub c.node n).flush hub c (ev ++ i.finish 6)
            else
              let s := if u.error ≠ 0 ∧ u.frames.all (fun f => f.damage.isEmpty) then s.engErr hub c u.error e.source e.item else s
              let i := if u.error ≠ 0 ∧ u.frames = [] then i.lost (bits (c.par 0x12 1) 2 2) else i
              let n := { n.putItem i with unit := some ⟨e, codec, u.error, u.frames, u.userData⟩ }
              ((s.putNode hub c.node n).flush hub c ev).vdecGo hub c (u.frames.length + 1)

/-! ### Audio and captions (R198, R199) -/

/-- Format code to bytes per sample of audio (R198: 0x0, 0x1 or 0x2). -/
def sampleBytes (f : Nat) : Nat := fmtWidth f / 8

/-- R198: the rate that RATE sets, the channels that CHANNELS leaves, and the bytes of n samples of one channel. -/
def adecRate (c : NodeCfg) (coded : Nat) : Nat :=
  match c.par 0x11 1 with | 1 => 16000 | 2 => 24000 | 3 => 32000 | 4 => 48000 | _ => coded
def adecChannels (c : NodeCfg) (coded : Nat) : Nat :=
  match c.par 0x12 1 with | 1 => 1 | 2 => 2 | _ => min coded 8
def adecBytes (c : NodeCfg) (n : Nat) : Nat := n * sampleBytes (c.par 0x13 1)

/-- The emission of one audio block. -/
def audioEmis (c : NodeCfg) (i : IItem) (codec flags : Nat) (a : ABlock) : IItem × Emis :=
  let ch := adecChannels c a.channels.length
  let size := adecBytes c a.samples
  let plane := (List.range ch).map fun k => pad64 ((nth a.channels k [] ++ List.replicate size 0).take size)
  let (i, f) := i.mark 0 flags
  let e : SEntry := ⟨0, 0, i.item, i.nextIndex 0, i.source, 5, f, a.pts⟩
  let tail := leBytes 4 (adecRate c a.rate) ++ leBytes 1 ch ++ leBytes 1 (c.par 0x13 1) ++ leBytes 2 a.samples ++ leBytes 4 (roundUp size 64)
  ({ i with next := nset 0 (i.nextIndex 0 + 1) i.next }, { port := 0, e := e, body := bodyHeader e codec tail ++ plane.flatten })

/-- A presentation time moved on by n samples at a rate (log 83): the 90 kHz time of the sample, rounded down. -/
def ptsOn (pts n rate : Nat) : Nat :=
  if bit pts 33 then 2 ^ 33 + (pts + n * 90000 / rate) % 2 ^ 33 else pts

/-- The samples of an item that no block holds yet, as a short block of their own. -/
def pcmRest (c : NodeCfg) (i : IItem) : List ABlock :=
  let n := (nth i.pcm 0 []).length / sampleBytes (c.par 0x13 1)
  if n = 0 then [] else [⟨i.pcmRate, i.pcmPts, n, i.pcm⟩]

/-- R198: a decoded frame joins the samples of its item: the blocks of BLOCK_SAMPLES that it completes, and the item after them.
With BLOCK_SAMPLES 0 it is a block itself. Samples at another rate, or on other channels, end the block before them. -/
def pcmBlocks (c : NodeCfg) (i : IItem) (a : ABlock) : IItem × List ABlock :=
  let size := c.par 0x14 2
  if size = 0 then (i, [a])
  else
    let ch := adecChannels c a.channels.length
    let n := adecBytes c a.samples
    let new := (List.range ch).map fun k => (nth a.channels k [] ++ List.replicate n 0).take n
    let joins := i.pcm.length == ch && i.pcmRate == a.rate
    let rest := if joins then [] else pcmRest c i
    let old := if joins then i.pcm else List.replicate ch []
    let r := (nth old 0 []).length / sampleBytes (c.par 0x13 1)
    let all := (List.range ch).map fun k => nth old k [] ++ nth new k []
    let q := (r + a.samples) / size
    let time (at' : Nat) : Nat := if at' < r then i.pcmPts else ptsOn a.pts (at' - r) (adecRate c a.rate)
    let blocks := (List.range q).map fun j =>
      (⟨a.rate, time (j * size), size, all.map (fun p => (p.drop (adecBytes c (j * size))).take (adecBytes c size))⟩ : ABlock)
    ({ i with pcm := all.map (·.drop (adecBytes c (q * size))), pcmRate := a.rate, pcmPts := time (q * size) }, rest ++ blocks)

/-- The emissions of blocks of an item. -/
def audioOut (c : NodeCfg) (codec flags : Nat) (i : IItem) : List ABlock → IItem × List Emis
  | [] => (i, [])
  | a :: t =>
    let r := audioEmis c i codec flags a
    let rest := audioOut c codec flags r.1 t
    (rest.1, r.2 :: rest.2)

/-- R198: the decoded frames of a unit: the item after them, and the blocks they complete. -/
def pcmAll (c : NodeCfg) (i : IItem) : List ABlock → IItem × List ABlock
  | [] => (i, [])
  | a :: t =>
    let r := pcmBlocks c i a
    let rest := pcmAll c r.1 t
    (rest.1, r.2 ++ rest.2)

/-- Mark LAST on the final emission of a list. -/
def lastOf (flags : Nat) : List Emis → List Emis
  | [] => []
  | [m] => [{ m with e := { m.e with flags := orFlags m.e.flags flags } }]
  | m :: t => m :: lastOf flags t

/-- R198: what an audio node makes of a unit: the item after it and the blocks it emits; what the unit's flags say is owed to the
next block where it completes none. With LAST the samples left make a short block, the item's last. -/
def audioUnit (c : NodeCfg) (i : IItem) (codec flags : Nat) (last : Bool) (frames : List ABlock) : IItem × List Emis :=
  let r := pcmAll c i frames
  let blocks := r.2 ++ (if last then pcmRest c r.1 else [])
  let i := if blocks.isEmpty then { r.1 with pend := orFlags r.1.pend flags } else r.1
  let r := audioOut c codec flags i blocks
  (r.1, if last then lastOf 2 r.2 else r.2)

/-- ADEC_AUDIO_BLOCK: an audio node (FUNC 0) takes its next ES unit and emits the blocks it completes; `error` is 0, or the code
recorded for the unit, whose blocks are then marked ERROR. A unit of another codec is UNSUPPORTED and dropped. -/
def adecAudioBlockEff (hub inst error : Nat) (blocks : List ABlock) (s : State) : State :=
  match s.nodeOf hub 0x32 inst with
  | none => s
  | some c =>
    if !s.mayWork hub c || c.par 0x10 1 != 0 then s
    else
      match s.take hub c 0 with
      | (s, none) => s
      | (s, some (e, x)) =>
        let n := s.inode hub c.node
        let last := bit e.flags flagLast
        let codec := match x with | some b => fieldAt b 0x11 1 | none => 0
        let known := decide (8 ≤ codec) && decide (codec ≤ 0xB)
        let err := if !known then 5 else error
        let s := if x.isSome ∧ (err = 4 ∨ err = 5 ∨ err = 6) then s.engErr hub c err e.source e.item else s
        let s := if x.isSome && !known then s.eng hub c 2 1 else s
        let f := e.flags % 64 / 32 * 32 + (if x.isSome && err != 0 then 4 else 0)
        let (i, out) := audioUnit c (n.open e.item e.source) codec f last (if known then blocks else [])
        let n := if last then n.dropItem e.item e.source else n.putItem i
        (s.putNode hub c.node n).flush hub c out

/-- R199: does a caption node take this record from an entry of this kind? Teletext and DVB subtitle units are told apart by the
data_identifier that their payload begins with (PRESUMED, log 33): 0x10 to 0x1F, and 0x20. -/
def capWanted (c : NodeCfg) (kind ident : Nat) (r : CapRec) : Bool :=
  match r.service with
  | 0 => kind == 4 && decide (1 ≤ r.channel) && decide (r.channel ≤ 4) && bit (c.par 0x11 1) (r.channel - 1)
  | 1 => kind == 4 && c.par 0x12 1 != 0 && r.channel == c.par 0x12 1
  | 2 => kind == 1 && ident / 16 == 1 && (if c.par 0x14 2 = 0 then r.sub else r.page == c.par 0x14 2)
  | 3 => kind == 1 && ident == 0x20 && bit (c.par 0x13 1) 0
  | _ => false

/-- R195: the data of a caption record: text, or a colour table of 256 entries and BM_W by BM_H indices. -/
def capData (r : CapRec) : List Byte :=
  let n := 1024 + r.bmW * r.bmH
  if r.service = 3 then (r.text ++ List.replicate n 0).take n else r.text

/-- The emission of a caption record (R195). -/
def capEmis (i : IItem) (flags : Nat) (r : CapRec) : IItem × Emis :=
  let (i, f) := i.mark 0 flags
  let e : SEntry := ⟨0, 0, i.item, i.nextIndex 0, i.source, 6, f, r.pts⟩
  let tail := leBytes 1 r.service ++ leBytes 1 r.channel ++ leBytes 3 r.lang ++ leBytes 3 0 ++ leBytes 4 r.duration ++
    leBytes 4 (if r.service = 3 then 0 else r.text.length) ++ leBytes 2 r.bmW ++ leBytes 2 r.bmH
  ({ i with next := nset 0 (i.nextIndex 0 + 1) i.next }, { port := 0, e := e, body := bodyHeader e 0 tail ++ capData r })

/-- ADEC_CAPTION: a caption node (FUNC 1) takes the next entry of its ports, round robin, and emits the records that its
standard finds in it and the node selects. -/
def adecCaptionEff (hub inst error : Nat) (recs : List CapRec) (s : State) : State :=
  match s.nodeOf hub 0x32 inst with
  | none => s
  | some c =>
    if !s.mayWork hub c || c.par 0x10 1 != 1 then s
    else
      match s.nextPort hub c with
      | none => s
      | some p =>
        match s.take hub c p with
        | (s, none) => s
        | (s, some (e, x)) =>
          let n := s.inode hub c.node
          let last := bit e.flags flagLast
          let s := if x.isSome ∧ (error = 4 ∨ error = 5 ∨ error = 6) then s.engErr hub c error e.source e.item else s
          let mine := match x with | some b => recs.filter (capWanted c e.kind (fieldAt b 64 1)) | none => []
          let (i, out) := mine.foldl (fun (a : IItem × List Emis) x =>
            let (i, m) := capEmis a.1 (if error = 0 then 0 else 4) x
            (i, a.2 ++ [m])) (n.open e.item e.source, [])
          let n := if last then n.dropItem e.item e.source else n.putItem i
          (s.putNode hub c.node n).flush hub c (if last then lastOf 2 out else out)

/-! ### Transform (R200) -/

/-- Row bytes of an output plane. -/
def xformRow (c : NodeCfg) : Nat := roundUp (c.par 0x1C 2 * (if c.par 0x12 1 = 0 then 1 else 2)) 64

/-- R200, step 6: the planes of a transformed frame, each row padded: U8, or FP16 in [0, 1]. The filter's coefficients (step 4),
DEINT 2's method and the arithmetic's precision are not stated, so the samples are free values of their range (log 85). -/
def xformPlanes (c : NodeCfg) (key : Nat) : List Byte :=
  let w := c.par 0x1C 2
  let h := c.par 0x1E 2
  (List.range (3 * h)).flatMap fun y => pad64 ((List.range w).flatMap fun x =>
    let v := Config.free key (y * w + x)
    if c.par 0x12 1 = 0 then leBytes 1 (v % 256) else leBytes 2 (v % 0x3C01))

/-- R200: the header and samples of a transformed frame: step 6's format, the geometry of step 4, the colour codes of step 5. -/
def xformEmis (c : NodeCfg) (key : Nat) (hd : List Byte) (e : SEntry) : Emis :=
  let fl := c.par 0x11 1
  let prim709 := bit fl 2
  let inPrim := fieldAt hd 0x1B 1
  let inTf := fieldAt hd 0x1C 1
  let toned := bit fl 1 && (inTf == 16 || inTf == 18)
  let to709 := prim709 && inPrim == 9
  let prim := if to709 then 1 else inPrim
  let tf := if inPrim == 9 && !to709 && !toned then 14 else 1
  let row := xformRow c
  let tail := leBytes 2 (c.par 0x1C 2) ++ leBytes 2 (c.par 0x1E 2) ++
    leBytes 1 3 ++
    leBytes 1 (if c.par 0x12 1 = 0 then 1 else 2) ++ leBytes 1 (if c.par 0x12 1 = 0 then 8 else 16) ++
    leBytes 1 prim ++ leBytes 1 tf ++ leBytes 1 (if bit fl 3 then (if prim = 9 then 9 else 1) else 0) ++
    leBytes 1 (3 + (if bit fl 3 then 0 else 0x80)) ++ leBytes 1 0 ++ leBytes 4 row ++ leBytes 4 row ++ leBytes 4 row ++
    (hd.drop 0x2C).take 8 ++ (hd.drop 0x34).take 2 ++ leBytes 1 1
  { port := 0, e := e, body := bodyHeader e (fieldAt hd 0x11 1) tail ++ xformPlanes c key }

/-- R200, steps 3 and 4: is a frame within the limits of the crop and the scaler? -/
def xformOk (c : NodeCfg) (hd : List Byte) : Bool :=
  let w := fieldAt hd 0x14 2
  let h := fieldAt hd 0x16 2
  let crop := c.par 0x14 8
  let x := bits crop 0 16
  let y := bits crop 16 16
  let cw := if bits crop 32 16 = 0 then w else bits crop 32 16
  let ch := if bits crop 48 16 = 0 then h else bits crop 48 16
  let ow := c.par 0x1C 2
  let oh := c.par 0x1E 2
  decide (x + cw ≤ w) && decide (y + ch ≤ h) && decide (cw ≤ 16 * ow) && decide (ow ≤ 4 * cw) &&
  decide (ch ≤ 16 * oh) && decide (oh ≤ 4 * ch)

/-- R200, step 2: the frames that one input frame makes: (fields of it are) 1, or 2 with bob on interlaced input. -/
def bobFrames (c : NodeCfg) (hd : List Byte) : Nat :=
  let st := bits (fieldAt hd 0x18 1) 2 2
  if c.par 0x10 1 = 1 ∧ (st = 1 ∨ st = 2) then 2 else 1

/-- R200: what a transform makes of a frame or a woven pair that it keeps: one frame, or one of each field; a frame outside the
limits of steps 3 and 4 is passed as it is, once, with ERROR. -/
def xformMake (c : NodeCfg) (key : Nat) (i : IItem) (e : SEntry) (b : List Byte) : IItem × List Emis :=
  let n := bobFrames c b
  let ok := xformOk c b
  (List.range (if ok then n else 1)).foldl (fun (a : IItem × List Emis) k =>
    let (i, f) := a.1.mark 0 (e.flags / 4 * 4)
    let e' := { e with flags := if ok then f else orFlag f flagError, index := if n = 2 then 2 * e.index + k else e.index, kind := 2 }
    (i, a.2 ++ [if ok then xformEmis c (key + k) (b.take 64) e' else { port := 0, e := e', body := b }])) (i, [])

/-- XFORM_FRAME: the transform takes its next frame, drops it (R200, step 1) or emits what it makes of it. A single field waits
for the one that pairs with it, or makes a frame alone where its item ends. A frame is held back until the item's next is
known, so that LAST stands on the item's last. -/
def xformFrameEff (hub inst : Nat) (s : State) : State :=
  match s.nodeOf hub 0x33 inst with
  | none => s
  | some c =>
    if !s.mayWork hub c then s
    else if s.letsGo hub then s.letGo hub c
    else
      match s.take hub c 0 with
      | (s, none) => s
      | (s, some (e, x)) =>
        let n := s.inode hub c.node
        let i := n.open e.item e.source
        let last := bit e.flags flagLast
        let close (s : State) (i : IItem) (out : List Emis) (more : Nat) : State :=
          if last then (s.putNode hub c.node (n.dropItem e.item e.source)).flush hub c (out ++ i.finish (orFlags more 2))
          else (s.putNode hub c.node (n.putItem i)).flush hub c out
        match x with
        | none => if (n.item e.item e.source).isNone then s else close s i [] owed
        | some b =>
          let stride := max (c.par 0x13 1) 1
          let redundant := bit (c.par 0x11 1) 0 && bit e.flags flagRedundant
          let drop := redundant || i.count % stride != 0
          let i := if redundant then i else { i with count := i.count + 1 }
          let single := bits (fieldAt b 0x18 1) 2 2 == 3 && c.par 0x10 1 != 1
          if drop then close s i [] 0
          else if single && i.frames.isEmpty && !last then close s { i with frames := [(e.index, [])] } [] 0
          else
            let e := match i.frames with | (k, _) :: _ => { e with index := k } | [] => e
            let (key, s) := s.tick
            let (_, s) := s.tick
            let (i, made) := xformMake c key { i with frames := [] } e b
            let all := i.last ++ made
            close s { i with last := all.getLast?.toList } all.dropLast 0

/-! ### Tokeniser (R201, R202) -/

/-- The FP32 value of channel k of pixel (x, y) of a frame body, normalised and ready to convert; none where the spec states no value
(samples in 16-bit containers, a plane the frame does not have, subsampled planes). -/
def pixelValue (c : NodeCfg) (b : List Byte) (k x y : Nat) : Option W32 :=
  let sample := fieldAt b 0x19 1
  let planes := fieldAt b 0x1E 1 % 128
  let h := fieldAt b 0x16 2
  let rows := (List.range k).map (fun p => fieldAt b (0x20 + 4 * p) 4 * h)
  let full := k == 0 || fieldAt b 0x18 1 % 4 == 3
  if planes ≤ k ∨ !full then none
  else
    let base := 64 + rows.sum + fieldAt b (0x20 + 4 * k) 4 * y
    let v : Option W32 :=
      if sample = 1 then some (f32Div (toF32 (FV.ofInt (fieldAt b (base + x) 1))) (toF32 (FV.ofInt 255)))
      else if sample = 2 then some (toF32 (fp16.decode (fieldAt b (base + 2 * x) 2)))
      else none
    v.map fun v => f32Mul (f32Sub v (BitVec.ofNat 32 (c.par (0x20 + 4 * k) 4))) (BitVec.ofNat 32 (c.par (0x2C + 4 * k) 4))

/-- Elements converted to FMT and SCALE (R114, R115, R110) and packed: scale bytes and row, each padded (R201). -/
def tokRow (fmt scale : Nat) (vs : List W32) : List Byte × List Byte :=
  if scale = 2 then
    let blocks := (chunks 32 (vs.length + 1) vs).map (fun l => mxEncode fmt (l.map (fun v => (ofF32 v, Rounding.rne))))
    (pad64 (blocks.map (fun b => BitVec.ofNat 8 b.1)), pad64 (packRow (fmtWidth fmt) (blocks.flatMap (fun b => b.2.1))))
  else ([], pad64 (packRow (fmtWidth fmt) (vs.map (fun v => (convertElem fmt 0 .rne (ofF32 v)).1))))

/-- L of a tokeniser: elements per token (R202); audio takes the channels of the block. -/
def tokLen (c : NodeCfg) (channels : Nat) : Nat :=
  if c.par 0x10 1 = 0 then c.par 0x16 1 * c.par 0x14 2 * c.par 0x14 2 * c.par 0x17 1 else c.par 0x14 2 * channels

/-- R201: the emission of one tile. -/
def tileEmis (c : NodeCfg) (i : IItem) (len : Nat) (toks : List Tok) (flags pts : Nat) : IItem × Emis :=
  let fmt := c.par 0x11 1
  let scale := c.par 0x12 1
  let rb := roundUp (ceilDiv (len * fmtWidth fmt) 8) 64
  let sb := roundUp (ceilDiv len 32) 64
  let fill (n : Nat) (f : Tok → List Byte) : List Byte :=
    ((List.range 128).map (fun k => match toks[k]? with | some t => (f t ++ List.replicate n 0).take n | none => List.replicate n 0)).flatten
  let (i, f) := i.mark 0 flags
  let e : SEntry := ⟨0, 0, i.item, i.nextIndex 0, i.source, 7, f, pts⟩
  let tail := leBytes 4 i.seg ++ leBytes 2 toks.length ++ leBytes 1 (c.par 0x14 2) ++ leBytes 1 (c.par 0x16 1) ++
    leBytes 1 (c.par 0x17 1) ++ leBytes 1 fmt ++ leBytes 1 scale ++ leBytes 1 0 ++ leBytes 4 len ++ leBytes 4 rb
  ({ i with next := nset 0 (i.nextIndex 0 + 1) i.next },
   { port := 0, e := e, body := bodyHeader e 0 tail ++ fill 8 (·.pos) ++ (if scale = 2 then fill sb (·.scale) else []) ++ fill rb (·.row) })

/-- Cut an item's tokens into tiles: whole tiles always, the short rest where its sample ends. -/
def tilesOf (c : NodeCfg) (len pts flags : Nat) : Nat → IItem → Bool → IItem × List Emis
  | 0, i, _ => (i, [])
  | k + 1, i, fin =>
    if i.toks.length ≥ 128 ∨ (fin ∧ !i.toks.isEmpty) then
      let (i, m) := tileEmis c i len (i.toks.take 128) flags pts
      let (i, rest) := tilesOf c len pts flags k { i with toks := i.toks.drop 128 } fin
      (i, m :: rest)
    else (i, [])

/-- The tokens of one whole tubelet, in raster order of patches (R202). -/
def State.tubelet (s : State) (c : NodeCfg) (frames : List (Nat × List Byte)) : State × List Tok :=
  let p := c.par 0x14 2
  let t := c.par 0x16 1
  let ch := c.par 0x17 1
  let f0 := (frames.headD (0, [])).2
  let gw := fieldAt f0 0x14 2 / p
  let gh := fieldAt f0 0x16 2 / p
  let (key, s) := s.tick
  let toks := (List.range (gw * gh)).map fun g =>
    let py := g / gw
    let px := g % gw
    let vs := (List.range (t * p * p * ch)).map fun q =>
      let k := q % ch
      let x := q / ch % p
      let y := q / (ch * p) % p
      let fr := q / (ch * p * p)
      match pixelValue c (nth frames fr (0, f0)).2 k (px * p + x) (py * p + y) with
      | some v => v
      | none => BitVec.ofNat 32 (Config.free key (g * 2 ^ 24 + q))
    let (sc, row) := tokRow (c.par 0x11 1) (c.par 0x12 1) vs
    (⟨leBytes 4 (frames.headD (0, [])).1 ++ leBytes 2 py ++ leBytes 2 px, sc, row⟩ : Tok)
  (s, toks)

/-- A short tubelet completed by repeating its last frame. -/
def fillTubelet (t : Nat) (fr : List (Nat × List Byte)) : List (Nat × List Byte) :=
  fr ++ List.replicate (t - fr.length) (fr.getLastD (0, []))

/-- One frame taken by a video tokeniser (none where its unit was dropped): the item after it, and the tiles completed. -/
def State.tokFrame (s : State) (c : NodeCfg) (i : IItem) (e : SEntry) (b : Option (List Byte)) : State × IItem × List Emis :=
  let t := c.par 0x16 1
  let sf := c.par 0x18 4
  let last := bit e.flags flagLast
  let i : IItem := match b with
    | some b => if bit (c.par 0x13 1) 0 && bit e.flags flagRedundant then i else { i with frames := i.frames ++ [(e.index, b)], count := i.count + 1 }
    | none => i
  let whole := decide (i.frames.length ≥ t)
  let ends := last || (sf != 0 && i.count == sf)
  let (s, i) :=
    if !i.frames.isEmpty && (whole || ends) then
      let (s, toks) := s.tubelet c (fillTubelet t i.frames)
      (s, { i with toks := i.toks ++ toks, frames := [] })
    else (s, i)
  let (i, out) := tilesOf c (tokLen c 0) e.pts (e.flags % 8 / 4 * 4) (i.toks.length + 1) i ends
  let i := if ends && !last then { i with count := 0, seg := i.seg + 1 } else i
  (s, i, out)

/-- One audio block taken by an audio tokeniser (none where its unit was dropped): samples join the item's, and every P samples of all channels make a token. -/
def State.tokAudio (s : State) (c : NodeCfg) (i : IItem) (e : SEntry) (b? : Option (List Byte)) : State × IItem × List Emis :=
  let p := c.par 0x14 2
  let b := b?.getD []
  let ch := if b?.isSome then fieldAt b 0x18 1 else i.chans
  let fmt := fieldAt b 0x19 1
  let n := fieldAt b 0x1A 2
  let cb := fieldAt b 0x1C 4
  let last := bit e.flags flagLast
  let sf := c.par 0x18 4
  let w := fmtWidth fmt / 8
  -- samples carried from earlier blocks, then this block's, by sample: one FP32 per channel
  let mine := (List.range n).map fun k => (e.index, (List.range ch).flatMap fun j =>
    leBytes 4 (toF32 ((fmtOf fmt).getD fp32 |>.decode (fieldAt b (64 + j * cb + w * k) w))).toNat)
  let all := i.frames ++ mine
  let whole := all.length / p
  let pos0 := (i.nextIndex 100)
  let toks := (List.range whole).map fun g =>
    let part := (all.drop (g * p)).take p
    let vs := (List.range ch).flatMap fun j => part.map fun x =>
      BitVec.ofNat 32 (fieldAt x.2 (4 * j) 4)
    let (sc, row) := tokRow (c.par 0x11 1) (c.par 0x12 1) vs
    (⟨leBytes 4 (pos0 + g * p) ++ leBytes 4 0, sc, row⟩ : Tok)
  let i : IItem := { i with chans := ch, frames := all.drop (whole * p), next := nset 100 (pos0 + whole * p) i.next }
  -- SAMPLE_FRAMES counts tokens per sample
  let go := toks.foldl (fun (a : IItem × List Emis) t =>
    let i := { a.1 with toks := a.1.toks ++ [t], count := a.1.count + 1 }
    let ends := sf != 0 && i.count == sf
    let (i, out) := tilesOf c (tokLen c ch) e.pts 0 (i.toks.length + 1) i ends
    (if ends then { i with count := 0, seg := i.seg + 1 } else i, a.2 ++ out)) (i, [])
  let (i, fin) := tilesOf c (tokLen c ch) e.pts 0 (go.1.toks.length + 1) go.1 last
  (s, i, go.2 ++ fin)

/-- Is the tile at the front of a tokeniser final: another follows it, its item has ended, or nothing more can follow (R207)? -/
def State.tileFinal (s : State) (hub : Nat) (c : NodeCfg) : Bool :=
  let n := s.inode hub c.node
  match n.ready with
  | m :: t => !t.isEmpty || (n.item m.e.item m.e.source).isNone || s.letsGo hub
  | [] => false

/-- Take input until a tile is final or the input is empty, with fuel. -/
def State.tokFill (s : State) (hub : Nat) (c : NodeCfg) : Nat → State
  | 0 => s
  | k + 1 =>
    if s.tileFinal hub c then s
    else
      match s.take hub c 0 with
      | (s, none) => s
      | (s, some (e, b)) =>
        let n := s.inode hub c.node
        let last := bit e.flags flagLast
        let i := n.open e.item e.source
        let (s, i, out) := if c.par 0x10 1 = 0 then s.tokFrame c i e b else s.tokAudio c i e b
        let ready := (s.inode hub c.node).ready ++ out
        let ready := if last then
            match ready.getLast? with
            | some m => if m.e.item = e.item ∧ m.e.source = e.source then lastOf (if b.isSome then 2 else orFlags owed 2) ready else ready
            | none => ready
          else ready
        let n := if last then n.dropItem e.item e.source
          else if b.isNone ∧ (n.item e.item e.source).isNone then n else n.putItem i
        (s.putNode hub c.node { n with ready := ready }).tokFill hub c k

/-- TOKEN_TILE: the tokeniser emits its next tile, taking the frames or blocks it needs. -/
def tokenTileEff (hub inst : Nat) (s : State) : State :=
  match s.nodeOf hub 0x34 inst with
  | none => s
  | some c =>
    if !s.mayWork hub c then s
    else
      let s := s.tokFill hub c ((s.inq hub c.node 0).length + 1)
      let n := s.inode hub c.node
      match n.ready with
      | [] => s
      | m :: t =>
        if s.tileFinal hub c then
          (s.putNode hub c.node { n with ready := t }).flush hub c [m]
        else s

/-! ### Delivery (R203 to R205) -/

/-- The 32 bytes of an entry (R179). -/
def entryBytes (e : SEntry) : List Byte :=
  leBytes 8 (e.body % 2 ^ 48) ++ leBytes 4 e.bytes ++ leBytes 4 e.item ++ leBytes 4 e.index ++ leBytes 2 e.source ++
  leBytes 1 e.kind ++ leBytes 1 (e.flags % 128) ++ leBytes 8 (e.pts % 2 ^ 34)

/-- R205: read CONSUMED; a value above PRODUCED or below the last read sets FAULT, and the node takes no more. -/
def State.pollConsumed (s : State) (hub : Nat) (c : NodeCfg) : State :=
  let n := s.inode hub c.node
  if !s.linkedTo hub [c.par 0x18 8 % 2 ^ 48] then s
  else match s.load (s.engWho hub c) (c.par 0x18 8 % 2 ^ 48) 8 with
  | (s, .error k) => s.hubFault hub 0xFE c.inst 0 k (c.par 0x18 8 % 2 ^ 48)
  | (s, .ok b) =>
    let v := leVal b
    if v > n.n ∨ v < n.cons then (s.set1 R.DEMUX_DELIV_FAULT hub 0 c.inst).putNode hub c.node { n with stuck := true }
    else
      let s := s.put R.DEMUX_DELIV_FULL (b2n (n.n - v == c.par 0xC 4)) hub 0 c.inst
      s.putNode hub c.node { n with cons := v }

/-- DELIVERY_CONSUMED_POLL: the node reads CONSUMED while its ring is full. -/
def deliveryConsumedPollEff (hub inst : Nat) (s : State) : State :=
  match s.nodeOf hub 0xFE inst with
  | none => s
  | some c =>
    let n := s.inode hub c.node
    if s.ingestOn hub && !n.stuck && decide (n.n - n.cons = c.par 0xC 4) then s.pollConsumed hub c else s

/-- DELIVERY_ENTRY: the node writes its next entry into the next slot, then PRODUCED, then signals its token. -/
def deliveryEntryEff (hub inst : Nat) (s : State) : State :=
  match s.nodeOf hub 0xFE inst with
  | none => s
  | some c =>
    if !s.ingestOn hub || (s.inode hub c.node).stuck then s
    else
      let slots := c.par 0xC 4
      let slotBytes := c.par 8 4
      let full (s : State) : Bool := decide ((s.inode hub c.node).n - (s.inode hub c.node).cons = slots)
      let s := if full s then s.pollConsumed hub c else s
      if full s || (s.inode hub c.node).stuck || !s.linkedTo hub [c.par 0 8 % 2 ^ 48, c.par 0x10 8 % 2 ^ 48] then s
      else
        match s.nextPort hub c with
        | none => s
        | some p =>
          match s.take hub c p with
          | (s, none) => s
          | (s, some (_, none)) => s
          | (s, some (e, some b)) =>
            if 64 + b.length > slotBytes then s.set1 R.DEMUX_DELIV_DROPPED hub 0 c.inst
            else
              let n := s.inode hub c.node
              let slot := c.par 0 8 % 2 ^ 48 + n.n % slots * slotBytes
              let w := s.engWho hub c
              match s.store w slot (entryBytes { e with body := slot + 64 } ++ List.replicate 32 0 ++ b) with
              | (s, 0) =>
                let s := s.putNode hub c.node { n with n := n.n + 1 }
                let s := (s.store w (c.par 0x10 8 % 2 ^ 48) (leBytes 8 (n.n + 1))).1
                let s := s.put R.DEMUX_DELIV_PRODUCED (n.n + 1) hub 0 c.inst
                let s := s.put R.DEMUX_DELIV_FULL (b2n (n.n + 1 - n.cons == slots)) hub 0 c.inst
                let sg := c.par 0x20 8
                if bit sg 0 then s.signal (bits sg 10 4) (bits sg 5 5) (bits sg 1 4) else s
              | (s, k) => s.hubFault hub 0xFE c.inst 0 k slot

/-- STAGE_ROOM_RESUME: a stage that waits for room finds it, emits what it holds, and goes on with the chunk or ES unit in hand
(R206, R221). -/
def stageRoomResumeEff (hub block inst : Nat) (s : State) : State :=
  match s.nodeOf hub block inst with
  | none => s
  | some c =>
    if !s.ingestOn hub then s
    else
      let s := s.flush hub c []
      let n := s.inode hub c.node
      let left := match n.chunk with
        | some h => (match n.item h.item h.source with | some i => i.ts.left.length | none => 0)
        | none => 0
      let frames := match n.unit with | some r => r.frames.length | none => 0
      (s.demuxGo hub c (2 * left + 4)).vdecGo hub c (frames + 1)

end Sys2Proof.Machine
end

