-- ==== Sys2Proof/Machine/StepOps.lean ====
section
/-!
DEFINITION. What the step controller, the reduction channels and the update engines share: a partition's phase
and gate (R226, R230), what a step's reductions report to it (R231, R232), HALT (R235, R236), the telemetry
record (R241), and the monitor table (R120).
-/

namespace Sys2Proof.Machine

def State.stepSt (s : State) (p : Nat) : StepSt := ngetD s.steps p {}
def State.putStep (s : State) (p : Nat) (t : StepSt) : State := { s with steps := nset p t s.steps }

/-- R226: the phases. -/
def phIdle : Nat := 0
def phForward : Nat := 1
def phBackward : Nat := 2
def phAwait : Nat := 3
def phCommit : Nat := 4
def phSkip : Nat := 5
def phHalt : Nat := 6

def State.phase (s : State) (p : Nat) : Nat := s.get R.STEP_STATE_PHASE 0 0 p
def State.stepNumber (s : State) (p : Nat) : Nat := s.get R.STEP_NUMBER_NUMBER 0 0 p

/-- R243: MICRO_BATCHES as latched acts; 0 acts as 1. -/
def StepSt.microBatches (t : StepSt) : Nat := max 1 (bits t.cfg 0 8)
def StepSt.layerMajor (t : StepSt) : Bool := bit t.cfg 8
def StepSt.telEn (t : StepSt) : Bool := bit t.cfg 9

/-- R126: fields of STEP_FMT_CFG as latched. -/
def StepSt.layers (t : StepSt) : Nat := bits t.fmtCfg 0 13
def StepSt.chooseEn (t : StepSt) : Bool := bit t.fmtCfg 13
def StepSt.lscaleEn (t : StepSt) : Bool := bit t.fmtCfg 14

/-- R229, R230: the last BACKWARD of the step. -/
def State.lastBackward (s : State) (p : Nat) : Bool :=
  let t := s.stepSt p
  t.layerMajor || decide (t.microBatches ≤ s.get R.STEP_STATE_MB_INDEX 0 0 p + 1)

/-- R230: is the gate open? -/
def State.gateOpen (s : State) (p : Nat) : Bool :=
  (s.phase p == phBackward && s.lastBackward p) || (s.phase p == phAwait && !s.flag R.STEP_STATE_CLOSING 0 0 p)

/-- R231: a gated reduction starts, or finishes, at this member. -/
def State.stepStarted (s : State) (p : Nat) : State := s.countSat R.STEP_STATE_OUTSTANDING 1 0 0 p
def State.stepFinished (s : State) (p : Nat) : State :=
  s.put R.STEP_STATE_OUTSTANDING (s.get R.STEP_STATE_OUTSTANDING 0 0 p - 1) 0 0 p

/-- R232: a trailer of a reduction of a step was NONFINITE or SATURATED at this member. -/
def State.stepBad (s : State) (p step : Nat) : State :=
  let t := s.stepSt p
  if t.badTrailer.contains step then s else s.putStep p { t with badTrailer := step :: t.badTrailer }

/-- R232, R298: a segment of a step was rejected with EPOCH_MISMATCH. -/
def State.stepEpoch (s : State) (p step : Nat) : State :=
  let t := s.stepSt p
  if t.epochRej.contains step then s else s.putStep p { t with epochRej := step :: t.epochRej }

/-- A step has ended: what its reductions reported under its number goes (R232). -/
def State.stepOver (s : State) (p step : Nat) : State :=
  let t := s.stepSt p
  s.putStep p { t with badTrailer := t.badTrailer.filter (· != step), epochRej := t.epochRej.filter (· != step) }

/-- R124: does the loss scale run? -/
def State.lscaleRuns (s : State) (p : Nat) : Bool := s.compat16 p || (s.stepSt p).lscaleEn

/-! ### The reduction channels of a partition (R24, R25, R246) -/

/-- Physical channels of each partition. -/
def State.chanCount (s : State) : Nat := match s.cut with | 1 => 32 | 2 => 16 | 3 => 8 | _ => 0
def State.partChans (s : State) (p : Nat) : List Nat := (List.range s.chanCount).map (· + s.chanBase p)

/-- R246: the home hub of a channel. -/
def State.chanHome (s : State) (c : Nat) : Nat :=
  if s.cut ≥ 2 then c / 16 else if s.flag R.RED_CH_STATUS_HOME 1 c then 1 else 0

/-- R49, R271: MEMBERS of a channel's route; 0 for none. -/
def State.members? (s : State) (c : Nat) : Nat := s.get R.RED_CH_ROUTE_MEMBERS (s.chanHome c) c

/-- R298: is a channel of the partition TAINTED? -/
def State.tainted (s : State) (p : Nat) : Bool :=
  (s.partChans p).any fun c => s.flag R.RED_CH_EPOCH_TAINTED (s.chanHome c) c

/-- R300: is a PERMUTE between its start and its completion? -/
def State.permuting (s : State) (p : Nat) : Bool :=
  (s.partChans p).any fun c => s.flag R.RED_CH_EPOCH_PERMUTING (s.chanHome c) c

def State.chan (s : State) (c : Nat) : Chan := ngetD s.chans c {}
def State.putChan (s : State) (c : Nat) (h : Chan) : State := { s with chans := nset c h s.chans }

/-- R237, R261: clear the carry buffers of a partition's channels. -/
def State.clearCarry (s : State) (p : Nat) : State :=
  (s.partChans p).foldl (fun s c => s.putChan c { s.chan c with carry := [] }) s

/-- R261: at the end of a step, discard and count the carry entries not used by the end of the step after
their own. -/
def State.expireCarry (s : State) (p step : Nat) : State :=
  (s.partChans p).foldl (fun s c =>
    let h := s.chan c
    let old := h.carry.filter (fun e => e.step != step)
    if old.isEmpty then s
    else (s.putChan c { h with carry := h.carry.filter (fun e => e.step == step) }).count
      R.RED_CARRY_EXPIRED_COUNT old.length (s.chanHome c) c) s

/-! ### The seam, and telemetry (R241, R242) -/

/-- R244, R345: hub AM's MGMT counter. -/
def State.mgmt (s : State) : Nat := s.stamp 0

/-- MGMT counts since the phase in hand began. -/
def State.sinceMark (s : State) (p : Nat) : Nat := (s.mgmt + 2 ^ 64 - (s.stepSt p).mark) % 2 ^ 64

/-- An integer in FP32, where it is one below 65,536. -/
def f32Nat (x : W32) : Option Nat :=
  match ofF32 x with
  | .fin false m e =>
    if e ≥ 0 then (if m <<< e.toNat < 65536 then some (m <<< e.toNat) else none)
    else if m % 2 ^ (-e).toNat = 0 ∧ m / 2 ^ (-e).toNat < 65536 then some (m / 2 ^ (-e).toNat) else none
  | _ => none

/-- R241, R242: assemble the record of a step that leaves COMMIT or SKIP or enters HALT, place it in TEL_REC and
send it to the subscribers of class 3. Where GATHERED was not written (log 91), its elements are left open. -/
def State.telemetry (s : State) (p number outcome : Nat) : State :=
  let t := s.stepSt p
  if !t.telEn then s
  else
    let dies := s.partDies p
    let onPm := (s.partHubs p).contains 1
    let pm := onPm && s.seamTrained
    let sat (n : Nat) : List Byte := leBytes 4 (min n 0xFFFFFFFF)
    let busy := compDies.map (fun d =>
      if dies.contains d && (hubOf d == 0 || pm) then s.get R.TEL_UPD_BUSY_COUNT d else 0)
    let two (f : Fld) : List Nat :=
      [if (s.partHubs p).contains 0 then s.get f 0 0 p else 0, if pm then s.get f 1 0 p else 0]
    let stalls := two R.TEL_INGEST_STALL_COUNT ++ two R.TEL_SEAM_STALL_COUNT ++ two R.TEL_PEER_STALL_COUNT
    let wide := ([t.fwd, t.bwd, t.redWait, t.verdictWait, t.upd] ++ busy ++ stalls).any (fun n => decide (n ≥ 0xFFFFFFFF))
    let (k, s) := s.tick
    let g := match t.gathered with
      | some ([], _) => (List.range 3).flatMap (fun i => leBytes 4 (Config.free k (2 + i)))
      | some x => x.1
      | none => []
    let el2 : W32 := BitVec.ofNat 32 (fieldAt g 8 4)
    let bad := match f32Nat el2 with | some n => n | none => Config.free k 0
    let rec128 : List Byte :=
      leBytes 4 number ++ leBytes 1 p ++ leBytes 1 outcome ++ leBytes 1 (bits t.cfg 0 8) ++
      leBytes 1 (b2n t.layerMajor + 2 * b2n pm + 4 * b2n wide) ++
      leBytes 4 (s.get R.STEP_SKIPS_TOTAL 0 0 p) ++ leBytes 4 (if outcome = 3 then 0 else fieldAt g 0 4) ++
      sat t.fwd ++ sat t.bwd ++ sat t.redWait ++ sat t.verdictWait ++ sat t.upd ++ leBytes 4 0 ++
      ((busy ++ stalls).map (leBytes 4)).flatten ++ leBytes 4 (fieldAt g 4 4) ++ leBytes 2 bad ++ leBytes 2 0 ++
      leBytes 8 t.start ++ List.replicate 32 0
    let s := (List.range 16).foldl (fun s i =>
      s.put R.TEL_REC_WORD (fieldAt rec128 (8 * i) 8) 0 0 (16 * p + i)) s
    s.notify 3 (Config.free k 1 % 256) 0 p rec128

/-- R235, R236, R291: the partition enters HALT. -/
def State.halt (s : State) (p : Nat) : State :=
  let t := s.stepSt p
  let d := s.sinceMark p
  let t := if s.phase p = phCommit then { t with upd := t.upd + d }
           else if s.flag R.STEP_STATE_CLOSING 0 0 p then { t with verdictWait := t.verdictWait + d }
           else { t with redWait := t.redWait + d }
  let s := ((s.putStep p { t with mark := s.mgmt }).put R.STEP_STATE_PHASE phHalt 0 0 p)
  s.telemetry p (s.stepNumber p) 3

/-- R235: the closing all-gather has not completed: HALT, VERDICT_TIMEOUT and the fault notice (R444). -/
def State.verdictLost (s : State) (p : Nat) : State :=
  let s := s.set1 R.STEP_ERROR_VERDICT_TIMEOUT 0 0 p
  let s := s.halt p
  s.faultNotice 3 0 p 0x63 0 0 0xFF 0 (s.stepNumber p) 0

/-- R236, R239: a reset of a compute die of the partition while a step runs: its local check fails, or COMMIT
ends in HALT. -/
def State.stepDieReset (s : State) (p : Nat) : State :=
  if s.phase p = phCommit then (s.set1 R.STEP_ERROR_COMMIT_FAULT 0 0 p).halt p
  else if s.phase p = phIdle then s
  else s.putStep p { s.stepSt p with dieReset := true }

/-! ### Range monitors (R119, R120) -/


/-- R120: clear every monitor of the partition's dies. -/
def State.clearMons (s : State) (p : Nat) : State :=
  let dies := s.partDies p
  { s with mons := s.mons.filter (fun m => !dies.contains (m.1 / (36 * 2 * 4096))) }

/-- R120: a word of the sums over the partition's dies; a sum beyond 32 bits is left open. -/
def State.monSum (s : State) (p layer kind w : Nat) : State × Nat :=
  let n := (s.partDies p).foldl (fun n d => n + ngetD s.mons (monKey d layer kind w) 0) 0
  if n < 2 ^ 32 then (s, n) else let (k, s) := s.tick; (s, Config.free k 0 % 2 ^ 32)

/-- R120: the 288 bytes of a layer in the monitor table. -/
def State.monLayer (s : State) (p layer : Nat) : State × List Byte :=
  (List.range 72).foldl (fun (a : State × List Byte) i =>
    let (s, n) := a.1.monSum p layer (i / 36) (i % 36)
    (s, a.2 ++ leBytes 4 n)) (s, [])

/-- The step controller's accesses are the partition's work, made at hub AM. -/
def stepWho (p : Nat) : Who := { die := 0, part := some p }

/-- R120: collect the monitors into the monitor table. -/
def State.collectMons (s : State) (p : Nat) : State :=
  let t := s.stepSt p
  if t.monBase = 0 then s
  else
    (List.range t.layers).foldl (fun s l =>
      let (s, b) := s.monLayer p l
      let a := t.monBase + 288 * l
      match s.store (stepWho p) a b with
      | (s, 0) => s
      | (s, _) => (s.forgetSpans [(a, 288)]).set1 R.STEP_ERROR_WRITE_FAULT 0 0 p) s

/-- R232: has a kind-1 monitor of a compute die of the partition counted a non-finite element? -/
def State.monNonfinite (s : State) (p : Nat) : Bool :=
  let dies := s.partDies p
  s.mons.any fun m => m.1 % 72 == 36 + 34 && dies.contains (m.1 / (36 * 2 * 4096)) && m.2 != 0

end Sys2Proof.Machine
end

