-- ==== Sys2Proof/Machine/Wire.lean ====
section
/-!
DEFINITION. What travels on a reduction ring: frames and trailers (R253, R295, R301), the FP32 and BS16
arithmetic of the link interfaces (R254 to R257), the narrowing and widening of gathers (R294), the roll call
(R253), and requests as software writes them (R250, R293, R299).
-/

namespace Sys2Proof.Machine

/-! ### Words and lists -/

/-- Little-endian 32-bit words of a byte string. -/
def wordsOf (b : List Byte) : List W32 := (chunks 4 (b.length / 4) b).map (fun w => BitVec.ofNat 32 (leVal w))
def bytesOf (l : List W32) : List Byte := l.flatMap (fun w => leBytes 4 w.toNat)

/-- R252: elements per segment. -/
def segElems : Nat := 4096
/-- R252: elements at or beyond ELEMENTS travel as zero. -/
def padSeg (l : List W32) : List W32 := l ++ List.replicate (segElems - l.length) 0
/-- R252: elements of a segment below ELEMENTS. -/
def segLen (elems s : Nat) : Nat := min segElems (elems - segElems * s)
/-- Segments s below S with s mod n other than x mod n. -/
def segsNot (n S x : Nat) : Nat := S - (S / n + b2n (decide (x % n < S % n)))

/-! ### Frames (R253) -/

def flNonfinite : Nat := 0
def flSaturated : Nat := 1
def flBs16 : Nat := 2
def flClosing : Nat := 3
def flMismatch : Nat := 4

end Sys2Proof.Machine
namespace Sys2Proof
open Machine
def Frame.has (f : Frame) (i : Nat) : Bool := bit f.flags i
def Frame.mark (f : Frame) (i : Nat) : Frame := { f with flags := setBits f.flags i 1 1 }

def Frame.trailer (f : Frame) : List Byte :=
  leBytes 1 f.channel ++ leBytes 1 f.pass ++ leBytes 2 f.flags ++ leBytes 2 f.redId ++ leBytes 2 f.epoch ++
  leBytes 4 f.step ++ leBytes 4 f.seg ++ leBytes 4 f.segs ++ leBytes 4 f.elems ++ leBytes 2 f.present ++
  leBytes 2 f.carried ++ leBytes 2 f.firstNf ++ leBytes 2 f.esc ++ leBytes 2 f.sender ++
  (f.ext ++ List.replicate 30 0).take 30

def Frame.bytes (f : Frame) : List Byte := f.payload ++ f.trailer
/-- The frame that those bytes are (R253). -/
def Frame.ofBytes (b : List Byte) : Frame :=
  let n := b.length - 64
  let t := b.drop n
  { channel := fieldAt t 0 1, pass := fieldAt t 1 1, flags := fieldAt t 2 2, redId := fieldAt t 4 2, epoch := fieldAt t 6 2,
    step := fieldAt t 8 4, seg := fieldAt t 0xC 4, segs := fieldAt t 0x10 4, elems := fieldAt t 0x14 4,
    present := fieldAt t 0x18 2, carried := fieldAt t 0x1A 2, firstNf := fieldAt t 0x1C 2, esc := fieldAt t 0x1E 2,
    sender := fieldAt t 0x20 2, ext := t.drop 0x22, payload := b.take n }

/-- Bytes of a frame as it is held or sent. -/
def Frame.size (f : Frame) : Nat := f.payload.length + 64

end Sys2Proof
namespace Sys2Proof.Machine
/-- A new frame of a head's reduction (R253). -/
def RHead.frame (h : RHead) (pass seg : Nat) (payload : List Byte) : Frame :=
  { channel := 0, pass := pass,
    flags := (if h.bs16 && (pass == 2 || pass == 3) then 4 else 0) + (if h.closing then 8 else 0),
    redId := h.redId, epoch := h.epoch, step := h.step, seg := seg, segs := h.segs, elems := h.elems,
    present := 0, carried := 0, firstNf := 0xFFFF, esc := 0, sender := h.r, ext := [], payload := payload }

end Sys2Proof.Machine
namespace Sys2Proof
open Machine
/-- R254, R265, R266: a frame goes on NONFINITE, with this rank as the first unless one is set. -/
def Frame.spoil (f : Frame) (r : Nat) : Frame :=
  { f.mark flNonfinite with firstNf := if f.firstNf = 0xFFFF then r else f.firstNf }

end Sys2Proof
namespace Sys2Proof.Machine
/-! ### Requests (R250, R293, R299) -/

def rqOp (d : Nat) : Nat := df d 0 0 4
def rqNorm (d : Nat) : Bool := df d 0 4 1 == 1
def rqComplete (d : Nat) : Bool := df d 0 5 1 == 1
def rqWait (d : Nat) : Bool := df d 0 6 1 == 1
def rqWaitTok (d : Nat) : Nat := df d 0 7 4
def rqWaitCore (d : Nat) : Nat := df d 0 11 5
def rqWaitDie (d : Nat) : Nat := df d 0 16 4
def rqSignal (d : Nat) : Bool := df d 0 20 1 == 1
def rqSigTok (d : Nat) : Nat := df d 0 21 4
def rqSigCore (d : Nat) : Nat := df d 0 25 5
def rqSigDie (d : Nat) : Nat := df d 0 30 4
def rqCtx (d : Nat) : Nat := df d 0 34 6
def rqTag (d : Nat) : Nat := df d 0 48 16
def rqSrc (d : Nat) : Nat := df d 0x08 0 48
def rqDst (d : Nat) : Nat := df d 0x10 0 48
def rqElems (d : Nat) : Nat := df d 0x18 0 32
def rqId (d : Nat) : Nat := df d 0x18 32 16
def rqRoll (d : Nat) : Nat := df d 0x20 0 48
def rqGFmt (d : Nat) : Nat := df d 0x28 0 4
def rqGScale (d : Nat) : Nat := df d 0x28 4 2
def rqOut (d : Nat) : Nat := df d 0x28 8 4
def rqStream (d : Nat) : Bool := df d 0x28 12 1 == 1
def rqSlots (d : Nat) : Nat := df d 0x28 32 16
def rqScl (d : Nat) : Nat := df d 0x30 0 48
def rqCons (d : Nat) : Nat := df d 0x38 0 48
def rqMap (d : Nat) : Nat := df d 0x28 0 32

/-- R250, R251, R293, R299: do reserved fields or flags fail the request? -/
def reqFlagsBad (d : Nat) : Bool :=
  let op := rqOp d
  df d 0 40 8 != 0 || df d 0x08 48 16 != 0 || df d 0x10 48 16 != 0 || df d 0x18 48 16 != 0 || df d 0x20 48 16 != 0 ||
  rqElems d == 0 || (rqNorm d && op != 1 && op != 2) ||
  (match op with
   | 3 =>
     !(rqGFmt d == 0 || rqGFmt d == 1 || rqGFmt d == 3) || rqGScale d != (if rqGFmt d = 3 then 2 else 0) ||
     !(rqOut d == rqGFmt d || rqOut d == 0 || (rqOut d == 1 && rqGFmt d == 3)) ||
     df d 0x28 6 2 != 0 || df d 0x28 13 19 != 0 || df d 0x28 48 16 != 0 || df d 0x30 48 16 != 0 ||
     df d 0x38 48 16 != 0 ||
     (if rqStream d then decide (rqSlots d < 2) || rqCons d % 8 != 0 else rqSlots d != 0 || rqCons d != 0) ||
     (rqOut d != 3 && rqScl d != 0) || (rqGScale d == 2 && rqElems d % 32 != 0)
   | 4 =>
     rqDst d != rqSrc d || rqElems d != 1 || df d 0x28 32 32 != 0 || decide (rqMap d > 1048576) ||
     df d 0x30 0 64 != 0 || df d 0x38 0 64 != 0
   | _ => df d 0x28 0 64 != 0 || df d 0x30 0 64 != 0 || df d 0x38 0 64 != 0)

/-- R296: bytes of a slot of DST, and of a slot of SCL_DST. -/
def slotBytes (d : Nat) : Nat := roundUp (rqElems d * fmtWidth (rqOut d) / 8) 64
def sclSlot (d : Nat) : Nat := roundUp (ceilDiv (rqElems d) 32) 64

/-- R250, R251 step 4: the memory a request names, as (address, bytes). -/
def reqSpans (d n : Nat) : List (Nat × Nat) :=
  let roll := if rqRoll d = 0 then [] else [(rqRoll d, 320)]
  match rqOp d with
  | 3 =>
    let dst := if rqStream d then rqSlots d * slotBytes d else n * rqElems d * fmtWidth (rqOut d) / 8
    let scl := if rqOut d = 3 then [(rqScl d, if rqStream d then rqSlots d * sclSlot d else n * (rqElems d / 32))] else []
    [(rqSrc d, 4 * rqElems d), (rqDst d, dst)] ++ roll ++ scl ++ (if rqStream d then [(rqCons d, 8)] else [])
  | 4 => [(rqSrc d, 32 * rqMap d)] ++ roll
  | _ => [(rqSrc d, 4 * rqElems d), (rqDst d, 4 * rqElems d)] ++ roll

/-! ### FP32 on the ring (R254, R255) -/

/-- R255: divide by the contributions counted; +0 where there are none. -/
def normalised (n : Nat) (l : List W32) : List W32 :=
  if n = 0 then l.map (fun _ => 0) else
    let k := toF32 (FV.ofInt n)
    l.map (fun x => f32Div x k)

/-! ### BS16 on the ring (R256, R257) -/

/-- R256: one group's proposal, as a signed byte. -/
def proposal (l : List W32) : Int :=
  let fin := l.filter (fun x => !f32NonFinite x && !f32IsZero x)
  match fin.map (fun x => (ofF32 x).log2Floor) with
  | [] => -128
  | e :: es => max (-127) (min 127 (es.foldl max e + 1))

/-- R256: the 128 proposals of a segment. -/
def proposals (l : List W32) : List Byte := (chunks 32 128 l).map (fun g => BitVec.ofNat 8 (ofInt 8 (proposal g)))

def noProposals : List Byte := List.replicate 128 0x80#8

/-- R256: each hop forwards the greater. -/
def mergeProposals (a b : List Byte) : List Byte :=
  (List.range 128).map fun i =>
    let x := toInt 8 (fieldAt a i 1)
    let y := toInt 8 (fieldAt b i 1)
    BitVec.ofNat 8 (ofInt 8 (max x y))

/-- R256: the agreed exponents, as bytes. -/
def agreedG (result : List Byte) (headroom : Nat) : List Byte :=
  (List.range 128).map fun i =>
    let x := toInt 8 (fieldAt result i 1)
    BitVec.ofNat 8 (ofInt 8 (if x = -128 then -128 else min 127 (x + headroom)))

/-- A signed sum shifted right by k with nearest-even rounding (R257). -/
def shiftRne (k : Nat) (x : Int) : Int := signedOf (decide (x < 0)) (roundShift .rne x.natAbs k)

def fits16 (x : Int) : Bool := decide (-32768 ≤ x) && decide (x ≤ 32767)

/-- The 66 bytes of a group (R117). -/
def bs16Group (ms : List Int) (g : Int) (nonfinite saturated : Bool) (esc : Nat) : List Byte :=
  ms.flatMap (fun m => leBytes 2 (ofInt 16 m)) ++ leBytes 1 (ofInt 8 g) ++
  leBytes 1 (b2n nonfinite + 2 * b2n saturated + 4 * esc)

/-- R257: a member adds its 32 values to an arriving group: the group sent, whether it was escalated, and
whether it became saturated here. -/
def bs16AddGroup (grp : List Byte) (l : List W32) : List Byte × Bool × Bool :=
  let fl := fieldAt grp 0x41 1
  let g := toInt 8 (fieldAt grp 0x40 1)
  let esc := bits fl 2 3
  let zeros : List Int := List.replicate 32 0
  if bit fl 0 || bit fl 1 || l.any f32NonFinite then
    (bs16Group zeros g (bit fl 0 || l.any f32NonFinite) (bit fl 1) esc, false, false)
  else
    let sums := (List.range 32).map (fun i => toInt 16 (fieldAt grp (2 * i) 2) + bs16Mant g (l.getD i 0))
    if sums.all fits16 then (bs16Group sums g false false esc, false, false)
    else
      match ([1, 2, 3, 4, 5, 6, 7] : List Nat).find? (fun k => (sums.map (shiftRne k)).all fits16) with
      | some k =>
        if esc + k > 7 ∨ g + (k : Int) > 127 then (bs16Group zeros g false true esc, false, true)
        else (bs16Group (sums.map (shiftRne k)) (g + (k : Int)) false false (esc + k), true, false)
      | none => (bs16Group zeros g false true esc, false, true)

/-- R257: the same over the 128 groups of a segment: the payload, groups escalated, groups saturated here. -/
def bs16Add (payload : List Byte) (l : List W32) : List Byte × Nat × Nat :=
  let r := (List.zip (chunks 66 128 payload) (chunks 32 128 l)).map (fun p => bs16AddGroup p.1 p.2)
  (r.flatMap (·.1), (r.filter (·.2.1)).length, (r.filter (·.2.2)).length)

/-- An empty segment at the agreed exponents, to which the origin adds (R257). -/
def bs16Empty (gs : List Byte) : List Byte :=
  (List.range 128).flatMap fun i => bs16Group (List.replicate 32 0) (toInt 8 (fieldAt gs i 1)) false false 0

/-- R117: does a group of the payload carry a flag bit? -/
def bs16Any (i : Nat) (payload : List Byte) : Bool :=
  (chunks 66 128 payload).any (fun g => bit (fieldAt g 0x41 1) i)

def bs16Escaped (payload : List Byte) : Bool := (chunks 66 128 payload).any (fun g => bits (fieldAt g 0x41 1) 2 3 != 0)

/-- R255: a segment decoded to FP32. -/
def segValues (bs16 : Bool) (payload : List Byte) : List W32 :=
  if bs16 then (chunks 66 128 payload).flatMap bs16Decode else wordsOf payload

/-! ### Gathers (R293 to R296) -/

/-- R294: narrow a segment of a shard: its payload, and whether it held a non-finite value. -/
def narrow (fmt : Nat) (l : List W32) : List Byte × Bool :=
  let nf := l.any f32NonFinite
  if fmt = 0 then (bytesOf l, nf)
  else if fmt = 1 then (packRow 16 (l.map (fun x => (convertElem 1 0 .rne (ofF32 x)).1)), nf)
  else
    let bl := (chunks 32 128 l).map (fun g => mxEncode 3 (g.map (fun x => (ofF32 x, Rounding.rne))))
    (packRow 8 (bl.flatMap (·.2.1)) ++ bl.map (fun b => BitVec.ofNat 8 b.1), nf)

/-- R295: elements in a payload of a wire format. -/
def gatherCount (fmt n : Nat) : Nat := match fmt with | 0 => n / 4 | 1 => n / 2 | _ => n * 32 / 33

/-- R294: a payload widened to OUT_FMT: element bytes, and scale bytes where OUT_FMT is E4M3. -/
def widen (fmt out : Nat) (payload : List Byte) : List Byte × List Byte :=
  let k := gatherCount fmt payload.length
  if out = fmt then (if fmt = 3 then (payload.take k, payload.drop k) else (payload, []))
  else
    let vs : List FV := (List.range k).map fun i =>
      match fmt with
      | 1 => bf16.decode (fieldAt payload (2 * i) 2)
      | 3 => (e4m3.decode (fieldAt payload i 1)).mul (e8m0 (fieldAt payload (k + i / 32) 1))
      | _ => fp32.decode (fieldAt payload (4 * i) 4)
    (packRow (fmtWidth out) (vs.map (fun v => (convertElem out 0 .rne v).1)), [])

/-- R295: the trailer fields of an ALLGATHER frame. -/
def gatherExt (fmt scale origin : Nat) : List Byte := leBytes 1 fmt ++ leBytes 1 scale ++ leBytes 2 origin

/-! ### Moves (R301) -/

/-- R301: the trailer fields of a PASS 5 frame. -/
def moveExt (dest kind newId len carryStep dst newElems : Nat) : List Byte :=
  leBytes 2 dest ++ leBytes 1 kind ++ leBytes 1 0 ++ leBytes 2 newId ++ leBytes 4 len ++ leBytes 4 carryStep ++
  leBytes 8 dst ++ leBytes 4 newElems ++ leBytes 4 0
end Sys2Proof.Machine
namespace Sys2Proof
open Machine
def Frame.origin (f : Frame) : Nat := fieldAt f.ext 2 2
def Frame.dest (f : Frame) : Nat := fieldAt f.ext 0 2
def Frame.mvKind (f : Frame) : Nat := fieldAt f.ext 2 1
def Frame.mvNewId (f : Frame) : Nat := fieldAt f.ext 4 2
def Frame.mvStep (f : Frame) : Nat := fieldAt f.ext 10 4
def Frame.mvDst (f : Frame) : Nat := fieldAt f.ext 14 8
def Frame.mvElems (f : Frame) : Nat := fieldAt f.ext 22 4

end Sys2Proof
namespace Sys2Proof.Machine

/-- R299: a move-map entry. -/
structure MoveEntry where
  dest : Nat
  kind : Nat
  oldId : Nat
  newId : Nat
  src : Nat
  dst : Nat
  count : Nat
  newElems : Nat
  bad : Bool
  deriving DecidableEq, Repr

def moveEntry (b : List Byte) : MoveEntry :=
  let kind := fieldAt b 2 1
  let res := if kind = 0 then
      fieldAt b 4 2 != 0 || fieldAt b 6 2 != 0 || fieldAt b 0xE 2 != 0 || fieldAt b 0x16 2 != 0 || fieldAt b 0x1D 3 != 0
    else fieldAt b 0xC 4 != 0 || fieldAt b 0x14 4 != 0
  { dest := fieldAt b 0 2, kind := kind, oldId := fieldAt b 4 2, newId := fieldAt b 6 2,
    src := fieldAt b 8 8, dst := fieldAt b 0x10 8,
    count := if kind = 0 then fieldAt b 0x18 5 else fieldAt b 0x18 4,
    newElems := if kind = 0 then 0 else fieldAt b 0x1C 4,
    bad := decide (kind > 1) || fieldAt b 3 1 != 0 || res }

/-! ### The roll call (R253, R269) -/

/-- The roll call that member 1 begins, with no member in it and the highest version. -/
def rollNew (h : RHead) : List Byte :=
  leBytes 2 h.redId ++ leBytes 2 h.n ++ leBytes 4 h.step ++ leBytes 1 2 ++ List.replicate 55 0 ++ List.replicate 256 0

def setMapBit (l : List Byte) (base r : Nat) (on : Bool) : List Byte :=
  if on then setAt l (base + r / 8) (BitVec.ofNat 8 (setBits (fieldAt l (base + r / 8) 1) (r % 8) 1 1)) else l

/-- A member's bits and version in the roll call. -/
def rollMark (roll : List Byte) (r : Nat) (present carried : Bool) (ver : Nat) : List Byte :=
  setAt (setMapBit (setMapBit roll 0x40 r present) 0xC0 r carried) 8 (BitVec.ofNat 8 (min (fieldAt roll 8 1) ver))

def rollVer (roll : List Byte) : Nat := fieldAt roll 8 1

/-! ### Mismatch (R265, R297, R298) -/

/-- The passes a head's opcode runs. -/
def RHead.runs (h : RHead) (pass : Nat) : Bool :=
  pass == 4 ||
  (match h.op with
   | 1 => pass == 2 || pass == 3 || (pass == 1 && h.bs16)
   | 2 => pass == 2 || (pass == 1 && h.bs16)
   | 3 => pass == 3
   | _ => pass == 5)

/-- R14, R118: does a group of the payload hold a reserved encoding? -/
def bs16Reserved (payload : List Byte) : Bool :=
  (chunks 66 (payload.length / 66) payload).any (fun g => bits (fieldAt g 0x41 1) 5 3 != 0)

/-- R265, R298: 0 for a frame that belongs, or the status its mismatch gives the request. A frame that
differs in EPOCH is rejected for that. -/
def RHead.mismatch (h : RHead) (epoch : Nat) (f : Frame) : Nat :=
  let data := f.pass == 2 || (f.pass == 3 && h.op != 3)
  if f.epoch ≠ epoch then 0x14
  else if !h.runs f.pass || decide (f.flags ≥ 32) || f.redId != h.redId || f.step != h.step then 0x13
  else if f.elems ≠ h.elems ∨ f.segs ≠ h.segs ∨ h.segs ≤ f.seg then 0x13
  else if data && (f.has flBs16 != h.bs16 || (h.bs16 && bs16Reserved f.payload)) then 0x13
  else if h.op = 3 ∧ f.pass = 3 then
    match h.req with
    | some q => if fieldAt f.ext 0 1 = rqGFmt q.raw ∧ fieldAt f.ext 1 1 = rqGScale q.raw ∧ f.origin < h.n then 0 else 0x13
    | none => 0
  else if f.pass = 5 ∧ (h.n ≤ f.dest ∨ f.mvKind > 1) then 0x13
  else 0

end Sys2Proof.Machine
end

