-- ==== Sys2Proof/Machine/Reduction.lean ====
section
/-!
DEFINITION. Gradient reduction and re-sharding: requests, the four passes, stragglers and the overnight carry,
hangs, buffers, digests (R246 to R272), ALLGATHER and PERMUTE (R293 to R304).
-/

namespace Sys2Proof.Machine

/-! ### Routes, hops and the home hub -/

/-- A RED register field at the channel's home hub. -/
def State.red (s : State) (f : Fld) (c : Nat) : Nat := s.get f (s.chanHome c) c
def State.redPut (s : State) (f : Fld) (v c : Nat) : State := s.put f v (s.chanHome c) c
def State.redCount (s : State) (f : Fld) (n c : Nat) : State := if n = 0 then s else s.count f n (s.chanHome c) c

/-- The partition of a channel's member, as a requester (R26). -/
def State.redWho (s : State) (c : Nat) : Who := { die := s.chanHome c, part := some (s.partOfChan c) }

/-- The region code of a channel's RED group (R41). -/
def redRegion (c : Nat) : Nat := 0x20 + c / 8

/-- R269: the version of a hop; seam and hub-local hops count as version 2. -/
def State.hopVer (s : State) (hop : Nat) : Nat :=
  if hop ≥ 0x10 then 2 else s.get R.PEER_STATUS_VERSION (hop / 8) hop

/-- The lower of the versions of a channel's two hops. -/
def State.chanVer (s : State) (c : Nat) : Nat :=
  min (s.hopVer (s.red R.RED_CH_ROUTE_IN_HOP c)) (s.hopVer (s.red R.RED_CH_ROUTE_OUT_HOP c))

/-- R269: does a reduction of the channel use BS16? -/
def State.chanBs16 (s : State) (c : Nat) : Bool :=
  decide (s.members? c > 1) && s.red R.RED_CH_TIMING_WIRE c == 1 && s.red R.RED_CH_STATUS_RING_VER c == 2 &&
  s.chanVer c == 2

/-- May frames leave on a hop now? A peer port that is down holds them across its retraining (R270), the seam
until it is trained. -/
def State.hopUp (s : State) (hop : Nat) : Bool :=
  if hop < 16 then s.flag R.PEER_STATUS_UP (hop / 8) hop else if hop = 0x10 then s.seamTrained else true

def hopKey (hub hop : Nat) : Nat := hub * 32 + hop

/-- Send a partition's frame on a hop, or hold it until the hop is up. -/
def State.sendHop (s : State) (hub hop part : Nat) (f : Frame) : State :=
  let o := Out.ring hub hop [f.channel, f.pass] f.bytes
  if s.hopUp hop then
    (if hop < 16 then s.count R.PEER_TX_BYTES_COUNT f.size (hop / 8) hop else s).send o
  else { s with waitTx := nset (hopKey hub hop) (ngetD s.waitTx (hopKey hub hop) [] ++ [(part, o)]) s.waitTx }

/-- Send what waited for a hop, now that it is up. -/
def State.flushHop (s : State) (hub hop : Nat) : State :=
  let l := ngetD s.waitTx (hopKey hub hop) []
  let s : State := { s with waitTx := nerase (hopKey hub hop) s.waitTx }
  l.foldl (fun s x =>
    match x.2 with
    | .ring _ _ _ b => (if hop < 16 then s.count R.PEER_TX_BYTES_COUNT b.length (hop / 8) hop else s).send x.2
    | o => s.send o) s

/-! ### Buffers (R264) -/

/-- Does a STREAM gather at the head hold up the first frame (R296)? It waits at the hop, in no buffer. -/
def Chan.slotWait (h : Chan) : Bool := match h.head with | some x => x.op == 3 && decide (0 < x.rneed) && !h.inq.isEmpty | none => false

/-- Bytes that frames take in a RED_BUFFER. -/
def heldBytes (l : List HeldFrame) : Nat := l.foldl (fun n x => if x.loc.isNone then n + x.f.size else n) 0

/-- Bytes that a channel holds in its group's RED_BUFFER. -/
def Chan.held (h : Chan) : Nat :=
  (if h.slotWait then 0 else heldBytes h.inq) + (match h.head with | some x => heldBytes x.kept | none => 0) +
  h.done.foldl (fun n x => n + heldBytes x.kept) 0 +
  h.carry.foldl (fun n e => if e.loc.isNone then n + 4 * e.vals.length else n) 0

/-- The channels of a channel's group. -/
def groupChans (c : Nat) : List Nat := (List.range 8).map (fun i => c / 8 * 8 + i)

/-- Bytes that a group's channels hold in its RED_BUFFER. -/
def State.groupHeld (s : State) (c : Nat) : Nat := (groupChans c).foldl (fun n i => n + (s.chan i).held) 0

/-- R264: bytes of the group's RED_BUFFER carve-out on the home hub. -/
def State.redRoom (s : State) (c : Nat) : Nat :=
  (s.carves.filter (fun x => x.kind == 3 && x.owner == redRegion c && addrDie x.base == s.chanHome c)).foldl
    (fun n x => n + x.size) 0

/-- A carve-out among others in BASE order. -/
def insertCarve (x : Carve) : List Carve → List Carve
  | [] => [x]
  | y :: t => if x.base ≤ y.base then x :: y :: t else y :: insertCarve x t

/-- R264: the group's SPILL carve-outs in DRAM of the same half, in BASE order. -/
def State.redSpillCarves (s : State) (c : Nat) : List Carve :=
  (s.carves.filter (fun x => x.kind == 2 && x.owner == redRegion c && hubOf (addrDie x.base) == s.chanHome c)).foldr insertCarve []

/-- What a channel has in SPILL carve-outs, as (address, bytes). -/
def Chan.spilt (h : Chan) : List (Nat × Nat) :=
  let fr (l : List HeldFrame) : List (Nat × Nat) := l.filterMap (fun x => x.loc.map (fun a => (a, x.f.size)))
  fr h.inq ++ (match h.head with | some x => fr x.kept | none => []) ++ h.done.flatMap (fun x => fr x.kept) ++
  h.carry.filterMap (fun e => e.loc.map (fun a => (a, 4 * e.vals.length)))

/-- R264: where a frame goes in the group's SPILL carve-outs: the first in BASE order with room, at its lowest free 64-byte
offset (DESIGN CHOICE, log 93); none where they are full. -/
def State.spillPlace (s : State) (c size : Nat) : Option Nat :=
  let used := (groupChans c).flatMap (fun i => (s.chan i).spilt)
  (s.redSpillCarves c).findSome? fun x =>
    (([x.base] ++ used.map (fun u => roundUp (u.1 + u.2) 64)).filter (fun a =>
      decide (x.base ≤ a) && decide (a + size ≤ x.base + x.size) && used.all (fun u => !overlap u.1 u.2 a size))).min?

/-- RED_WEAVE_BYTES counts at the hub of the die whose memory is reached (R271). -/
def State.countWeave (s : State) (c a n : Nat) : State :=
  if isComp (addrDie a) then s.count R.RED_WEAVE_BYTES_COUNT n (hubOf (addrDie a)) c else s

/-- A frame is stored plainly in a SPILL carve-out, and counted (R264). -/
def State.spillStore (s : State) (c a : Nat) (b : List Byte) : State :=
  (((s.store (s.redWho c) a b).1).countWeave c a b.length).redCount R.RED_SPILLED_COUNT 1 c

/-- Bytes are read back from a SPILL carve-out; those that cannot be read are left open. -/
def State.spillLoad (s : State) (c a n : Nat) : State × List Byte × Bool :=
  match s.load (s.redWho c) a n with
  | (s, .ok b) => (s.countWeave c a n, b, true)
  | (s, .error k) =>
    let s := s.hubFault (s.chanHome c) 0x61 c 0 k a
    let (t, s) := s.tick
    (s, (List.range n).map (fun i => BitVec.ofNat 8 (Config.free t i)), false)

/-- A held frame as it is used: one in a SPILL carve-out is read back. -/
def State.readBack (s : State) (c : Nat) (x : HeldFrame) : State × Frame :=
  match x.loc with
  | none => (s, x.f)
  | some a =>
    let (s, b, ok) := s.spillLoad c a x.f.size
    let g := Frame.ofBytes b
    (s, if ok then { g with pass := x.f.pass } else { x.f with payload := g.payload })

/-- R170: are reduction spills at an address added by the die's near-memory adders? -/
def State.nmaSpills (s : State) (a : Nat) : Bool := s.claim 4 (addrDie a) == 7

/-- R169, R170: a contribution is added near memory to a spilt partial. -/
def State.nmaAdd (s : State) (c a : Nat) (b : List Byte) : State :=
  let go := (granules 4 (b.length / 4 + 1) a b.length).foldl (fun (st : State × List Byte) g =>
    let s := st.1
    let (r, nf) := addElems (s.mem.read g.1 4) (st.2.take 4)
    let i := (s.dramPlace g.1).1
    ((({ s with mem := s.mem.write g.1 r } : State).count R.NMA_ADDS_COUNT 1 (addrDie a) i).count R.NMA_NONFINITE_COUNT nf (addrDie a) i,
      st.2.drop 4)) (s, b)
  ((go.1.countDram R.HBMC_WR_BYTES_COUNT a b.length).invalidate a b.length).countWeave c a b.length

/-! ### Memory of a request (R266) -/

/-- R272: the status of a fault kind. -/
def redStatus (kind : Nat) : Nat := if kind = 6 then 9 else 0xB

def RHead.fail (h : RHead) (status : Nat) : RHead := if h.status = 0 then { h with status := status } else h

def RHead.ctx (h : RHead) : Nat := match h.req with | some q => q.ctx | none => 0
def RHead.raw (h : RHead) : Nat := match h.req with | some q => q.raw | none => 0

/-- R266: read for a reduction; a fault gives the request its status. -/
def State.redLoad (s : State) (c : Nat) (h : RHead) (a n : Nat) : State × RHead × Option (List Byte) :=
  match s.load (s.redWho c) a n with
  | (s, .ok b) => (s.countWeave c a n, h, some b)
  | (s, .error k) =>
    ((s.hubFault (s.chanHome c) 0x61 c h.ctx k a), h.fail (redStatus k), none)

/-- R266: write for a reduction; answers whether it was done. -/
def State.redStore (s : State) (c : Nat) (h : RHead) (a : Nat) (b : List Byte) : State × RHead × Bool :=
  match s.store (s.redWho c) a b with
  | (s, 0) => (s.countWeave c a b.length, h, true)
  | (s, k) => ((s.hubFault (s.chanHome c) 0x61 c h.ctx k a), h.fail (redStatus k), false)

/-! ### The deadline counter (R262) -/

/-- R258: is a straggler decision pending? -/
def State.straggling (s : State) (c : Nat) : Bool :=
  let h := s.chan c
  s.red R.RED_CH_TIMING_STRAGGLER_EN c == 1 && h.head.isNone &&
  (match h.inq with | x :: _ => !x.f.has flClosing && (x.f.pass == 1 || x.f.pass == 2) | [] => false) &&
  h.absStep != some (s.stepNumber (s.partOfChan c))

/-- R262: load the counter with T. -/
def State.loadDeadline (s : State) (c : Nat) : State :=
  if s.red R.RED_CH_TIMING_WATCHDOG_EN c = 1 then
    s.redPut R.RED_CH_STATUS_DEADLINE (max 1 (s.red R.RED_CH_TIMING_WATCHDOG c)) c
  else if s.red R.RED_CH_TIMING_STRAGGLER_EN c = 1 then
    s.redPut R.RED_CH_STATUS_DEADLINE (max 1 (s.red R.RED_CH_TIMING_WINDOW c)) c
  else s

/-! ### Sending (R252, R386) -/

/-- R386: is traffic attributed to this context and generation stale? -/
def State.ctxStale (s : State) (a : Nat × Nat) : Bool :=
  s.get R.OCT_CTX_STATE 0 0 a.1 == 0 || s.ctxGen a.1 != a.2

/-- R386: the context to which a channel's peer-port frames are attributed. -/
def Chan.attrib (h : Chan) : Option (Nat × Nat) :=
  match h.head with
  | some x =>
    match x.req with
    | some q => some (q.ctx, q.gen)
    | none => if x.closing then none else h.last
  | none => h.last

/-- R252, R253, R297: a member sends a frame onwards, as its own sender; EPOCH and STEP stay those of the member that
originated it (DEDUCED, log 94). -/
def State.redSend (s : State) (c : Nat) (h : RHead) (f : Frame) (data : Bool := true) : State × RHead :=
  let hop := s.red R.RED_CH_ROUTE_OUT_HOP c
  let f : Frame := { f with channel := s.red R.RED_CH_ROUTE_NEXT_CH c, sender := h.r }
  let h : RHead := { h with dneed := if data then h.dneed - 1 else h.dneed }
  let stale := match ({ s.chan c with head := some h } : Chan).attrib with
    | some a => decide (hop < 16) && s.ctxStale a
    | none => false
  if stale then (s.count R.OCT_STALE_CTX_COUNT 1 0, h)
  else ((s.sendHop (s.chanHome c) hop (s.partOfChan c) f).loadDeadline c, { h with sentCrc := crc64On h.sentCrc f.bytes })

/-! ### Contributions (R254, R256, R257, R260) -/

/-- A member's contribution to a segment, with any carried contribution added; none where it is absent or SRC
cannot be read (R266). -/
def State.contribution (s : State) (c : Nat) (h : RHead) (seg : Nat) : State × RHead × Option (List W32) :=
  if h.absent then (s, h, none)
  else if h.closing then (s, h, some (padSeg h.vals))
  else
    match nfind seg h.own with
    | some v => (s, h, v)
    | none =>
      let n := segLen h.elems seg
      let (s, h, b) := s.redLoad c h (rqSrc h.raw + 4 * segElems * seg) (4 * n)
      let v := b.map fun b =>
        let l := wordsOf b
        match h.carry with
        | some e =>
          let part := (e.drop (segElems * seg)).take n
          padSeg (List.zipWith f32Add l part ++ l.drop part.length)
        | none => padSeg l
      (s, { h with own := if h.bs16 then nset seg v h.own else h.own, fault := h.fault || v.isNone }, v)

/-- Does a payload hold a non-finite element, or a group marked NONFINITE or SATURATED (R254)? -/
def payloadBad (bs16 : Bool) (payload : List Byte) : Bool :=
  if bs16 then bs16Any 0 payload || bs16Any 1 payload else (wordsOf payload).any f32NonFinite

/-- R254, R257: the member adds its contribution to a frame's segment, or originates it. A partial that lies in a SPILL
carve-out under SPILL_REDUCE has it added there, and the sum is read back (R264). -/
def State.redAdd (s : State) (c : Nat) (h : RHead) (f : Frame) (origin : Bool) (loc : Option Nat := none) : State × RHead × Frame :=
  let (s, h, v) := s.contribution c h f.seg
  let zeros : List W32 := List.replicate segElems 0
  let use := match v with | some l => some l | none => if origin then some zeros else none
  let (s, f) : State × Frame :=
    match use with
    | none => (s, f)
    | some l =>
      if h.bs16 then
        let base := if origin then bs16Empty (ngetD h.exps f.seg noProposals) else f.payload
        let (pl, e, sa) := bs16Add base l
        ((s.redCount R.RED_ESCALATIONS_COUNT e c).redCount R.RED_SATURATED_COUNT sa c,
          { f with payload := pl, esc := min 0xFFFF (f.esc + e) })
      else
        match loc with
        | some a =>
          let (s, b, _) := (s.nmaAdd c a (bytesOf l)).spillLoad c a f.payload.length
          (s, { f with payload := b })
        | none => (s, { f with payload := bytesOf (if origin then l else List.zipWith f32Add (wordsOf f.payload) l) })
  let f : Frame := match v with
    | some _ => { f with present := f.present + 1, carried := f.carried + b2n h.carry.isSome }
    | none => f
  let f := if h.bs16 && bs16Any 1 f.payload then f.mark flSaturated else f
  let lost := v.isNone && !h.absent
  let f := if (lost || payloadBad h.bs16 f.payload) && !f.has flNonfinite then f.spoil h.r else f
  (s, h, f)

/-! ### Results (R255, R259) -/

/-- R255: decode a final segment and write it to DST. -/
def State.redDeliver (s : State) (c : Nat) (h : RHead) (f : Frame) : State × RHead :=
  let vals := segValues h.bs16 f.payload
  let vals := if rqNorm h.raw then normalised (f.present + f.carried) vals else vals
  let (s, h, ok) := s.redStore c h (rqDst h.raw + 4 * segElems * f.seg) (bytesOf (vals.take (segLen h.elems f.seg)))
  (s, if ok then { h with beats := h.beats + 1 } else h)

/-- A final segment at this member: GATHERED for the closing reduction (R234), kept for an absent member (R259),
written otherwise; a mismatched or rejected frame writes nothing, and leaves the verdict false (R265, R298, log 91). -/
def State.redFinal (s : State) (c : Nat) (h : RHead) (f : Frame) (mis : Bool) : State × RHead :=
  let bad := f.has flNonfinite || f.has flSaturated
  let h : RHead := { h with nf := h.nf || bad, esc := h.esc || (h.bs16 && bs16Escaped f.payload) }
  if h.closing then
    let p := s.partOfChan c
    if h.stale then (s, h)
    else (s.putStep p { s.stepSt p with gathered := some (if mis then [] else bytesOf (segValues h.bs16 f.payload), bad || mis) }, h)
  else if mis || h.past then (s, h)
  else if h.req.isNone then (s, { h with kept := h.kept ++ [{ f := f }] })
  else s.redDeliver c h f

/-! ### A new head (R248, R252) -/

/-- Frames a member of n at rank r receives and sends in an ALLREDUCE or REDUCE_SCATTER, roll call apart. -/
def dataIn (op n r S : Nat) (bs16 : Bool) : Nat :=
  if n ≤ 1 then 0 else
    b2n bs16 * (segsNot n S (r + n - 1) + segsNot n S r) + segsNot n S (r + n - 1) + b2n (op == 1) * segsNot n S r
def dataOut (op n r S : Nat) (bs16 : Bool) : Nat :=
  if n ≤ 1 then 0 else
    b2n bs16 * (segsNot n S r + segsNot n S (r + 1)) + segsNot n S r + b2n (op == 1) * segsNot n S (r + 1)
/-- Roll-call frames that a member receives (R252). -/
def rollsIn (n r : Nat) : Nat := if n ≤ 1 then 0 else b2n (r != 1) + b2n (r != 0)

def State.newHead (s : State) (c op redId elems step : Nat) (closing bs16 : Bool) : RHead :=
  let n := s.members? c
  let r := s.red R.RED_CH_ROUTE_RANK c
  let S := if op = 4 then 1 else ceilDiv elems segElems
  { op := op, closing := closing, redId := redId, elems := elems, segs := S, step := step,
    epoch := s.red R.RED_CH_EPOCH_EPOCH c, n := n, r := r, bs16 := bs16,
    rneed := (if op = 3 then (n - 1) * S else if op = 4 then 0 else dataIn op n r S bs16) + rollsIn n r,
    dneed := if op ≥ 3 then 0 else dataOut op n r S bs16 }

/-- Is the member the origin of a segment (R252)? -/
def RHead.origin (h : RHead) (seg : Nat) : Bool := (seg % h.n + 1) % h.n == h.r
def RHead.owner (h : RHead) (seg : Nat) : Bool := seg % h.n == h.r

/-- R252, R258: the origin sends a segment on its way. -/
def State.originate (s : State) (c : Nat) (h : RHead) (seg : Nat) : State × RHead :=
  let (s, h, f) := s.redAdd c h (h.frame 2 seg []) true
  s.redSend c h f

/-- The member's own segments as a reduction starts: a ring of one writes its own contribution (R252); with BS16
the exponent pass comes first (R256). -/
def State.originateAll (s : State) (c : Nat) (h : RHead) : State × RHead :=
  (List.range h.segs).foldl (fun (a : State × RHead) seg =>
    let (s, h) := a
    if h.n ≤ 1 then
      let (s, h, f) := s.redAdd c h (h.frame 2 seg []) true
      s.redFinal c h f false
    else if h.origin seg then
      if h.bs16 then
        let (s, h, v) := s.contribution c h seg
        s.redSend c h (h.frame 1 seg (match v with | some l => proposals l | none => noProposals))
      else s.originate c h seg
    else (s, h)) (s, h)

/-! ### Frames at the head (R252 to R257) -/

/-- Exponent pass (R256). -/
def State.onExponent (s : State) (c : Nat) (h : RHead) (f : Frame) (mis : Bool) : State × RHead :=
  let hr := s.red R.RED_CH_TIMING_HEADROOM c
  let onward := (h.r + 1) % h.n != f.seg % h.n
  if h.origin f.seg || h.pfwd.contains f.seg then
    let h : RHead := { h with exps := nset f.seg (agreedG f.payload hr) h.exps }
    let (s, h) := if onward then s.redSend c h f else (s, h)
    if h.origin f.seg then s.originate c h f.seg else (s, h)
  else
    let (s, h, v) := if mis then (s, h, none) else s.contribution c h f.seg
    let pl := match v with | some l => mergeProposals f.payload (proposals l) | none => f.payload
    let h : RHead := if h.owner f.seg then { h with exps := nset f.seg (agreedG pl hr) h.exps }
      else { h with pfwd := f.seg :: h.pfwd }
    s.redSend c h { f with payload := pl }

/-- Reduce-scatter pass (R254). -/
def State.onReduce (s : State) (c : Nat) (h : RHead) (f : Frame) (mis : Bool) (loc : Option Nat) : State × RHead :=
  let (s, h, f) := if mis then (s, h, f) else s.redAdd c h f false loc
  if h.owner f.seg then
    let (s, h) := s.redFinal c h f mis
    if h.op = 1 then s.redSend c h { f with pass := 3 } else (s, h)
  else s.redSend c h f

/-- All-gather pass (R255). -/
def State.onGathered (s : State) (c : Nat) (h : RHead) (f : Frame) (mis : Bool) : State × RHead :=
  let (s, h) := s.redFinal c h f mis
  if (h.r + 1) % h.n ≠ f.seg % h.n then s.redSend c h f else (s, h)

/-- R253: a roll call reaches the member: on its first leg it waits until the member's data are sent, on the
second it is kept and passed on. A rejected one is passed on, and nothing is marked in it or taken from it (R298). -/
def State.onRoll (s : State) (c : Nat) (h : RHead) (f : Frame) (mis : Bool) : State × RHead :=
  let h : RHead := { h with rolls := h.rolls + 1 }
  if h.r = 0 ∨ (h.r ≠ 1 ∧ h.rolls = 1) then (s, { h with roll1 := some f, rollMis := mis })
  else
    let h : RHead := { h with rollFinal := if mis then none else some f.payload, arrived := true }
    if h.r + 1 ≠ h.n then s.redSend c h f (data := false) else (s, h)

/-- R253, R269: the member's own marks in the roll call. -/
def State.rollOwn (s : State) (c : Nat) (h : RHead) (roll : List Byte) : List Byte :=
  rollMark roll h.r (!h.absent && !h.fault) h.carry.isSome (s.chanVer c)

/-- R253: pass the roll call on once the member's own data have gone. -/
def State.rollDuty (s : State) (c : Nat) (h : RHead) : State × RHead :=
  if h.n ≤ 1 ∨ h.dneed ≠ 0 then (s, h)
  else
    let (s, h) :=
      if h.r = 1 ∧ !h.r1sent then
        s.redSend c { h with r1sent := true } (h.frame 4 0 (s.rollOwn c h (rollNew h))) (data := false)
      else (s, h)
    match h.roll1 with
    | none => (s, h)
    | some f =>
      let roll := if h.rollMis then f.payload else s.rollOwn c h f.payload
      let h : RHead := { h with roll1 := none }
      let h : RHead := if h.r = 0 then { h with rollFinal := if h.rollMis then none else some roll, arrived := true } else h
      s.redSend c h { f with payload := roll } (data := false)

/-! ### Gathers at the head (R294, R296) -/

/-- R91: signal a request's token. -/
def State.redSignal (s : State) (q : RedReq) : State :=
  if rqSignal q.raw && !q.nosig then s.signal (rqSigDie q.raw) (rqSigCore q.raw) (rqSigTok q.raw) else s

/-- R296: the place of an origin's shard in the order in which this member writes shards. -/
def RHead.shardOf (h : RHead) (origin : Nat) : Nat := (h.r + h.n - origin % h.n) % h.n

/-- R296: is the shard's slot free? CONSUMED is read again each time. -/
def State.slotFree (s : State) (c : Nat) (h : RHead) (k : Nat) : State × RHead × Bool :=
  let d := h.raw
  if !rqStream d || decide (k < rqSlots d) then (s, h, true)
  else
    let (s, h, b) := s.redLoad c h (rqCons d) 8
    (s, h, match b with | some b => decide (k - rqSlots d + 1 ≤ leVal b) | none => false)

/-- R294, R296: write a segment of a shard, widened; a STREAM request signals after each whole shard. -/
def State.writeShard (s : State) (c : Nat) (h : RHead) (origin seg : Nat) (payload : List Byte) : State × RHead :=
  let d := h.raw
  let (row, scl) := widen (rqGFmt d) (rqOut d) payload
  let k := h.shardOf origin
  let base := if rqStream d then rqDst d + (k % rqSlots d) * slotBytes d + segElems * seg * fmtWidth (rqOut d) / 8
    else rqDst d + (origin * h.elems + segElems * seg) * fmtWidth (rqOut d) / 8
  let sbase := if rqStream d then rqScl d + (k % rqSlots d) * sclSlot d + segElems / 32 * seg
    else rqScl d + origin * (h.elems / 32) + segElems / 32 * seg
  let (s, h, ok) := s.redStore c h base row
  let (s, h, ok2) := if rqOut d = 3 then s.redStore c h sbase scl else (s, h, true)
  let h : RHead := if ok && ok2 then { h with beats := h.beats + 1 } else h
  let n := ngetD h.shards k 0 + 1
  let h : RHead := { h with shards := nset k n h.shards }
  match h.req with
  | some q => (if rqStream d && n == h.segs then s.redSignal q else s, h)
  | none => (s, h)

/-- R294: narrow, send and write the member's own shard. -/
def State.gatherOwn (s : State) (c : Nat) (h : RHead) : State × RHead :=
  (List.range h.segs).foldl (fun (a : State × RHead) seg =>
    let (s, h) := a
    let d := h.raw
    let n := segLen h.elems seg
    let (s, h, b) := s.redLoad c h (rqSrc d + 4 * segElems * seg) (4 * n)
    let f := h.frame 3 seg []
    let ext := gatherExt (rqGFmt d) (rqGScale d) h.r
    match b with
    | some b =>
      let (pl, nf) := narrow (rqGFmt d) (wordsOf b)
      let f : Frame := { f with ext := ext, payload := pl }
      let f := if nf then f.spoil h.r else f
      let h : RHead := { h with nf := h.nf || nf }
      let (s, h) := if h.n > 1 then s.redSend c h f else (s, h)
      s.writeShard c h h.r seg pl
    | none =>
      let (k, s) := s.tick
      let len := if rqGFmt d = 0 then 4 * n else if rqGFmt d = 1 then 2 * n else n + ceilDiv n 32
      let f : Frame := { f with ext := ext, payload := (List.range len).map (fun i => BitVec.ofNat 8 (Config.free k i)) }
      if h.n > 1 then s.redSend c { h with nf := true } (f.spoil h.r) else (s, { h with nf := true })) (s, h)

/-- An ALLGATHER frame: written, then passed on (R294, R296). -/
def State.onShard (s : State) (c : Nat) (h : RHead) (f : Frame) (mis : Bool) : State × RHead :=
  let bad := f.has flNonfinite || f.has flSaturated
  let h : RHead := { h with nf := h.nf || bad }
  let (s, h) := if mis then (s, h) else s.writeShard c h f.origin f.seg f.payload
  if (h.r + 1) % h.n ≠ f.origin % h.n then s.redSend c h f else (s, h)

/-! ### The overnight carry (R260, R261, R302) -/

/-- R264: where an entry of so many bytes goes: the RED_BUFFER, a SPILL carve-out, or nowhere. -/
def State.carryPlace (s : State) (c bytes : Nat) : Option (Option Nat) :=
  if s.groupHeld c + bytes ≤ s.redRoom c then some none else (s.spillPlace c bytes).map some

/-- R260, R261, R302: a new entry joins the carry buffer, if there is room. -/
def State.carryAdd (s : State) (c : Nat) (e : CarryE) : State × Bool :=
  match s.carryPlace c (4 * e.vals.length) with
  | none => (s.redCount R.RED_CARRY_FULL_COUNT 1 c, false)
  | some loc =>
    let s := match loc with | some a => s.spillStore c a (bytesOf e.vals) | none => s
    (s.putChan c { s.chan c with carry := (s.chan c).carry ++ [{ e with loc := loc }] }, true)

/-- R260, R261: store a late contribution; one that finds no room is dropped, as under DROP. -/
def State.carryPut (s : State) (c : Nat) (e : CarryE) : State × Bool :=
  let h := s.chan c
  let old := h.carry.any (fun x => x.redId == e.redId)
  let s := if old then (s.putChan c { h with carry := h.carry.filter (fun x => x.redId != e.redId) }).redCount
      R.RED_CARRY_EXPIRED_COUNT 1 c else s
  let (s, ok) := s.carryAdd c e
  (if ok then s else s.redCount R.RED_DROPPED_LATE_COUNT 1 c, ok)

/-- The values of a carry entry, read back where it was spilt (R264). -/
def State.carryVals (s : State) (c : Nat) (e : CarryE) : State × List W32 :=
  match e.loc with
  | none => (s, e.vals)
  | some a => let (s, b, _) := s.spillLoad c a (4 * e.vals.length); (s, wordsOf b)

/-- R260: take the entry that a request of this RED_ID and step adds. -/
def State.carryTake (s : State) (c redId step : Nat) : State × Option (List W32) :=
  let h := s.chan c
  match h.carry.find? (fun e => e.redId == redId && (e.step + 1) % 2 ^ 32 == step) with
  | some e =>
    let (s, v) := s.carryVals c e
    (s.putChan c { h with carry := h.carry.filter (fun x => x.redId != redId) }, some v)
  | none => (s, none)

/-! ### PERMUTE at the head (R299 to R302) -/

/-- Write a PASS 5 frame at its owner (R301, R302). An entry that finds no room is dropped whole, and counted once. -/
def State.moveWrite (s : State) (c : Nat) (h : RHead) (f : Frame) : State × RHead :=
  if f.mvKind = 0 then
    let a := f.mvDst % 2 ^ 48
    match s.redStore c h a f.payload with
    | (s, h, true) =>
      (s.redCount R.RED_MOVED_BYTES_COUNT f.payload.length c,
        { h with beats := h.beats + 1, spans := (a, f.payload.length) :: h.spans })
    | (s, h, false) => (s, { h with spans := (a, f.payload.length) :: h.spans })
  else
    let made := (s.chan c).carry.any (fun e => e.made && e.redId == f.mvNewId)
    let (s, made) : State × Bool :=
      if made then (s, true)
      else if h.noRoom.contains f.mvNewId then (s, false)
      else s.carryAdd c { redId := f.mvNewId, step := f.mvStep, vals := List.replicate f.mvElems 0, made := true }
    if !made then (s, { h with noRoom := f.mvNewId :: h.noRoom })
    else
      let vals := wordsOf f.payload
      let ch := s.chan c
      let put (l : List W32) : List W32 :=
        (l.take f.mvDst ++ vals ++ l.drop (f.mvDst + vals.length)).take l.length
      let s := s.putChan c { ch with carry := ch.carry.map (fun e =>
        if e.made && e.redId == f.mvNewId then { e with vals := put e.vals } else e) }
      let s := match ch.carry.find? (fun e => e.made && e.redId == f.mvNewId) with
        | some e =>
          match e.loc with
          | some a =>
            let b := bytesOf (vals.take (e.vals.length - f.mvDst))
            ((s.store (s.redWho c) (a + 4 * f.mvDst) b).1).countWeave c a b.length
          | none => s
        | none => s
      (s.redCount R.RED_MOVED_BYTES_COUNT f.payload.length c, { h with beats := h.beats + 1 })

/-- A move frame goes out, or is written here where this member is its owner (R301). -/
def State.moveOut (s : State) (c : Nat) (h : RHead) (f : Frame) : State × RHead :=
  if f.dest = h.r then s.moveWrite c h f else s.redSend c h f

/-- R299, R301, R302: send the frames of one map entry. -/
def State.moveEntryOut (s : State) (c : Nat) (h : RHead) (e : MoveEntry) : State × RHead :=
  if e.kind = 0 then
    (List.range (ceilDiv e.count 16384)).foldl (fun (a : State × RHead) i =>
      let (s, h) := a
      let len := min 16384 (e.count - 16384 * i)
      match s.redLoad c h (e.src + 16384 * i) len with
      | (s, h, some b) =>
        s.moveOut c h { h.frame 5 0 b with ext := moveExt e.dest 0 0 len 0 (e.dst + 16384 * i) 0 }
      | (s, h, none) => (s, h)) (s, h)
  else
    match (s.chan c).carry.find? (fun x => x.redId == e.oldId && !x.made) with
    | none => (s, h)
    | some x =>
      let (s, own) := s.carryVals c x
      (List.range (ceilDiv e.count segElems)).foldl (fun (a : State × RHead) i =>
        let (s, h) := a
        let n := min segElems (e.count - segElems * i)
        let (k, s) := s.tick
        let vals : List W32 := (List.range n).map (fun j =>
          own.getD (e.src + segElems * i + j) (BitVec.ofNat 32 (Config.free k j)))
        s.moveOut c h { h.frame 5 0 (bytesOf vals) with
          ext := moveExt e.dest 1 e.newId (4 * n) x.step (e.dst + segElems * i) e.newElems }) (s, h)

/-- R300: the first failure of the move map's checks. -/
def State.mapCheck (s : State) (c n : Nat) : List MoveEntry → Nat
  | [] => 0
  | e :: t =>
    if e.bad || decide (n ≤ e.dest) then 4
    else if e.kind = 0 ∧ s.judge (s.redWho c) e.src e.count ≠ 0 then 5
    else s.mapCheck c n t

/-- R300: the PERMUTE starts: read and check the map, and send every move frame. -/
def State.permuteBegin (s : State) (c : Nat) (h : RHead) : State × RHead :=
  let s := s.redPut R.RED_CH_EPOCH_PERMUTING 1 c
  let n := rqMap h.raw
  let (s, h, b) := s.redLoad c h (rqSrc h.raw) (32 * n)
  let h : RHead := if h.n ≤ 1 then { h with arrived := true } else h
  match b with
  | none => (s, h)
  | some b =>
    let es := (chunks 32 n b).map moveEntry
    let st := s.mapCheck c h.n es
    if st ≠ 0 then (s, h.fail st)
    else es.foldl (fun (a : State × RHead) e => a.1.moveEntryOut c a.2 e) (s, h)

/-- A PASS 5 frame at the head (R301); where a rejected one was to go is left undefined at the end (R303). -/
def State.onMove (s : State) (c : Nat) (h : RHead) (f : Frame) (mis : Bool) : State × RHead :=
  let h : RHead := { h with nf := h.nf || f.has flNonfinite }
  if f.dest = h.r then
    if !mis then s.moveWrite c h f
    else (s, if f.mvKind = 0 then { h with spans := (f.mvDst % 2 ^ 48, f.payload.length) :: h.spans } else h)
  else s.redSend c h f

/-! ### A frame of the head -/

/-- R265, R298: a mismatched or rejected frame: its marks, the request's status, and the counts. -/
def State.redMismatch (s : State) (c : Nat) (h : RHead) (f : Frame) (st : Nat) : State × RHead × Frame :=
  let f := (f.mark flMismatch).spoil h.r
  let p := s.partOfChan c
  let s :=
    if st = 0x14 then
      let s := s.redCount R.RED_EPOCH_REJECTS_COUNT 1 c
      if s.phase p = phIdle then s.redPut R.RED_CH_EPOCH_TAINTED 1 c else if h.stale then s else s.stepEpoch p h.step
    else s.redPut R.RED_CH_ERROR_MISMATCH 1 c
  (s, h.fail st, f)

/-- A frame of the head is taken in its turn (R262, R265, R267, R298). `loc`: where its payload still lies, for a near-memory
add (R264). -/
def State.headFrame (s : State) (c : Nat) (h : RHead) (f : Frame) (loc : Option Nat) : State × RHead :=
  let s := s.loadDeadline c
  let h : RHead := { h with rneed := h.rneed - 1, recvCrc := crc64On h.recvCrc f.bytes }
  let st := if h.absent then 0 else h.mismatch (s.red R.RED_CH_EPOCH_EPOCH c) f
  let s := if (f.has flNonfinite || f.has flSaturated) && !h.closing && !h.stale && decide (h.op ≤ 2) then
      s.stepBad (s.partOfChan c) h.step else s
  let (s, h, f) := if st = 0 then (s, h, f) else s.redMismatch c h f st
  let mis := st != 0
  match f.pass with
  | 1 => s.onExponent c h f mis
  | 2 => s.onReduce c h f mis loc
  | 3 => if h.op = 3 then s.onShard c h f mis else s.onGathered c h f mis
  | 4 => s.onRoll c h f mis
  | 5 => s.onMove c h f mis
  | _ => (s, h)

/-- The head takes a held frame: one in a SPILL carve-out is read back first, unless the member's contribution is to be
added to it there (R264). -/
def State.takeHeld (s : State) (c : Nat) (h : RHead) (x : HeldFrame) : State × RHead :=
  match x.loc with
  | none => s.headFrame c h x.f none
  | some a =>
    if x.f.pass = 2 ∧ !h.bs16 ∧ !h.absent ∧ s.nmaSpills a ∧ h.mismatch (s.red R.RED_CH_EPOCH_EPOCH c) x.f = 0 then
      s.headFrame c h x.f (some a)
    else
      let (s, f) := s.readBack c x
      s.headFrame c h f none

/-- May the head take the frame now? A STREAM gather waits for its slot (R296); a PERMUTE takes every frame until
the roll call's second leg. -/
def State.headTakes (s : State) (c : Nat) (h : RHead) (f : Frame) : State × RHead × Bool :=
  if (if h.op = 4 then !h.arrived else decide (0 < h.rneed)) then
    if h.op = 3 ∧ f.pass = 3 then s.slotFree c h (h.shardOf f.origin) else (s, h, true)
  else (s, h, false)

/-! ### Completion (R95, R251, R266) -/

/-- A request completes: its record, its error, its signal, its context's count. -/
def State.redDone (s : State) (c : Nat) (q : RedReq) (held : Bool) (status flags beats : Nat) : State :=
  let hub := s.chanHome c
  let (k, s) := s.tick
  let elapsed := if held then Config.free k 0 % 2 ^ 32 else 0
  let s := if status ≠ 0 ∨ rqComplete q.raw then
      s.qRecord redQ (s.redWho c) hub c 0 (rqTag q.raw) status flags beats elapsed c q.gen
    else s
  let s := if status ≠ 0 ∧ status ≠ 0xA then
      (((((s.put redQ.stopped 1 hub c).put R.RED_CH_ERROR_STATUS status hub c).put R.RED_CH_ERROR_CONTEXT q.ctx hub c).put
        R.RED_CH_ERROR_TAG (rqTag q.raw) hub c).set1 R.RED_CH_ERROR_DESC_FAIL hub c)
    else s
  let s := if rqOp q.raw = 3 ∧ rqStream q.raw ∧ held then s else s.redSignal q
  let s := s.qDone redQ hub c 0
  if held then s.ctxRelease q.ctx else s

/-- The FLAGS of a completion record, PHASE apart (R251). -/
def RHead.doneFlags (h : RHead) : Nat := 2 * b2n h.absent + 4 * b2n h.carriedLate + 8 * b2n h.nf + 16 * b2n h.esc

/-- R297, R302, R303: a PERMUTE ends at this member: EPOCH goes up, the old carry entries go, and any failure
taints the channel and leaves the regions it moved undefined. -/
def State.permuteEnd (s : State) (c : Nat) (h : RHead) : State :=
  let s := s.redPut R.RED_CH_EPOCH_EPOCH ((s.red R.RED_CH_EPOCH_EPOCH c + 1) % 65536) c
  let s := s.redPut R.RED_CH_EPOCH_PERMUTING 0 c
  let ch := s.chan c
  let old := ch.carry.filter (fun e => !e.made)
  let s := (s.putChan c { ch with carry := (ch.carry.filter (·.made)).map (fun e => { e with made := false }) }).redCount
    R.RED_CARRY_EXPIRED_COUNT old.length c
  if h.status = 0 then s
  else
    let s := s.redPut R.RED_CH_EPOCH_TAINTED 1 c
    s.forgetSpans h.spans

/-- A started request's reduction has finished at this member: ROLL is written, the step is told, a PERMUTE ends, and the
request completes, unless it was answered already. -/
def State.headDone (s : State) (c : Nat) (h : RHead) : State :=
  match h.req with
  | none => s
  | some q =>
    let s := if h.op ≤ 2 ∧ !h.closing then s.stepFinished (s.partOfChan c) else s
    let (s, h) : State × RHead :=
      match h.rollFinal with
      | some roll =>
        if rqRoll q.raw ≠ 0 ∧ !h.past then let r := s.redStore c h (rqRoll q.raw) roll; (r.1, r.2.1) else (s, h)
      | none => (s, h)
    let s := if h.op = 4 then s.permuteEnd c h else s
    if h.past then s else s.redDone c q true h.status h.doneFlags h.beats

/-- R267: record the digests of a reduction that has ended here. -/
def State.digest (s : State) (c : Nat) (h : RHead) (complete : Bool) : State :=
  let hub := s.chanHome c
  let k := s.red R.RED_CH_STATUS_DIGEST_NEXT c
  let s := s.wr R.RED_DIG_INFO hub c k
    (h.redId + 2 ^ 16 + b2n complete * 2 ^ 17 + b2n h.absent * 2 ^ 18 + h.step % 2 ^ 32 * 2 ^ 32)
  let s := (s.wr R.RED_DIG_SENT hub c k h.sentCrc).wr R.RED_DIG_RECV hub c k h.recvCrc
  s.redPut R.RED_CH_STATUS_DIGEST_NEXT (k + 1) c

/-- Has the head done all that it does, its completion apart? -/
def RHead.complete (h : RHead) : Bool :=
  if h.op = 4 then false
  else h.rneed == 0 && h.dneed == 0 && (decide (h.n ≤ 1) || h.arrived)

/-- A reduction finishes at this member (R248, R269). -/
def State.headFinish (s : State) (c : Nat) (h : RHead) : State :=
  let s := s.putChan c { s.chan c with head := none }
  let s := (s.redCount R.RED_REDUCTIONS_COUNT 1 c).digest c h true
  let s := match h.rollFinal with
    | some roll => s.redPut R.RED_CH_STATUS_RING_VER (rollVer roll) c
    | none => s
  let s := s.headDone c h
  let s := if h.req.isNone && !h.closing then
      let ch := s.chan c
      s.putChan c { ch with done := ch.done ++ [h] }
    else s
  if (s.chan c).inq.isEmpty then s else s.loadDeadline c

/-! ### Absence (R258, R259) -/

/-- R258: the opcode of a reduction whose own request has not started: that of the request where it has been taken; where it
has not, nothing the member holds names it, and it is left open (DESIGN CHOICE, log 95). -/
def State.absentOp (s : State) (ch : Chan) : State × Nat :=
  match ch.nxt, ch.done with
  | some q, [] => (s, if rqOp q.raw = 2 then 2 else 1)
  | _, _ => let (k, s) := s.tick; (s, 1 + Config.free k 0 % 2)

/-- The member becomes absent for the reduction whose first frame waits. -/
def State.becomeAbsent (s : State) (c : Nat) : State :=
  let ch := s.chan c
  match ch.inq with
  | [] => s
  | x :: _ =>
    let f := x.f
    let (s, op) := s.absentOp ch
    let bs16 := f.pass == 1 || f.has flBs16
    let h : RHead := { s.newHead c op f.redId f.elems f.step false bs16 with absent := true }
    let s := s.redCount R.RED_STRAGGLES_COUNT 1 c
    let s := s.putChan c { ch with head := some h, absStep := some (s.stepNumber (s.partOfChan c)) }
    let (s, h) := s.originateAll c h
    let (s, h) := s.rollDuty c h
    (s.putChan c { s.chan c with head := some h }).loadDeadline c

/-- R259, R260: the late request of an absent member starts: its contribution is dropped or carried, and the
results kept are written. -/
def State.lateStart (s : State) (c : Nat) (h : RHead) (q : RedReq) : State × RHead :=
  let s := (s.ctxHold q.ctx).stepStarted (s.partOfChan c)
  let h : RHead := { h with req := some q }
  let (s, h) : State × RHead :=
    if s.red R.RED_CH_TIMING_POLICY c = 1 then
      match s.redLoad c h (rqSrc q.raw) (4 * rqElems q.raw) with
      | (s, h, some b) =>
        let (s, ok) := s.carryPut c { redId := h.redId, step := h.step, vals := wordsOf b }
        if ok then (s.redCount R.RED_CARRIED_COUNT 1 c, { h with carriedLate := true }) else (s, h)
      | (s, h, none) => (s, h)
    else (s.redCount R.RED_DROPPED_LATE_COUNT 1 c, h)
  let kept := h.kept
  kept.foldl (fun (a : State × RHead) x =>
    let (s, f) := a.1.readBack c x
    s.redDeliver c a.2 f) (s, { h with kept := [] })

/-! ### Hangs (R263) -/

/-- A channel hangs: its head ends, its frames are discarded, requests taken complete with CHANNEL_HUNG. -/
def State.chanHang (s : State) (c : Nat) : State :=
  let ch := s.chan c
  let p := s.partOfChan c
  let s := (s.redPut R.RED_CH_ERROR_HANG 1 c).redCount R.RED_STALE_FRAMES_COUNT ch.inq.length c
  let id : Nat × Nat := match ch.head, ch.inq with
    | some h, _ => (h.redId, h.step)
    | none, x :: _ => (x.f.redId, x.f.step)
    | none, [] => (0, s.stepNumber p)
  let s := s.putChan c { ch with hung := true, head := none, inq := [], nxt := none, closing := none, olds := [], done := [] }
  let lost := ch.closing.isSome || (match ch.head with | some h => h.closing && !h.stale | none => false)
  let s := match ch.head with
    | some h =>
      let h : RHead := { h with status := 0x11, rollFinal := none }
      (s.digest c h false).headDone c h
    | none => s
  let s := match ch.nxt with | some q => s.redDone c q false 0x12 0 0 | none => s
  let s := s.faultNotice 2 (s.chanHome c) p 0x61 0 c 0xFF 0 id.1 id.2
  if lost && s.phase p == phAwait then s.verdictLost p else s

/-! ### The channel at work -/

/-- R248: begin a reduction whose request has started, or the closing reduction. -/
def State.headBegin (s : State) (c : Nat) (h : RHead) : State :=
  let s := s.putChan c { s.chan c with head := some h }
  let s := s.loadDeadline c
  let (s, h) : State × RHead :=
    match h.op with
    | 3 => s.gatherOwn c h
    | 4 => s.permuteBegin c h
    | _ => s.originateAll c h
  let (s, h) := s.rollDuty c h
  s.putChan c { s.chan c with head := some h }

/-- The closing reduction goes to the head (R248, R277). -/
def State.closingBegin (s : State) (c : Nat) (vals : List W32) (stale : Bool) : State :=
  let h : RHead := { s.newHead c 1 (Config.closingRedId % 65536) segElems (s.stepNumber (s.partOfChan c)) true false with vals := vals, stale := stale }
  s.headBegin c h

/-- R17, R18, R426: can the home hub use the memory of a request: the ways there are trained, and no die or unit there is in dusk or
reset? -/
def State.spansOk (s : State) (c : Nat) (l : List (Nat × Nat)) : Bool :=
  s.linkedTo (s.chanHome c) (l.map (·.1)) && l.all (fun x => !s.cutAt (s.chanHome c) none x.1 x.2)

/-- R17, R18: can the home hub reach the memory that the head reads and writes, and the carve-out where the first frame lies? The
channel waits while it cannot (R333). -/
def State.headLinked (s : State) (c : Nat) (h : RHead) : Bool :=
  let spilt := match (s.chan c).inq with | x :: _ => x.loc.toList | [] => []
  s.linkedTo (s.chanHome c) spilt && (match h.req with | some q => s.spansOk c (reqSpans q.raw h.n) | none => true)

/-- R426: does the head's request read or write a die in dusk or in reset? -/
def State.headCut (s : State) (c : Nat) (h : RHead) (q : RedReq) : Bool :=
  !h.past && (reqSpans q.raw h.n).any (fun x => s.cutAt (s.chanHome c) none x.1 x.2)

/-- R387, R426: a started request is answered with ABORTED; the ring goes on without it. -/
def State.headAbort (s : State) (c : Nat) (h : RHead) (q : RedReq) : State :=
  (s.redDone c q true stAborted 0 h.beats).putChan c { s.chan c with head := some { h with past := true } }

/-- One thing the channel does of itself: answer a request that a reset cuts off (R426), take a frame, finish, begin the closing reduction, or decide absent
a reduction of a step for which the member is absent; and whether it may have more to do. -/
def State.chanStep (s : State) (c : Nat) : State × Bool :=
  let ch := s.chan c
  if ch.hung then (s, false)
  else
    match ch.head with
    | some h =>
      match h.req.filter (s.headCut c h) with
      | some q => (s.headAbort c h q, true)
      | none =>
        if !s.headLinked c h then (s, false)
        else if h.complete then (s.headFinish c h, true)
        else
          match ch.inq with
          | [] => (s, false)
          | x :: t =>
            let (s, h, ok) := s.headTakes c h x.f
            if !ok then
              -- a slot not free: the frame waits (R296)
              (s.putChan c { s.chan c with head := some h }, false)
            else
              let s := s.putChan c { s.chan c with inq := t, head := some h }
              let (s, h) := s.takeHeld c h x
              let (s, h) := s.rollDuty c h
              (s.putChan c { s.chan c with head := some h }, true)
    | none =>
      match ch.olds, ch.closing with
      | vals :: t, _ => ((s.putChan c { ch with olds := t }).closingBegin c vals true, true)
      | [], some vals => ((s.putChan c { ch with closing := none }).closingBegin c vals false, true)
      | [], none =>
        match ch.inq with
        | x :: _ =>
          if s.red R.RED_CH_TIMING_STRAGGLER_EN c = 1 ∧ !x.f.has flClosing ∧ (x.f.pass = 1 ∨ x.f.pass = 2) ∧
              ch.absStep = some (s.stepNumber (s.partOfChan c)) then
            (s.becomeAbsent c, true)
          else (s, false)
        | [] => (s, false)

/-- The channel goes on until nothing is to do, with fuel. -/
def State.chanRun (c : Nat) : Nat → State → State
  | 0, s => s
  | k + 1, s => match s.chanStep c with | (s, true) => State.chanRun c k s | (s, false) => s

def State.chanPump (s : State) (c : Nat) : State := State.chanRun c (2 * (s.chan c).inq.length + 8) s

/-! ### Commands: requests -/

/-- R251: the checks of a request as it is taken: 0, or its status. -/
def State.reqCheck (s : State) (c d : Nat) : Nat :=
  let p := s.partOfChan c
  let noTok := (rqWait d && !(s.tokenOk (rqWaitDie d) (rqWaitCore d) (some p))) ||
    (rqSignal d && !(s.tokenOk (rqSigDie d) (rqSigCore d) (some p)))
  if rqOp d > 4 then 1
  else if reqFlagsBad d || noTok then 4
  else if s.members? c = 0 then 0x10
  else if rqSrc d % 64 ≠ 0 ∨ rqDst d % 64 ≠ 0 ∨ rqRoll d % 64 ≠ 0 then 5
  else if (reqSpans d (s.members? c)).any (fun x => s.judge (s.redWho c) x.1 x.2 != 0) then 5
  else 0

/-- Requests of a channel taken and not completed. -/
def Chan.inFlight (h : Chan) : Nat :=
  b2n h.nxt.isSome + b2n (match h.head with | some x => x.req.isSome | none => false)

/-- RED_REQUEST_TAKE: the channel takes its next request and checks it (R251, R383). -/
def redRequestTakeEff (c : Nat) (s : State) : State :=
  let hub := s.chanHome c
  let ch := s.chan c
  let free := match ch.head with | none => true | some h => h.absent
  if !s.running (redRegion c) || ch.nxt.isSome || !free || !s.qReady redQ hub c 0 ch.inFlight ||
      !s.linkedTo hub [s.qSlot redQ hub c 0] then s
  else
    let a := s.qSlot redQ hub c 0
    let (s, r) := s.load (s.redWho c) a 64
    let s := s.qAdvance redQ hub c 0
    let p := s.partOfChan c
    match r with
    | .error k =>
      let s := s.hubFault hub 0x61 c 0 k a
      s.redDone c { ctx := 0, gen := s.ctxGen 0, raw := 0 } false 9 0 0
    | .ok b =>
      let raw := leVal b
      let x := rqCtx raw
      let noTok := (rqWait raw && !(s.tokenOk (rqWaitDie raw) (rqWaitCore raw) (some p))) ||
        (rqSignal raw && !(s.tokenOk (rqSigDie raw) (rqSigCore raw) (some p)))
      let q : RedReq := { ctx := x, gen := s.ctxGen x, raw := raw, nosig := noTok }
      let s := s.putChan c { s.chan c with last := some (x, q.gen) }
      if !s.ctxOpen x || s.ctxPart x != some p then s.redDone c q false 0xA 0 0
      else if ch.hung then s.redDone c q false 0x12 0 0
      else
        let st := s.reqCheck c raw
        if st ≠ 0 then s.redDone c q false st 0 0 else s.putChan c { s.chan c with nxt := some q }

/-- R17, R91, R248, R426: are the gate and the token of a taken request met, and can its memory be reached? -/
def State.reqReady (s : State) (c : Nat) (q : RedReq) : Bool :=
  let op := rqOp q.raw
  ((op != 1 && op != 2) || s.gateOpen (s.partOfChan c)) &&
  s.spansOk c (reqSpans q.raw (s.members? c)) &&
  (!rqWait q.raw || s.token (rqWaitDie q.raw) (rqWaitCore q.raw) (rqWaitTok q.raw) != 0)

/-- R91: a request that starts takes its token. -/
def State.reqToken (s : State) (q : RedReq) : State :=
  if rqWait q.raw then s.takeToken (rqWaitDie q.raw) (rqWaitCore q.raw) (rqWaitTok q.raw) else s

/-- A request starts as a reduction of its own (R248, R259, R260). -/
def State.freshStart (s : State) (c : Nat) (q : RedReq) : State :=
  let p := s.partOfChan c
  let op := rqOp q.raw
  let s := s.ctxHold q.ctx
  let s := if op ≤ 2 then s.stepStarted p else s
  let step := s.stepNumber p
  let (s, carry) : State × Option (List W32) := if op ≤ 2 then s.carryTake c (rqId q.raw) step else (s, none)
  let bs16 := decide (op ≤ 2) && s.chanBs16 c
  let h : RHead := { s.newHead c op (rqId q.raw) (rqElems q.raw) step false bs16 with req := some q, carry := carry }
  let s := s.putChan c { s.chan c with absStep := none }
  (s.headBegin c h).chanPump c

/-- R385: a taken request of a context that is no longer OPEN completes with ABORTED. -/
def State.reqAbort (s : State) (c : Nat) : State :=
  let ch := s.chan c
  match ch.nxt with
  | none => s
  | some q => if s.ctxOpen q.ctx then s else (s.putChan c { ch with nxt := none }).redDone c q false 0xA 0 0

/-- RED_REQUEST_START: the taken request starts (R248); a NOP completes in its turn. -/
def redRequestStartEff (c : Nat) (s : State) : State :=
  let ch := s.chan c
  match ch.nxt with
  | none => s
  | some q =>
    if ch.hung then s
    else if !s.ctxOpen q.ctx then s.reqAbort c
    else if rqOp q.raw = 4 ∨ !s.reqReady c q then s
    else
      let absent := match ch.head with | some h => h.absent | none => false
      if rqOp q.raw = 0 then
        if ch.head.isNone || absent then
          ((s.reqToken q).putChan c { ch with nxt := none }).redDone c q false 0 0 0
        else s
      else
        let s' := (s.reqToken q).putChan c { ch with nxt := none }
        match ch.done with
        | h :: t =>
          let s := s'.putChan c { s'.chan c with done := t }
          let (s, h) := s.lateStart c h q
          s.headDone c h
        | [] =>
          match ch.head with
          | none => s'.freshStart c q
          | some h =>
            if h.absent ∧ h.req.isNone then
              let (s, h) := s'.lateStart c h q
              (s.putChan c { s.chan c with head := some h }).chanPump c
            else s

/-- PERMUTE_START: a PERMUTE at the head starts once the partition is IDLE (R300). -/
def permuteStartEff (c : Nat) (s : State) : State :=
  let ch := s.chan c
  match ch.nxt with
  | none => s
  | some q =>
    if ch.hung then s
    else if !s.ctxOpen q.ctx then s.reqAbort c
    else if rqOp q.raw = 4 ∧ ch.head.isNone ∧ ch.done.isEmpty ∧ s.reqReady c q ∧ s.phase (s.partOfChan c) = phIdle then
      ((s.reqToken q).putChan c { ch with nxt := none }).freshStart c q
    else s

/-- PERMUTE_COMPLETE: the roll call's second leg has arrived and the member's writes are visible (R301). -/
def permuteCompleteEff (c : Nat) (s : State) : State :=
  match (s.chan c).head with
  | some h =>
    if h.op = 4 ∧ h.req.isSome ∧ h.arrived then (s.headFinish c h).chanPump c else s
  | none => s

/-- GATHER_CONSUMED_POLL: a STREAM gather reads CONSUMED again (R296). -/
def gatherConsumedPollEff (c : Nat) (s : State) : State :=
  match (s.chan c).head with
  | some h => if h.op = 3 ∧ rqStream h.raw then s.chanPump c else s
  | none => s

/-- STRAGGLER_DECISION: the window has run while a decision is pending (R258). -/
def stragglerDecisionEff (c : Nat) (s : State) : State :=
  if s.straggling c && !(s.chan c).hung then (s.becomeAbsent c).chanPump c else s

/-- RED_HANG: the deadline counter reaches zero with WATCHDOG_EN set (R263). -/
def redHangEff (c : Nat) (s : State) : State :=
  let ch := s.chan c
  if s.red R.RED_CH_TIMING_WATCHDOG_EN c = 1 ∧ !ch.hung ∧ (ch.head.isSome ∨ !ch.inq.isEmpty) then s.chanHang c else s

/-! ### Commands: frames -/

/-- R264: frames that the RED_BUFFER has no room for go to the SPILL carve-outs: the last to wait, else the last result kept;
none where they are full. -/
def State.spillOver (s : State) (c : Nat) : Nat → Option State
  | 0 => none
  | k + 1 =>
    if s.groupHeld c ≤ s.redRoom c then some s
    else
      let ch := s.chan c
      let spill (l : List HeldFrame) : Option (State × List HeldFrame) :=
        match l.reverse with
        | x :: t =>
          if x.loc.isSome then none
          else (s.spillPlace c x.f.size).map (fun a => (s.spillStore c a x.f.bytes, (({ x with loc := some a } : HeldFrame) :: t).reverse))
        | [] => none
      match (if ch.slotWait then none else spill ch.inq) with
      | some (s, l) => State.spillOver (s.putChan c { s.chan c with inq := l }) c k
      | none =>
        match ch.head with
        | some h =>
          match spill h.kept with
          | some (s, l) => State.spillOver (s.putChan c { s.chan c with head := some { h with kept := l } }) c k
          | none => none
        | none => none

/-- R61: does the channel take frames? Its group is RUNNING, or STOPPING with a reduction still to finish (DEDUCED, log 96); and no
shard waits for its slot, which withholds credit (R296). -/
def State.takesFrames (s : State) (c : Nat) : Bool :=
  let h := s.chan c
  (s.running (redRegion c) || (s.region (redRegion c) == 1 && (h.head.isSome || h.nxt.isSome || h.closing.isSome || !h.olds.isEmpty))) &&
  !h.slotWait

/-- A frame arrives on a hop for a partition's member (R61, R262, R264, R265, R270, R296, R386). Where the channel does not take
it, or the buffers have no room for it, it waits upstream. -/
def frameEff (pass hop part : Nat) (f : Frame) (s : State) : State :=
  let f : Frame := { f with pass := pass }
  let p := if hop < 16 then s.partOfPort hop else part
  if s.cut = 0 ∨ s.parts ≤ p ∨ (hop < 16 ∧ !s.flag R.PEER_STATUS_UP (hop / 8) hop) then s
  else
    let s0 := s
    let s := if hop < 16 then s.count R.PEER_RX_BYTES_COUNT f.size (hop / 8) hop else s
    let known := decide (f.channel < s.chanCount)
    let c := s.chanBase p + (if known then f.channel else 0)
    if !known || s.members? c == 0 || s.red R.RED_CH_ROUTE_IN_HOP c != hop then s.redCount R.RED_MISROUTED_COUNT 1 c
    else
      let ch := s.chan c
      let stale := match ch.attrib with | some a => decide (hop < 16) && s.ctxStale a | none => false
      if ch.hung then s.redCount R.RED_STALE_FRAMES_COUNT 1 c
      else if stale then s.count R.OCT_STALE_CTX_COUNT 1 0
      else if !s.takesFrames c then s0
      else
        let before := s.groupHeld c
        let first := match ch.inq with | [] => true | x :: _ => x.f.redId == f.redId && x.f.step == f.step
        let s := s.putChan c { ch with inq := ch.inq ++ [{ f := f }] }
        let s := if ch.head.isNone && first && (ch.inq.isEmpty || !s.straggling c) then s.loadDeadline c else s
        let s := s.chanPump c
        if s.groupHeld c ≤ before then s
        else (s.spillOver c ((s.chan c).inq.length + 2)).getD s0

def exponentFrameEff (hop part : Nat) (f : Frame) (s : State) : State := frameEff 1 hop part f s
def reduceScatterFrameEff (hop part : Nat) (f : Frame) (s : State) : State := frameEff 2 hop part f s
def allGatherFrameEff (hop part : Nat) (f : Frame) (s : State) : State := frameEff 3 hop part f s
def rollCallFrameEff (hop part : Nat) (f : Frame) (s : State) : State := frameEff 4 hop part f s
def allgatherShardFrameEff (hop part : Nat) (f : Frame) (s : State) : State := frameEff 3 hop part f s
def permuteMoveFrameEff (hop part : Nat) (f : Frame) (s : State) : State := frameEff 5 hop part f s

/-! ### Ends from outside: contexts, resets, loads -/

/-- R385: a context leaves OPEN: requests of it taken and not started complete with ABORTED. -/
def State.redCtxClose (s : State) : State := (List.range 32).foldl (fun s c => s.reqAbort c) s

/-- R386: a context reaches CLOSED: frames held at a channel attributed to it are discarded. -/
def State.redCtxClosed (s : State) (x : Nat) : State :=
  (List.range 32).foldl (fun s c =>
    let ch := s.chan c
    match ch.attrib with
    | some a =>
      if a.1 == x && s.ctxStale a && !ch.inq.isEmpty && decide (s.red R.RED_CH_ROUTE_IN_HOP c < 16) then
        (s.putChan c { ch with inq := [] }).count R.OCT_STALE_CTX_COUNT ch.inq.length 0
      else s
    | none => s) s

/-- R387: work of a context still outstanding is answered with ABORTED; the ring goes on without its request. -/
def State.redCtxAbort (s : State) (x : Nat) : State :=
  (List.range 32).foldl (fun s c =>
    let ch := s.chan c
    match ch.head with
    | some h =>
      match h.req with
      | some q =>
        if q.ctx = x ∧ !h.past then s.headAbort c h q else s
      | none => s
    | none => s) s

/-- R266: a reset that contains a channel's home hub ends its reductions in progress and clears its carry. -/
def State.redReset (s : State) (hub : Nat) : State :=
  (List.range 32).foldl (fun s c =>
    if s.chanHome c ≠ hub then s
    else
      let ch := s.chan c
      let s := match ch.head with
        | some h =>
          match h.req with
          | some q =>
            let s := if h.past then s else s.ctxRelease q.ctx
            if h.op ≤ 2 ∧ !h.closing then s.stepFinished (s.partOfChan c) else s
          | none => s
        | none => s
      s.putChan c {}) s

end Sys2Proof.Machine
end

