-- ==== Sys2Proof/Machine/Links.lean ====
section
/-!
DEFINITION. The weave and the seam: training, width, replay (R319 to R336); and the peer links (R270, R415).
-/

namespace Sys2Proof.Machine

/-! ### Which dies hub AM can reach (R30) -/

/-- R30, R333: can a control-register access from hub AM reach a die? -/
def State.reach (s : State) (die : Nat) : Bool :=
  !s.isHeld die &&
  (if die = 0 then true
   else if die = 1 then s.seamTrained
   else if hubOf die = 0 then s.weaveUp die
   else s.seamTrained && s.weaveUp die)

/-! ### The weave (R319 to R324, R335) -/

def State.weave (s : State) (die : Nat) : WeaveSt := ngetD s.weaves die {}
def State.putWeave (s : State) (die : Nat) (w : WeaveSt) : State := { s with weaves := nset die w s.weaves }

/-- Set a field of both ends of a compute die's weave. -/
def State.weaveBoth (s : State) (f : Fld) (v die : Nat) : State :=
  (s.put f v (hubOf die) (weaveInst die)).put f v die

/-- R323: training starts. `bounded`: the width held before bounds the width it may train to. -/
def State.weaveTrain (s : State) (die : Nat) (bounded : Bool) : State :=
  if s.isHeld die then s
  else
    let again := s.get R.WEAVE_STATUS_STATE die != 0
    let s := s.putWeave die { s.weave die with bounded := bounded, runDie := 0, runHub := 0 }
    let s := s.weaveBoth R.WEAVE_STATUS_STATE 1 die
    if again then (s.count R.WEAVE_RETRAINS_COUNT 1 (hubOf die) (weaveInst die)).count R.WEAVE_RETRAINS_COUNT 1 die
    else s

/-- R323: training at Daybreak and at the end of a reset of either end: no width held before. -/
def State.weaveFirst (s : State) (die : Nat) : State := (s.putWeave die {}).weaveTrain die false

/-- R323: RETRAIN at either end. -/
def weaveRetrainEff (die : Nat) (s : State) : State :=
  if isComp die then s.weaveTrain die false else s

/-- R323: wire testing ends, with the groups found good at both receivers. -/
def weaveTrainDoneEff (die : Nat) (goodA goodB : Bool) (s : State) : State :=
  if !isComp die || s.isHeld die || s.get R.WEAVE_STATUS_STATE die != 1 then s
  else
    let w := s.weave die
    if !goodA && !goodB then
      (s.weaveBoth R.WEAVE_STATUS_STATE 0 die).weaveBoth R.WEAVE_ERROR_DOWN 1 die
    else
      let full := goodA && goodB && !s.flag R.WEAVE_CFG_MAX_HALF (hubOf die) (weaveInst die) &&
        !s.flag R.WEAVE_CFG_MAX_HALF die && (!w.bounded || w.prev != 1)
      let s := ((s.weaveBoth R.WEAVE_STATUS_STATE 2 die).weaveBoth R.WEAVE_STATUS_HALF (b2n (!full)) die).weaveBoth
        R.WEAVE_STATUS_GROUP (b2n (!full && !goodA)) die
      let s := if w.prev = 2 ∧ !full then s.weaveBoth R.WEAVE_ERROR_WIDTH_DROP 1 die else s
      s.putWeave die { w with prev := if full then 2 else 1 }

/-- R322: a word in error at an end (the die's, or the hub's) is discarded and resent; `same`: it is the word last
replayed. REPLAY_LIMIT replays in a row end the training. -/
def weaveWordErrorEff (die : Nat) (atDie same : Bool) (s : State) : State :=
  if !isComp die || s.get R.WEAVE_STATUS_STATE die != 2 then s
  else
    let rx : Nat × Nat := if atDie then (die, 0) else (hubOf die, weaveInst die)
    let tx : Nat × Nat := if atDie then (hubOf die, weaveInst die) else (die, 0)
    let s := (s.count R.WEAVE_CRC_ERRS_COUNT 1 rx.1 rx.2).count R.WEAVE_REPLAYS_COUNT 1 tx.1 tx.2
    let w := s.weave die
    let n := (if same then (if atDie then w.runDie else w.runHub) else 0) + 1
    let s := s.putWeave die (if atDie then { w with runDie := n } else { w with runHub := n })
    if max 1 (s.get R.WEAVE_CFG_REPLAY_LIMIT tx.1 tx.2) ≤ n then
      (s.set1 R.WEAVE_ERROR_REPLAY_FAIL tx.1 tx.2).weaveTrain die true
    else s

/-- R323: a weave in DOWN tries again once every second. -/
def weaveDownRetryEff (die : Nat) (s : State) : State :=
  if isComp die && s.get R.WEAVE_STATUS_STATE die == 0 then s.weaveTrain die true else s

/-- R324: the hub holds the weave of a die in reset in DOWN, and discards what its replay buffer held for the
die (how many words is not modelled: the counter is left open). -/
def State.weaveHold (s : State) (die : Nat) : State :=
  let h := hubOf die
  let i := weaveInst die
  let (k, s) := s.tick
  let s := s.putWeave die {}
  ((s.put R.WEAVE_STATUS_STATE 0 h i).put R.WEAVE_STATUS_STATE 0 die).count R.WEAVE_DISCARDED_COUNT (Config.free k 0 % 512) h i

/-! ### The seam (R325 to R336) -/

def State.seam (s : State) (hub : Nat) : SeamEnd := ngetD s.seams hub {}
def State.putSeam (s : State) (hub : Nat) (e : SeamEnd) : State := { s with seams := nset hub e s.seams }
def State.seamState (s : State) (hub : Nat) : Nat := s.get R.SEAM_STATUS_STATE hub

/-- Waveguides of a mask all eight lanes of which are good (R327). -/
def goodWg (mask : Nat) : List Nat := (List.range 8).filter (fun g => bits mask (8 * g) 8 == 0xFF)

/-- R329: the largest allowed width that does not exceed n; 0 for none. -/
def widthFor (n : Nat) : Nat :=
  if n ≥ 64 then 64 else if n ≥ 48 then 48 else if n ≥ 32 then 32 else if n ≥ 16 then 16
  else if n ≥ 8 then 8 else 0

/-- Put the seam end out of use, and in a training state. -/
def State.seamEnter (s : State) (hub st : Nat) : State :=
  let s := s.putSeam hub { s.seam hub with locked := false, echo := 0, agreed := 0, stable := false, runs := 0 }
  let s := s.put R.SEAM_STATUS_STATE st hub
  let s := s.put R.SEAM_WIDTH_STATUS_WIDTH 0 hub
  let s := s.put R.SEAM_WIDTH_STATUS_WG_USED 0 hub
  s.put R.SEAM_WIDTH_STATUS_SAFE_LANE 0 hub

/-- R327: the end goes to LANE_TEST; SEAM_RETRAINS counts each training but one that starts from DOWN. What
the end took from the partner's last set stands until it takes another. -/
def State.seamLaneTest (s : State) (hub : Nat) (forced : Bool) : State :=
  let s := if s.seamState hub = 0 then s else s.count R.SEAM_RETRAINS_COUNT 1 hub
  let s := s.seamEnter hub 1
  let s := s.put R.SEAM_WIDTH_STATUS_OWN_ADV 0 hub
  s.put R.SEAM_STATUS_FORCED (b2n forced) hub

/-- R327: the end goes to DOWN. -/
def State.seamDown (s : State) (hub : Nat) : State :=
  (s.seamEnter hub 0).set1 R.SEAM_ERROR_DOWN hub

/-- R333: an end reaches UP or SAFE: it sends what it held, or, where the partner's last set carried RESET,
discards it (how many flits is not modelled: the counter is left open). -/
def State.seamReached (s : State) (hub : Nat) : State :=
  let s := s.putSeam hub { s.seam hub with reset := false }
  let s : State :=
    if s.flag R.SEAM_STATUS_PARTNER_RESET hub then
      let (k, s) := s.tick
      let s : State := { s with waitTx := nerase (hopKey hub 0x10) s.waitTx }
      s.count R.SEAM_DISCARDED_COUNT (Config.free k 0 % 4097) hub
    else s
  if s.seamTrained then (s.flushHop 0 0x10).flushHop 1 0x10 else s

/-- R331: a failed agreement: FAILS rises; at 3 the end goes to SAFE, or to DOWN with no lane good in both
masks; below 3 it returns to LANE_TEST. -/
def State.seamFail (s : State) (hub : Nat) (forced : Bool) : State :=
  let fails := min 3 (s.get R.SEAM_WIDTH_STATUS_FAILS hub + 1)
  let s := (s.count R.SEAM_FAILED_AGREEMENTS_COUNT 1 hub).put R.SEAM_WIDTH_STATUS_FAILS fails hub
  if fails < 3 then s.seamLaneTest hub forced
  else
    let own := s.get R.SEAM_LANES_MASK hub
    let theirs := s.get R.SEAM_PARTNER_LANES_MASK hub
    let lane := (List.range 64).find? (fun l => bit own l && bit theirs l)
    let s := s.set1 R.SEAM_ERROR_WIDTH_FAULT hub
    let s : State :=
      match lane with
      | some l =>
        let s := s.seamEnter hub 5
        ((s.put R.SEAM_WIDTH_STATUS_WIDTH 1 hub).put R.SEAM_WIDTH_STATUS_SAFE_LANE l hub).seamReached hub
      | none => s.seamDown hub
    if hub = 0 then s.eventNotice 2 0 0xFF (match lane with | some l => l | none => 0xFF) own theirs else s

/-- R332: an end in UP is forced back into training, with its width as its ceiling; leaving UP within
AGREE_LIMIT of entering it is a failed agreement (R331). An end in SAFE takes no ceiling. -/
def State.seamForce (s : State) (hub : Nat) : State :=
  if s.seamState hub = 4 then
    let s := s.put R.SEAM_WIDTH_STATUS_CEILING (s.get R.SEAM_WIDTH_STATUS_WIDTH hub) hub
    if (s.seam hub).stable then s.seamLaneTest hub true else s.seamFail hub true
  else (s.put R.SEAM_WIDTH_STATUS_FAILS 0 hub).seamLaneTest hub true

/-- R336: RETRAIN: both ends train from LANE_TEST with FAILS 0 and no ceiling. -/
def seamRetrainEff (_hub : Nat) (s : State) : State :=
  hubs.foldl (fun s h =>
    if s.isHeld h then s
    else ((s.put R.SEAM_WIDTH_STATUS_FAILS 0 h).put R.SEAM_WIDTH_STATUS_CEILING 0 h).seamLaneTest h false) s

/-- R327: Daybreak or the end of a reset starts an end's training. -/
def State.seamFirst (s : State) (hub : Nat) : State :=
  if s.isHeld hub then s else s.seamLaneTest hub false

/-- R327: the receiver locks to the partner's pattern. -/
def seamReceiverLockEff (hub : Nat) (s : State) : State :=
  if s.seamState hub = 1 then s.putSeam hub { s.seam hub with locked := true } else s

/-- R327, R329: LANE_TEST ends with the lanes found good. -/
def seamLaneTestEndEff (hub mask : Nat) (s : State) : State :=
  if s.seamState hub ≠ 1 ∨ !(s.seam hub).locked then s
  else
    let mask := mask % 2 ^ 64
    let s := s.put R.SEAM_LANES_MASK mask hub
    if mask = 0 then s.seamDown hub
    else
      let c := s.get R.SEAM_WIDTH_STATUS_CEILING hub
      let n := min (8 * (goodWg mask).length) (s.get R.SEAM_CFG_MAX_WIDTH hub)
      let n := if c = 0 then n else min n c
      (s.put R.SEAM_STATUS_STATE 2 hub).put R.SEAM_WIDTH_STATUS_OWN_ADV (widthFor n) hub

/-- A training set (R328), as taken. -/
structure TrainSet where
  reset : Bool
  adv : Nat
  echo : Nat
  mask : Nat
  attempt : Nat
  deriving DecidableEq, Repr

/-- R328: the set that 32 bytes carry, if a receiver takes it. -/
def trainSet? (b : List Byte) : Option TrainSet :=
  if b.length = 32 ∧ fieldAt b 0 4 = 0x5354344B ∧ fieldAt b 4 1 = 1 ∧
      fieldAt b 0x1C 4 = crc32c (b.take 0x1C) then
    some ⟨bit (fieldAt b 5 1) 0, fieldAt b 6 1, fieldAt b 7 1, fieldAt b 8 8, fieldAt b 0x13 1⟩
  else none

/-- R329: an end in NEGOTIATE takes a set. Where the waveguides good in both masks allow a width that R329 does not
list, the end takes the largest listed below it (DEDUCED, log 45). -/
def State.seamTake (s : State) (hub : Nat) (t : TrainSet) : State :=
  let own := s.get R.SEAM_WIDTH_STATUS_OWN_ADV hub
  let s := if t.adv ≠ own then s.count R.SEAM_MISMATCHES_COUNT 1 hub else s
  let own := min own t.adv
  let own := min own (8 * (goodWg (s.get R.SEAM_LANES_MASK hub &&& t.mask)).length)
  let own := widthFor own
  let s := s.put R.SEAM_WIDTH_STATUS_OWN_ADV own hub
  let s := s.put R.SEAM_WIDTH_STATUS_FAILS (max (s.get R.SEAM_WIDTH_STATUS_FAILS hub) (min 3 t.attempt)) hub
  let e := { s.seam hub with echo := t.adv }
  if t.adv = own ∧ t.echo = own ∧ own ≠ 0 then
    (s.putSeam hub { e with agreed := own }).put R.SEAM_STATUS_STATE 3 hub
  else s.putSeam hub e

/-- R328 to R334: a training set arrives at an end. -/
def seamTrainingSetEff (hub : Nat) (set : List Byte) (s : State) : State :=
  let st := s.seamState hub
  match trainSet? set with
  | none => s
  | some t =>
    if st = 0 ∨ st = 1 ∨ s.isHeld hub then s
    else
      let s := s.put R.SEAM_STATUS_PARTNER_RESET (b2n t.reset) hub
      let s := s.put R.SEAM_WIDTH_STATUS_PARTNER_ADV t.adv hub
      let s := s.put R.SEAM_PARTNER_LANES_MASK t.mask hub
      if st = 2 then s.seamTake hub t
      else if st = 3 then
        if t.reset then s.seamLaneTest hub (s.flag R.SEAM_STATUS_FORCED hub)
        else if t.adv ≠ (s.seam hub).agreed then s.seamFail hub (s.flag R.SEAM_STATUS_FORCED hub)
        else s
      else if st = 4 then s.seamForce hub
      else if st = 5 ∧ t.reset then s.seamForce hub
      else s

/-- R331: NEGOTIATE reaches AGREE_LIMIT without agreement. -/
def seamAgreeLimitEff (hub : Nat) (s : State) : State :=
  if s.seamState hub = 2 then s.seamFail hub (s.flag R.SEAM_STATUS_FORCED hub) else s

/-- R330: CONFIRM ends, with or without an error. -/
def seamConfirmEndEff (hub : Nat) (error : Bool) (s : State) : State :=
  if s.seamState hub ≠ 3 then s
  else if error then s.seamFail hub (s.flag R.SEAM_STATUS_FORCED hub)
  else
    let w := (s.seam hub).agreed
    let wg := (goodWg (s.get R.SEAM_LANES_MASK hub &&& s.get R.SEAM_PARTNER_LANES_MASK hub)).take (w / 8)
    let s := s.put R.SEAM_STATUS_STATE 4 hub
    let s := s.put R.SEAM_WIDTH_STATUS_WIDTH w hub
    let s := s.put R.SEAM_WIDTH_STATUS_WG_USED (wg.foldl (fun n g => n + 2 ^ g) 0) hub
    let s := if w < s.get R.SEAM_CFG_MAX_WIDTH hub then s.set1 R.SEAM_ERROR_LANE_FAULT hub else s
    let s := s.putSeam hub { s.seam hub with stable := false, runs := 0 }
    s.seamReached hub

/-- R332: an end receives nothing valid for LOSS_LIMIT. An end in SAFE is forced only where the partner has
left SAFE by a reset. -/
def seamLossLimitEff (hub : Nat) (s : State) : State :=
  let st := s.seamState hub
  if st = 4 ∨ (st = 5 ∧ (s.isHeld (otherHub hub) ∨ (s.seam (otherHub hub)).reset)) then s.seamForce hub else s

/-- R331: the seam has been UP for AGREE_LIMIT: FAILS clears. -/
def seamUpStableEff (hub : Nat) (s : State) : State :=
  if s.seamState hub = 4 then
    (s.putSeam hub { s.seam hub with stable := true }).put R.SEAM_WIDTH_STATUS_FAILS 0 hub
  else s

/-- R327: an end in DOWN leaves it after one second; the ceiling goes as the seam trains from DOWN (R332). -/
def seamDownRetryEff (hub : Nat) (s : State) : State :=
  if s.seamState hub = 0 ∧ !s.isHeld hub then
    (s.put R.SEAM_WIDTH_STATUS_CEILING 0 hub).seamLaneTest hub false
  else s

/-- R326: a flit in error at a hub's receiver is discarded and resent by the other end; past REPLAY_LIMIT in a row
the sender leaves UP. SAFE is left only as R331 says. -/
def seamFlitErrorEff (hub : Nat) (same : Bool) (s : State) : State :=
  let tx := otherHub hub
  if !(s.seamState hub = 4 ∨ s.seamState hub = 5) ∨ !(s.seamState tx = 4 ∨ s.seamState tx = 5) then s
  else
    let s := (s.count R.SEAM_CRC_ERRS_COUNT 1 hub).count R.SEAM_REPLAYS_COUNT 1 tx
    let e := s.seam tx
    let n := (if same then e.runs else 0) + 1
    let s := s.putSeam tx { e with runs := n }
    if max 1 (s.get R.SEAM_CFG_REPLAY_LIMIT tx) ≤ n then
      let s := s.set1 R.SEAM_ERROR_REPLAY_FAIL tx
      if s.seamState tx = 4 then s.seamLaneTest tx false else s
    else s

/-- R327, R334: a hub's end after a reset of the hub: it trains anew, sending RESET. Its registers are already at
reset. -/
def State.seamAfterReset (s : State) (hub : Nat) : State :=
  (s.putSeam hub { reset := true }).seamLaneTest hub false

/-! ### Peer links (R270, R415) -/

/-- The channels routed over a peer port. -/
def State.portChans (s : State) (port : Nat) : List Nat :=
  (List.range 32).filter fun c =>
    s.members? c > 1 && (s.red R.RED_CH_ROUTE_IN_HOP c == port || s.red R.RED_CH_ROUTE_OUT_HOP c == port)

/-- R270: a frame is replayed; at the receiver it is a frame received in error. -/
def peerReplayEff (port : Nat) (rx : Bool) (s : State) : State :=
  if port < 16 ∧ s.flag R.PEER_STATUS_UP (port / 8) port then
    s.count (if rx then R.PEER_ERR_FRAMES_COUNT else R.PEER_REPLAYS_COUNT) 1 (port / 8) port
  else s

/-- R270: a link that fails to replay is taken down. -/
def peerLinkDownEff (port : Nat) (s : State) : State :=
  let h := port / 8
  if port < 16 ∧ s.flag R.PEER_STATUS_UP h port then
    let s := s.put R.PEER_STATUS_UP 0 h port
    let s := s.put R.PEER_STATUS_VERSION 0 h port
    let s := s.put R.PEER_STATUS_LANE_RATE 0 h port
    let s := s.put R.PEER_STATUS_LANES_UP 0 h port
    (s.set1 R.PEER_ERROR_LINK_DOWN h port).set1 R.PEER_ERROR_REPLAY_FAIL h port
  else s

/-- R270, R415: the port's version has changed since Daybreak: the channels of RUNNING groups routed over it hang. -/
def State.peerChanged (s : State) (port : Nat) : State :=
  (s.portChans port).foldl (fun s c =>
    if !s.running (redRegion c) then s
    else
      let s := s.redPut R.RED_CH_ERROR_LINK_CHANGE 1 c
      if (s.chan c).hung then s else s.chanHang c) s

/-- R415: an enabled port that is down trains its lanes, exchanges capability blocks and comes up. -/
def State.peerUp (s : State) (port lanes partnerMax partnerPart : Nat) (retrainOk : Bool) : State :=
  let h := port / 8
  if port ≥ 16 ∨ !s.flag R.PEER_CFG_ENABLE h port ∨ s.flag R.PEER_STATUS_UP h port ∨
      !bit (s.get R.ID_UNITS_PEER_PRESENT h) (port % 8) then s
  else
    let s := s.put R.PEER_STATUS_LANES_UP lanes h port
    if lanes % 256 ≠ 0xFF then s
    else
      let s := s.put R.PEER_STATUS_PEER_PART partnerPart h port
      if partnerMax ≠ 1 ∧ partnerMax ≠ 2 then s.put R.PEER_STATUS_VERSION 0 h port
      else
        let v := min (s.get R.PEER_CFG_OPP_MAX h port) partnerMax
        let v := if v = 2 ∧ !retrainOk then 1 else v
        let old := nfind port s.peerVer
        let s := s.put R.PEER_STATUS_VERSION v h port
        let s := s.put R.PEER_STATUS_LANE_RATE v h port
        let s := s.set1 R.PEER_STATUS_UP h port
        let s : State := { s with peerVer := nset port v s.peerVer }
        let s : State :=
          match old with
          | some w => if w ≠ v then (s.set1 R.PEER_ERROR_VERSION_CHANGE h port).peerChanged port else s
          | none => s
        (s.flushHop 0 port).flushHop 1 port

def peerLinkUpEff (port lanes partnerMax partnerPart : Nat) (retrainOk : Bool) (s : State) : State :=
  s.peerUp port lanes partnerMax partnerPart retrainOk
def peerLinkRetryEff (port lanes partnerMax partnerPart : Nat) (retrainOk : Bool) (s : State) : State :=
  s.peerUp port lanes partnerMax partnerPart retrainOk

end Sys2Proof.Machine
end

