-- ==== Sys2Proof/Machine/Matrix.lean ====
section
/-!
DEFINITION. Matrix cores: taking, checking, running and completing tile descriptors (R84 to R103), routed
products (R99, R148) and post chains (R128, R150).
-/

namespace Sys2Proof.Machine

/-! ### Fields of a tile descriptor (R87) -/

def tOp (d : Nat) : Nat := df d 0 0 4
def tFmtA (d : Nat) : Nat := df d 0 4 4
def tFmtB (d : Nat) : Nat := df d 0 8 4
def tSclA (d : Nat) : Nat := df d 0 12 2
def tSclB (d : Nat) : Nat := df d 0 14 2
def tTransA (d : Nat) : Bool := df d 0 16 1 == 1
def tTransB (d : Nat) : Bool := df d 0 17 1 == 1
def tGather (d : Nat) : Bool := df d 0 18 1 == 1
def tIdxSrc (d : Nat) : Bool := df d 0 19 1 == 1
def tCont (d : Nat) : Bool := df d 0 20 1 == 1
def tAccSel (d : Nat) : Nat := df d 0 21 2
def tLock (d : Nat) : Bool := df d 0 23 1 == 1
def tRoute (d : Nat) : Bool := df d 0 24 1 == 1
def tPost (d : Nat) : Bool := df d 0 25 1 == 1
def tComplete (d : Nat) : Bool := df d 0 26 1 == 1
def tWait (d : Nat) : Bool := df d 0 27 1 == 1
def tSignal (d : Nat) : Bool := df d 0 28 1 == 1
def tTabA (d : Nat) : Bool := df d 0 29 1 == 1
def tTabB (d : Nat) : Bool := df d 0 30 1 == 1
def tFmtC (d : Nat) : Nat := df d 0 31 1
def tTag (d : Nat) : Nat := df d 0 32 16
def tLayer (d : Nat) : Nat := df d 0 48 16
def tM (d : Nat) : Nat := df d 8 0 9
def tN (d : Nat) : Nat := df d 8 9 9
def tK (d : Nat) : Nat := df d 8 18 24
def tWaitTok (d : Nat) : Nat := df d 8 42 4
def tSigTok (d : Nat) : Nat := df d 8 46 4
def tSigCore (d : Nat) : Nat := df d 8 50 5
def tAOff (d : Nat) : Nat := df d 0x10 0 18
def tLda (d : Nat) : Nat := df d 0x10 32 16
def tBOff (d : Nat) : Nat := df d 0x18 0 18
def tLdb (d : Nat) : Nat := df d 0x18 32 16
def tCOff (d : Nat) : Nat := df d 0x20 0 18
def tLdc (d : Nat) : Nat := df d 0x20 32 16
def tBeta (d : Nat) : W32 := BitVec.ofNat 32 (df d 0x28 0 32)
def tIdxOff (d : Nat) : Nat := df d 0x28 32 18
def tArgA (d : Nat) : Nat := df d 0x30 0 32
def tArgB (d : Nat) : Nat := df d 0x30 32 32
def tChain (d : Nat) : Nat := df d 0x38 0 18

/-- R93, step 2: reserved fields and flag combinations of the descriptor itself. With a TABLE bit set, the scale argument of
that operand is not judged against the table's mode (DESIGN CHOICE, log 72). -/
def tileFlagsBad (d : Nat) : Bool :=
  if tOp d ≠ 1 then
    -- R87: NOP and BARRIER use only OPCODE, TAG, COMPLETE, WAIT_EN, SIGNAL_EN and the token fields
    df d 0 4 22 != 0 || df d 0 29 3 != 0 || df d 0 48 16 != 0 || df d 8 0 42 != 0 || df d 8 55 9 != 0 ||
    df d 0x10 0 64 != 0 || df d 0x18 0 64 != 0 || df d 0x20 0 64 != 0 || df d 0x28 0 64 != 0 ||
    df d 0x30 0 64 != 0 || df d 0x38 0 64 != 0
  else
    let argBad := fun (tab : Bool) (scl arg : Nat) =>
      !tab && ((scl == 0 && arg != 0) || (scl == 2 && bits arg 18 14 != 0))
    df d 8 55 9 != 0 ||
    ([0x10, 0x18, 0x20].any fun o => df d o 18 14 != 0 || df d o 48 16 != 0) ||
    df d 0x28 50 14 != 0 || df d 0x38 18 46 != 0 ||
    argBad (tTabA d) (tSclA d) (tArgA d) || argBad (tTabB d) (tSclB d) (tArgB d) ||
    tAccSel d == 3 || (tCont d && tAccSel d == 0) || (tGather d && tTransA d) ||
    (tTabA d && (tFmtA d != 0 || tSclA d != 0)) || (tTabB d && (tFmtB d != 0 || tSclB d != 0)) ||
    (tLayer d != 0 && !tTabA d && !tTabB d) ||
    (tRoute d && (tCont d || tPost d || tFmtC d == 1))

/-- R90, R77: the format and scaling mode of an operand; none where the table's entry is invalid. -/
def State.operandFmt (s : State) (die p : Nat) (tab : Bool) (fmt scl layer : Nat) : Option (Nat × Nat) :=
  if tab then s.fmtEntry die p layer else some (fmt, scl)

def State.fmtA (s : State) (die p d : Nat) : Nat × Nat :=
  (s.operandFmt die p (tTabA d) (tFmtA d) (tSclA d) (tLayer d)).getD (0, 0)
def State.fmtB (s : State) (die p d : Nat) : Nat × Nat :=
  (s.operandFmt die p (tTabB d) (tFmtB d) (tSclB d) (tLayer d)).getD (0, 0)

/-- Rows and row bytes of A, B and C as stored (R79, R93). -/
def aRows (d : Nat) : Nat := if tTransA d then tK d else tM d
def aLen (d fmt : Nat) : Nat := ceilDiv ((if tTransA d then tM d else tK d) * fmtWidth fmt) 8
def bRows (d : Nat) : Nat := if tTransB d then tK d else tN d
def bLen (d fmt : Nat) : Nat := ceilDiv ((if tTransB d then tN d else tK d) * fmtWidth fmt) 8
def cLen (d : Nat) : Nat := tN d * (if tFmtC d = 1 then 2 else 4)
/-- R88: bytes of one row of a mode-2 scale array. -/
def sclRow (d : Nat) : Nat := roundUp (ceilDiv (tK d) 32) 64

/-- R93: C is read where BETA is nonzero and ACC_CONTINUE is clear, and written by a routed product. -/
def usesC (d : Nat) : Bool := (!f32IsZero (tBeta d) && !tCont d) || tRoute d

/-- R93, step 5: operand placement. -/
def State.tilePlaced (s : State) (die p mode d : Nat) : Bool :=
  let w := windowSize mode
  let (fa, sa) := s.fmtA die p d
  let (fb, sb) := s.fmtB die p d
  beyond w (tAOff d) (if tGather d then 1 else aRows d) (tLda d) (aLen d fa) ||
  beyond w (tBOff d) (bRows d) (tLdb d) (bLen d fb) ||
  (sa == 2 && decide (bits (tArgA d) 0 18 * 64 + tM d * sclRow d > w)) ||
  (sb == 2 && decide (bits (tArgB d) 0 18 * 64 + tN d * sclRow d > w)) ||
  (tGather d && (if tIdxSrc d then decide (tIdxOff d > 1023) || decide (tIdxOff d * 64 + 2 * tM d > 0x10000)
                 else decide (tIdxOff d * 64 + 2 * tM d > w))) ||
  (usesC d && beyond w (tCOff d) (tM d) (tLdc d) (cLen d))

/-- R89: the gather index of row m. -/
def State.gatherIdx (s : State) (die lead d m : Nat) : Nat :=
  if tIdxSrc d then
    let b := tIdxOff d * 64 + 2 * m
    bits ((s.tb die lead 5).at (b / 4)).toNat (8 * (b % 4)) 16
  else leVal (s.win die lead (tIdxOff d * 64 + 2 * m) 2)

/-- R93, R98: does the product read its index list? -/
def tReadsIdx (d : Nat) : Bool := tGather d && tM d != 0 && tN d != 0 && tK d != 0

/-- R93, steps 2 to 8, with the chain's checks of R141 in their steps. The status, 0 where all pass; the
second component is the window offset of a word in uncorrectable error that a read made by the checks met. -/
def State.tileCheck (s : State) (die lead ctx d : Nat) (lost : List Nat) : Nat × Option Nat :=
  let p := (s.ctxPart ctx).getD 0
  let mode := s.unitMode die lead
  let w := windowSize mode
  let ch := s.chainAt die lead (tChain d)
  let post := tPost d && tOp d == 1
  let chBad := if post then s.winBad die lead (tChain d * 64) 64 else none
  if tileFlagsBad d || (tSignal d && !s.tokenOk die (tSigCore d) (s.partOfDie die)) then (4, none)
  else if tOp d ≠ 1 then (0, none)
  else if post && decide (tChain d * 64 + 64 > w) then (5, none)
  else if chBad.isSome then (9, chBad)
  else if post && s.chainFlags die p ch then (4, none)
  else
    let layers := ngetD s.latLayers p 0
    let fa := s.operandFmt die p (tTabA d) (tFmtA d) (tSclA d) (tLayer d)
    let fb := s.operandFmt die p (tTabB d) (tFmtB d) (tSclB d) (tLayer d)
    let fmtBad := match fa, fb with
      | some (x, sx), some (y, sy) => !operandOk x sx || !operandOk y sy || !pairOk x y
      | _, _ => true
    let cf := if post then s.chainFormats die p ch else 0
    if (tTabA d || tTabB d) && decide (tLayer d ≥ layers) then (7, none)
    else if cf = 7 then (7, none)
    else if fmtBad then (2, none)
    else if cf ≠ 0 then (cf, none)
    else
      let (um, un) := unitShape mode
      if tM d > um ∨ tN d > un ∨ (tRoute d ∧ tM d > 1 ∧ tN d > 1) then (3, none)
      else if s.tilePlaced die p mode d || (post && s.chainPlaced die p (tM d) (tN d) w ch) then (5, none)
      else if (tIdxSrc d && s.claim 3 die != 5) || (post && s.chainClaim die ch) then (0x1D, none)
      else
        let idxBad := if tReadsIdx d && !tIdxSrc d then s.winBad die lead (tIdxOff d * 64) (2 * tM d) else none
        if idxBad.isSome then (9, idxBad)
        else if tReadsIdx d && (List.range (tM d)).any (fun m =>
            let i := s.gatherIdx die lead d m
            i != 0xFFFF && decide ((tAOff d + i * tLda d) * 64 + aLen d (s.fmtA die p d).1 > w)) then (6, none)
        else if tCont d && lost.contains ctx then (8, none)
        else (0, none)

/-- R89, R141: a descriptor whose checks have passed, with what they read. -/
def State.checkedTile (s : State) (die lead : Nat) (d : TDesc) : TDesc :=
  let ch := s.chainAt die lead (tChain d.raw)
  { d with checked := true,
           idx := if tReadsIdx d.raw then (List.range (tM d.raw)).map (s.gatherIdx die lead d.raw) else [],
           chain := if tPost d.raw then ch.raw else 0,
           ops := if tPost d.raw then ch.ops.map (fun e => (e.lo, e.hi)) else [] }

/-- R141: the chain of a descriptor, as its check read it. -/
def TDesc.chainOf (d : TDesc) : Chain := ⟨d.chain, d.ops.map (fun e => ⟨e.1, e.2⟩)⟩

/-! ### Completion (R91, R95, R96) -/

/-- R96: the completion record, the error record, the signal and the counts of one finished descriptor. -/
def State.tileEmit (s : State) (die lead : Nat) (d : TDesc) : State :=
  let w : Who := { die := die, part := s.partOfDie die }
  let s := if d.status ≠ 0 ∨ tComplete d.raw then
      s.qRecord mxcQ w die lead d.ctx (tTag d.raw) d.status d.flags d.beats d.elapsed lead d.gen
    else s
  let s := if d.status ≠ 0 ∧ d.status ≠ 0xA then s.mxcFail die lead d.status d.ctx (tTag d.raw) else s
  let s := if tSignal d.raw && !d.nosig then s.signal die (tSigCore d.raw) (tSigTok d.raw) else s
  ((s.qDone mxcQ die lead d.ctx).count R.MXC_DESCS_COUNT 1 die lead).ctxRelease d.ctx

/-- The first finished descriptor that is the earliest of its queue in hand (R85). -/
def nextDone : List Nat → List TDesc → Option TDesc
  | _, [] => none
  | seen, d :: t =>
    if seen.contains d.ctx then nextDone seen t
    else if d.stage = .finished then some d
    else nextDone (d.ctx :: seen) t

/-- R85: complete finished descriptors in queue order, with fuel. -/
def State.tileSettle : Nat → State → Nat → Nat → State
  | 0, s, _, _ => s
  | k + 1, s, die, lead =>
    let u := s.unit die lead
    match nextDone [] u.inHand with
    | none => s
    | some d =>
      let s := s.putMx die lead { u with inHand := u.inHand.filter (fun x => x.id != d.id) }
      State.tileSettle k (s.tileEmit die lead d) die lead

def State.mxSettle (s : State) (die lead : Nat) : State :=
  State.tileSettle ((s.unit die lead).inHand.length) s die lead

/-- R84: LOCKED and LOCK_CTX, and HELD, as MXC_STATUS shows them. -/
def State.showLock (s : State) (die lead : Nat) : State :=
  (s.members die lead).foldl (fun s m =>
    match (s.unit die lead).lock with
    | some c => (s.put R.MXC_STATUS_LOCKED 1 die m.1).put R.MXC_STATUS_LOCK_CTX c die m.1
    | none => (s.put R.MXC_STATUS_LOCKED 0 die m.1).put R.MXC_STATUS_LOCK_CTX 0 die m.1) s

/-- Replace a descriptor in hand. -/
def MxUnit.update (u : MxUnit) (d : TDesc) : MxUnit :=
  { u with inHand := u.inHand.map (fun x => if x.id = d.id then d else x) }

/-- R85, R88, R112: a run whose continuation does not come lands in its tile. -/
def State.landCarried (s : State) (die lead : Nat) : State :=
  let u := s.unit die lead
  match u.carriedTo with
  | some (_, t) =>
    let s := s.putUnit die lead t (u.work.map (fun e => ((e.1 / 256, e.1 % 256), e.2.out)))
    s.putMx die lead { (s.unit die lead) with carriedTo := none, work := [] }
  | none => s

/-- R95: a descriptor fails: its queue is STOPPED, later descriptors of the queue in hand go back to the ring,
and it finishes with its status. A run that was to go on in one of them lands. -/
def State.tileFail (s : State) (die lead : Nat) (d : TDesc) (status : Nat) : State :=
  let u := s.unit die lead
  let later := (u.inHand.filter (fun x => x.ctx == d.ctx && decide (x.id > d.id) &&
    (x.stage == .waiting || x.stage == .ready)))
  let u := { u with inHand := (u.update { d with stage := .finished, status := status }).inHand.filter
                      (fun x => !(later.any (fun y => y.id == x.id))),
                    lost := if status = 8 then u.lost.filter (· != d.ctx) else u.lost }
  let s := s.putMx die lead u
  let s := if u.carriedTo.any (fun c => c.1 == d.id || later.any (fun x => x.id == c.1)) then s.landCarried die lead else s
  let s := s.put mxcQ.stopped 1 die lead d.ctx
  let s := s.qRewind mxcQ die lead d.ctx later.length
  let s := later.foldl (fun s x => s.ctxRelease x.ctx) s
  (s.mxSettle die lead).showLock die lead

/-- R97: does a post chain that has not begun hold the tile of d? -/
def MxUnit.holds (u : MxUnit) (d : TDesc) : Bool :=
  u.inHand.any (fun x => x.id != d.id && x.stage == .handed && tPost x.raw && x.tile == d.tile)

/-- R97: HELD of a tile on every member of the unit. -/
def State.showHeld (s : State) (die lead tile : Nat) (on : Bool) : State :=
  (s.members die lead).foldl (fun s m =>
    s.put R.MXC_STATUS_HELD (setBits (s.get R.MXC_STATUS_HELD die m.1) tile 1 (b2n on)) die m.1) s

/-- R103, R154: the descriptor ends with FAULT: a product's tile is undefined, a carried run that it continues with it;
the unit is FAULTED, and the chain's hold released. -/
def State.tileFault (s : State) (die lead : Nat) (d : TDesc) : State :=
  let u := s.unit die lead
  let s := if tOp d.raw == 1 && d.stage == .issuing then
      let s := (s.members die lead).foldl (fun s m => s.forgetTile die m.1 d.tile) s
      if u.carriedTo.any (fun c => c.1 == d.id) then s.putMx die lead { u with carriedTo := none, work := [] } else s
    else s
  let s := if d.stage = .handed ∨ d.stage = .engine then s.showHeld die lead d.tile (u.holds d) else s
  let s := (s.members die lead).foldl (fun s m =>
    if d.stage = .engine then (s.put R.VEC_STATUS_BUSY 0 die m.1).put R.VEC_STATUS_ROUTED 0 die m.1 else s) s
  (s.faultUnit die lead d.ctx).tileFail die lead d 9

/-! ### Taking (R84, R85, R93 step 1) -/

/-- R85, R100, R103, R104, R385: may the unit take from the queue of context c? -/
def State.mayTake (s : State) (die lead c : Nat) : Bool :=
  let u := s.unit die lead
  let mine := u.inHand.filter (fun d => d.ctx == c)
  s.ctxOpen c && s.qReady mxcQ die lead c mine.length && !(mine.any (fun d => d.stage == .waiting)) &&
  (match u.lock with | some l => l == c | none => true)

/-- R85: the unit-wide conditions of taking: among them, at most four descriptors taken and not started. -/
def State.unitTakes (s : State) (die lead : Nat) (discarding : Bool) : Bool :=
  s.running die && !s.flag R.MXC_CTRL_PAUSE die lead && !s.flag R.MXC_STATUS_FAULTED die lead && !discarding &&
  decide (((s.unit die lead).inHand.filter (fun d => d.stage == .waiting || d.stage == .ready)).length < 4)

/-- The next queue to take from (R85). -/
def State.takeFrom (s : State) (die lead : Nat) (discarding : Bool) : Option Nat :=
  if s.unitTakes die lead discarding then roundRobin 64 (s.unit die lead).rr (s.mayTake die lead) else none

/-- R84, R93: take one descriptor of context c: read its slot, check its opcode, and wait for its token if it asks. -/
def State.takeTile (s : State) (die lead c : Nat) : State :=
  let u := s.unit die lead
  let a := s.qSlot mxcQ die lead c
  let w : Who := { die := die, part := s.partOfDie die }
  let (s, r) := s.load w a 64
  let s := (s.qAdvance mxcQ die lead c).ctxHold c
  match r with
  | .error k =>
    let s := s.dieFault die (0x20 + lead) c k a
    let d : TDesc := { id := u.nextId, ctx := c, gen := s.ctxGen c, raw := 0, stage := .ready }
    let s := s.putMx die lead { u with inHand := u.inHand ++ [d], nextId := u.nextId + 1, rr := c, lock := none }
    s.tileFail die lead d 9
  | .ok bytes =>
    let raw := leVal bytes
    let nosig := tSignal raw && !s.tokenOk die (tSigCore raw) (s.partOfDie die)
    let d : TDesc := { id := u.nextId, ctx := c, gen := s.ctxGen c, raw := raw,
                       stage := if tWait raw then .waiting else .ready, nosig := nosig }
    let s := s.putMx die lead { u with inHand := u.inHand ++ [d], nextId := u.nextId + 1, rr := c,
                                       lock := if tLock raw && tOp raw == 1 then some c else none }
    if tOp raw > 2 then s.tileFail die lead d 1
    else if !tWait raw && tOp raw == 0 then
      -- a NOP that waits for nothing completes in its turn (R87)
      let st := (s.tileCheck die lead c raw u.lost).1
      if st ≠ 0 then s.tileFail die lead d st
      else ((s.putMx die lead ((s.unit die lead).update { d with stage := .finished, checked := true })).mxSettle
        die lead).showLock die lead
    else s.showLock die lead

/-- DESCRIPTOR_TAKE: the unit of lead `core` takes the next descriptor. -/
def descriptorTakeEff (discarding : Bool) (die core : Nat) (s : State) : State :=
  if s.lead die core = core ∧ s.coreOk die core then
    match s.takeFrom die core discarding with
    | some c => s.takeTile die core c
    | none => s
  else s

/-- R91, R93: after the wait every other check is made. -/
def State.tileProceed (s : State) (die lead : Nat) (d : TDesc) : State :=
  let (st, ecc) := s.tileCheck die lead d.ctx d.raw (s.unit die lead).lost
  match ecc with
  | some off => (s.spadEcc die lead off).tileFault die lead d
  | none =>
    if st ≠ 0 then s.tileFail die lead d st
    else if tOp d.raw = 0 then
      (s.putMx die lead ((s.unit die lead).update { d with stage := .finished, checked := true })).mxSettle die lead
    else s.putMx die lead ((s.unit die lead).update { s.checkedTile die lead d with stage := .ready })

/-- The waiting tile descriptor of a queue. -/
def State.waitingTile (s : State) (die lead c : Nat) : Option TDesc :=
  (s.unit die lead).inHand.find? (fun d => d.ctx == c && d.stage == .waiting)

/-- TOKEN_WAIT_MET for a tile descriptor: its token is nonzero, goes down by one, and it proceeds. One that then fails a
check has no effect on the token it waited for (R93). -/
def tileWaitEff (die core c : Nat) (s : State) : State :=
  match s.waitingTile die core c with
  | some d =>
    if s.token die core (tWaitTok d.raw) = 0 then s
    else
      let (st, ecc) := s.tileCheck die core d.ctx d.raw (s.unit die core).lost
      (if st = 0 && ecc.isNone then s.takeToken die core (tWaitTok d.raw) else s).tileProceed die core d
  | none => s

/-! ### Running a product (R88, R97 to R99, R111 to R113) -/

/-- The products that may start: ready, with every earlier descriptor of its queue started or finished. -/
def startable : List Nat → List TDesc → Option TDesc
  | _, [] => none
  | held, d :: t =>
    if d.stage = .waiting then startable (d.ctx :: held) t
    else if d.stage = .ready then
      if held.contains d.ctx then startable held t
      else if tOp d.raw = 1 then some d
      else startable (d.ctx :: held) t
    else startable held t

/-- R97: the tile a product targets. -/
def targetTile (u : MxUnit) (d : Nat) : Nat :=
  match tAccSel d with
  | 1 => 0
  | 2 => 1
  | _ => u.alt

def writesTile (d : Nat) : Bool := tOp d == 1 && !tRoute d && tM d != 0 && tN d != 0

/-- R85: does d follow on the product just before it without a gap? -/
def follows (u : MxUnit) (d : Nat) : Bool :=
  tCont d && u.prevCont && (u.prevTile == some (targetTile u d, tM d, tN d)) && writesTile d

/-- R76: beats of a product. -/
def State.beatsOf (s : State) (die p d : Nat) : Nat :=
  if tM d = 0 ∨ tN d = 0 ∨ tK d = 0 ∨ tRoute d then 0
  else ceilDiv (tK d) (beatShape (s.fmtA die p d).1 (s.fmtB die p d).1).1

/-- A descriptor starts: it stands after those that have started and before those that have not, so that the list gives the
order in which the unit hands work to its engine (R128), and a descriptor that waits holds its own queue only (R91). -/
def MxUnit.begin (u : MxUnit) (d : TDesc) : MxUnit :=
  let rest := u.inHand.filter (fun x => x.id != d.id)
  let on (x : TDesc) : Bool := x.stage != .waiting && x.stage != .ready
  { u with inHand := rest.filter on ++ [d] ++ rest.filter (fun x => !on x) }

/-- R83, R85: is the product's first beat ready but for the wake? Its tile's earlier product has landed, unless it
follows on. -/
def State.beatReady (s : State) (die lead : Nat) (d : TDesc) : Bool :=
  let u := s.unit die lead
  !tCont d.raw || follows u d.raw ||
    !(u.inHand.any fun x => x.stage == .issuing && writesTile x.raw && x.tile == targetTile u d.raw)

/-- R83, R97, R102: may the product start? -/
def State.mayStart (s : State) (die lead : Nat) (d : TDesc) : Bool :=
  (s.beatsOf die ((s.ctxPart d.ctx).getD 0) d.raw == 0 || s.get R.MXC_STATUS_AWAKE die lead == 16) && s.beatReady die lead d

/-- R101: the fillers of an idle gap: within the hold window at most HOLD, while ramping or waking as many as there are. -/
def State.fillersIn (s : State) (die lead fillers : Nat) : Nat :=
  if s.get R.MXC_STATUS_RUN die lead = 3 then fillers else min fillers (s.get R.MXC_POWER_HOLD die lead)

/-- PRODUCT_START: the first beat of the next product issues; `starved` MX cycles will be spent waiting for feeders, and
`fillers` were issued since the last event of the array (R101). -/
def productStartEff (die core starved fillers : Nat) (s : State) : State :=
  match startable [] (s.unit die core).inHand with
  | none => s
  | some d =>
    if d.checked = false then
      let (st, ecc) := s.tileCheck die core d.ctx d.raw (s.unit die core).lost
      match ecc with
      | some off => (s.spadEcc die core off).tileFault die core d
      | none =>
        if st ≠ 0 then s.tileFail die core d st
        else if s.mayStart die core d then go (s.checkedTile die core d) s else s
    else if s.mayStart die core d then go d s else s
where
  /-- The product starts: its tile is chosen, the alternation advances, its beats are counted, in a fused unit at the lead
  (DESIGN CHOICE, log 73). -/
  go (d : TDesc) (s : State) : State :=
    let u := s.unit die core
    let p := (s.ctxPart d.ctx).getD 0
    if tRoute d.raw && tM d.raw != 0 && tN d.raw != 0 then
      let s := s.putMx die core (u.begin { d with stage := .handed, flags := 2, checked := true })
      s.count R.VEC_STATUS_PENDING 1 die core
    else
      let t := targetTile u d.raw
      let beats := s.beatsOf die p d.raw
      let time := productTime (s.unitMode die core) (s.fmtA die p d.raw).1 (s.fmtB die p d.raw).1 (tM d.raw) (tN d.raw)
        (tK d.raw) (tGather d.raw)
      let u' := u.begin { d with stage := .issuing, beats := beats, elapsed := time + starved, tile := t, checked := true }
      let u' := if writesTile d.raw then
          { u' with alt := if tAccSel d.raw = 0 then 1 - t else u'.alt,
                    prevTile := some (t, tM d.raw, tN d.raw),
                    prevCont := !tPost d.raw && (!tCont d.raw || follows u d.raw) }
        else { u' with prevCont := false }
      let f := s.fillersIn die core fillers
      let s := s.putMx die core u'
      let s := (s.count R.MXC_BEATS_COUNT beats die core).count R.MXC_STARVED_COUNT starved die core
      if beats = 0 then s
      else (s.members die core).foldl (fun s m => s.put R.MXC_STATUS_RUN 1 die m.1) (s.count R.MXC_FILLERS_COUNT f die core)

/-- R113: the BF16 split of a finite FP32 operand. -/
def splitHi (x : W32) : W32 :=
  if f32NonFinite x then x
  else
    let (q, _, _) := convertElem 1 0 .rne (ofF32 x)
    let h := toF32 (bf16.decode q)
    if f32NonFinite h then toF32 (.fin (x.getLsbD 31) bf16.maxFin.1 bf16.maxFin.2) else h
def splitLo (x : W32) : W32 :=
  if f32NonFinite x then 0
  else toF32 (bf16.decode (convertElem 1 0 .rne ((ofF32 x).add (ofF32 (splitHi x)).neg)).1)

/-- R113: the product of two FP32 operands as the array forms it. -/
def splitProduct (a b : W32) : FV :=
  if f32NonFinite a || f32NonFinite b then (ofF32 a).mul (ofF32 b)
  else
    let ha := ofF32 (splitHi a)
    let hb := ofF32 (splitHi b)
    ((ha.mul hb).add (ha.mul (ofF32 (splitLo b)))).add ((ofF32 (splitLo a)).mul hb)

/-- What a product needs of its operands, read once. -/
structure ProdIn where
  fa : Nat
  sa : Nat
  fb : Nat
  sb : Nat
  ra : List Nat
  rb : List Nat
  ea : List Nat
  eb : List Nat
  gather : List Nat
  deriving DecidableEq, Repr

/-- R109: the factor of k's mode-2 block in row i of a scale array (rows as numbers). -/
def blockFactor (mode : Nat) (rows : List Nat) (i k : Nat) : FV :=
  if mode = 2 then e8m0 (bits (rows.getD i 0) (8 * (k / 32)) 8) else .fin false 1 0

/-- R109: the mode-1 scale of an operand. -/
def tensorFactor (mode arg : Nat) : FV :=
  if mode = 1 then ofF32 (BitVec.ofNat 32 arg) else .fin false 1 0

/-- The element of A at (i, k): R89's row of zeros for index 0xFFFF. -/
def ProdIn.a (x : ProdIn) (d i k : Nat) : Nat :=
  if tGather d then (if x.gather.getD i 0 = 0xFFFF then 0 else elemAt (fmtWidth x.fa) k (x.ra.getD i 0))
  else operandElem x.ra (fmtWidth x.fa) (tTransA d) i k

def ProdIn.b (x : ProdIn) (d j k : Nat) : Nat := operandElem x.rb (fmtWidth x.fb) (tTransB d) j k

/-- R111: the exact value of one product of the reduction. -/
def ProdIn.term (x : ProdIn) (d i j k : Nat) : FV :=
  let qa := x.a d i k
  let qb := x.b d j k
  let p := if x.fa = 0 then splitProduct (BitVec.ofNat 32 qa) (BitVec.ofNat 32 qb)
           else (elemValue x.fa x.sa qa).mul (elemValue x.fb x.sb qb)
  let p := (p.mul (blockFactor x.sa x.ea i k)).mul (blockFactor x.sb x.eb j k)
  (p.mul (tensorFactor x.sa (tArgA d))).mul (tensorFactor x.sb (tArgB d))

/-- The sum of one beat (R111, step 2). -/
def beatSum (f : Nat → FV) : List Nat → Option FV
  | [] => none
  | k :: t => some (t.foldl (fun acc k => acc.add (f k)) (f k))

/-- R111: accumulate the beats of one element in increasing K order, one rounding per beat. -/
def accumulate (e kk : Nat) (f : Nat → FV) (acc : W32) : W32 :=
  (List.range (ceilDiv kk e)).foldl (fun acc b =>
    match beatSum f ((List.range (min e (kk - b * e))).map (fun i => b * e + i)) with
    | some v => toF32 ((ofF32 acc).add v)
    | none => acc) acc

/-- R112: does the product accumulate as 32-bit integers? -/
def ProdIn.intRun (x : ProdIn) : Bool := decide (x.fa ≥ 8) && x.sa != 2 && x.sb != 2

/-- R112: one integer step, saturating: after each product in increasing K order (DESIGN CHOICE, log 74). -/
def satAdd32 (a b : Int) : Int := max (-(2 ^ 31 : Nat)) (min ((2 ^ 31 : Nat) - 1) (a + b))

def ProdIn.intTerm (x : ProdIn) (d i j k : Nat) : Int :=
  toInt (fmtWidth x.fa) (x.a d i k) * toInt (fmtWidth x.fb) (x.b d j k)

/-- R112: finish an integer element in FP32: convert, scale, add the base. A run of continuations is finished with the
scales of the product that lands (DESIGN CHOICE, log 75). -/
def intFinish (x : ProdIn) (d : Nat) (sum : Int) (base : Option W32) : W32 :=
  let v := toF32 (FV.ofInt sum)
  let v := if x.sa = 1 then f32Mul v (BitVec.ofNat 32 (tArgA d)) else v
  let v := if x.sb = 1 then f32Mul v (BitVec.ofNat 32 (tArgB d)) else v
  match base with
  | some b => f32Add v b
  | none => v

/-- Read a product's operands (R79, R88), its rows of A by the indices `g` that its check read (R89). -/
def State.prodIn (s : State) (die lead p d : Nat) (g : List Nat) : ProdIn :=
  let (fa, sa) := s.fmtA die p d
  let (fb, sb) := s.fmtB die p d
  let ra := if tGather d then
      g.map (fun i => if i = 0xFFFF then 0 else leVal (s.win die lead ((tAOff d + i * tLda d) * 64) (aLen d fa)))
    else s.rowsAt die lead (tAOff d) (tLda d) (aRows d) (aLen d fa)
  let scl := fun mode arg rows => if mode = 2 then
      (List.range rows).map (fun r => leVal (s.win die lead (bits arg 0 18 * 64 + r * sclRow d) (sclRow d))) else []
  { fa := fa, sa := sa, fb := fb, sb := sb, ra := ra,
    rb := s.rowsAt die lead (tBOff d) (tLdb d) (bRows d) (bLen d fb),
    ea := scl sa (tArgA d) (tM d), eb := scl sb (tArgB d) (tN d), gather := g }

/-- R154: the window offset of the first word in error that the product's fetch meets. -/
def State.prodBad (s : State) (die lead p d : Nat) (g : List Nat) : Option Nat :=
  let (fa, sa) := s.fmtA die p d
  let (fb, sb) := s.fmtB die p d
  let rows := fun off ld n len => (List.range n).map (fun r => (off * 64 + r * ld * 64, len))
  let ra := if tGather d then
      g.filterMap (fun i =>
        if i = 0xFFFF then none else some ((tAOff d + i * tLda d) * 64, aLen d fa))
    else rows (tAOff d) (tLda d) (aRows d) (aLen d fa)
  let all := if tK d = 0 then [] else ra ++ rows (tBOff d) (tLdb d) (bRows d) (bLen d fb) ++
    (if sa = 2 then [(bits (tArgA d) 0 18 * 64, tM d * sclRow d)] else []) ++
    (if sb = 2 then [(bits (tArgB d) 0 18 * 64, tN d * sclRow d)] else [])
  let all := all ++ (if !f32IsZero (tBeta d) && !tCont d then rows (tCOff d) (tLdc d) (tM d) (cLen d) else [])
  all.findSome? (fun x => s.winBad die lead x.1 x.2)

/-- Element (i, j) of C as FP32 (R88). -/
def State.cElem (s : State) (die lead d i j : Nat) : W32 :=
  let w := if tFmtC d = 1 then 16 else 32
  let q := leVal (s.win die lead (tCOff d * 64 + i * tLdc d * 64 + j * w / 8) (w / 8))
  if tFmtC d = 1 then toF32 (bf16.decode q) else BitVec.ofNat 32 q

/-- R111: RNE(BETA * C) where BETA is nonzero. -/
def State.betaC (s : State) (die lead d i j : Nat) : Option W32 :=
  if f32IsZero (tBeta d) then none else some (f32Mul (tBeta d) (s.cElem die lead d i j))

/-- One element of a product that writes a tile, from what it starts with (R88, R98, R111, R112). An integer run that starts
here has what it starts from as its base, if it has any. -/
def prodElem (x : ProdIn) (d i j : Nat) (hasBase : Bool) (start : WAcc) : WAcc :=
  if tK d = 0 then start
  else if x.intRun then
    let (sum, base) := start.int.getD (0, if hasBase then some start.out else none)
    let sum := (List.range (tK d)).foldl (fun acc k => satAdd32 acc (x.intTerm d i j k)) sum
    { out := intFinish x d sum base, int := some (sum, base) }
  else { out := accumulate (beatShape x.fa x.fb).1 (tK d) (fun k => x.term d i j k) start.out }

/-- What an element starts with: carried accumulators, the tile's contents, BETA * C, or +0. -/
def State.prodStart (s : State) (die lead t d i j : Nat) (carried : List (Nat × WAcc)) (cont : Bool) : WAcc :=
  if cont then (nfind (i * 256 + j) carried).getD { out := 0 }
  else if tCont d then { out := s.unitElem die lead t i j }
  else { out := (s.betaC die lead d i j).getD 0 }

/-- The oldest product whose beats are issuing. -/
def State.issuing (s : State) (die lead : Nat) : Option TDesc :=
  (s.unit die lead).inHand.find? (fun d => d.stage == .issuing)

/-- The product after d on the unit. -/
def nextProduct (u : MxUnit) (d : TDesc) : Option TDesc :=
  match u.inHand.find? (fun x => x.stage == .issuing && decide (x.id != d.id)) with
  | some x => some x
  | none => startable [] u.inHand

/-- R85: do d's accumulators carry over to the next product? -/
def State.carriesOn (s : State) (die lead : Nat) (d : TDesc) (cont : Bool) : Bool :=
  let u := s.unit die lead
  match nextProduct u d with
  | some x =>
    !tPost d.raw && (cont || !tCont d.raw) && writesTile x.raw && tCont x.raw &&
    targetTile u x.raw == d.tile && tM x.raw == tM d.raw && tN x.raw == tN d.raw &&
    (x.checked || (s.tileCheck die lead x.ctx x.raw u.lost).1 == 0)
  | none => false

/-- R85: does d go on with accumulators carried over to it? -/
def MxUnit.goesOn (u : MxUnit) (d : TDesc) : Bool := u.carriedTo == some (d.id, d.tile) && tCont d.raw && writesTile d.raw

/-- R85, R96: a carried product completes at its last beat. -/
def State.carriedTime (s : State) (die lead p : Nat) (d : TDesc) : Nat :=
  if tK d.raw = 0 then d.elapsed
  else d.elapsed - fillTime (s.unitMode die lead) (s.fmtA die p d.raw).1 (s.fmtB die p d.raw).1 (tGather d.raw)

/-- PRODUCT_COMPLETE: the oldest issuing product's last row lands (or its accumulators carry over, R85);
`stall` further MX cycles were spent behind a held tile (R97); `fixed` are the errors corrected on the way (R103, R154). A
landing waits for a post chain that has not begun on its tile; one that has begun reads each row before the landing
reaches it, so its tile is free once the last row has landed. -/
def productCompleteEff (die core stall : Nat) (fixed : List (Nat × Nat)) (s : State) : State :=
  match s.issuing die core with
  | none => s
  | some d =>
    let u := s.unit die core
    let p := (s.ctxPart d.ctx).getD 0
    let raw := d.raw
    let cont := u.goesOn d
    let carries := s.carriesOn die core d cont
    if !writesTile raw then
      let s := s.putMx die core (u.update { d with stage := .finished, elapsed := d.elapsed + stall })
      (quiet s).mxSettle die core
    else if !carries && u.holds d then s   -- R97: the interlock stalls the unit
    else
      let s := s.corrected die fixed
      match s.prodBad die core p raw d.idx with
      | some off => (s.spadEcc die core off).tileFault die core d
      | none =>
        let x := s.prodIn die core p raw d.idx
        let idx := (List.range (tM raw)).flatMap (fun i => (List.range (tN raw)).map (fun j => (i, j)))
        let base := cont || tCont raw || !f32IsZero (tBeta raw)
        let acc := idx.map (fun ij =>
          (ij, prodElem x raw ij.1 ij.2 base (s.prodStart die core d.tile raw ij.1 ij.2 u.work cont)))
        if carries then
          let u := u.update { d with stage := .finished, flags := 4, elapsed := s.carriedTime die core p d + stall }
          let s := s.putMx die core { u with carriedTo := (nextProduct u d).map (fun x => (x.id, d.tile)),
                                             work := acc.map (fun e => (e.1.1 * 256 + e.1.2, e.2)) }
          (quiet s).mxSettle die core
        else
          let s := s.putUnit die core d.tile (acc.map (fun e => (e.1, e.2.out)))
          let u := if cont then { (s.unit die core) with carriedTo := none, work := [] } else s.unit die core
          let s := s.showHeld die core d.tile (tPost raw)
          if tPost raw then
            let s := s.putMx die core (u.update { d with stage := .handed, elapsed := d.elapsed + stall })
            quiet ((s.members die core).foldl (fun s m => s.count R.VEC_STATUS_PENDING 1 die m.1) s)
          else
            let s := s.putMx die core (u.update { d with stage := .finished, elapsed := d.elapsed + stall })
            (quiet s).mxSettle die core
where
  /-- RUN after the last beat: fillers in the hold window, if there is one, else ramping down (R101, R104). -/
  quiet (s : State) : State :=
    if ((s.unit die core).inHand.any fun x => x.stage == .issuing) then s
    else (s.members die core).foldl (fun s m =>
      if s.get R.MXC_STATUS_RUN die m.1 = 1 then
        s.put R.MXC_STATUS_RUN (if s.get R.MXC_POWER_HOLD die core = 0 then 3 else 2) die m.1
      else s) s

/-- BARRIER_COMPLETE: every earlier descriptor of every queue of the unit has completed (R87). -/
def barrierCompleteEff (die core c : Nat) (s : State) : State :=
  let u := s.unit die core
  match u.inHand.find? (fun d => d.ctx == c) with
  | some d =>
    if d.stage = .ready ∧ tOp d.raw = 2 ∧ u.inHand.all (fun x => decide (d.id ≤ x.id)) then
      let (st, _) := s.tileCheck die core d.ctx d.raw u.lost
      if st ≠ 0 then s.tileFail die core d st
      else (s.putMx die core (u.update { d with stage := .finished })).mxSettle die core
    else s
  | none => s

/-! ### LOCK, power, faults -/

/-- R86: break the LOCK. -/
def State.breakLock (s : State) (die lead : Nat) : State :=
  let u := s.unit die lead
  match u.lock with
  | some c =>
    ((s.putMx die lead { u with lock := none, lost := c :: u.lost }).set1 R.MXC_ERROR_LOCK_BROKEN die lead).showLock
      die lead
  | none => s

/-- LOCK_LIMIT_EXPIRE: the locked queue stayed empty, or its next descriptor waited, for MXC_LOCK_LIMIT. -/
def lockLimitEff (die core : Nat) (s : State) : State :=
  match (s.unit die core).lock with
  | some c =>
    let mine := (s.unit die core).inHand.filter (fun d => d.ctx == c)
    if (s.qLen mxcQ die core c = 0 ∧ mine = []) ∨ mine.any (fun d => d.stage == .waiting) then s.breakLock die core else s
  | none => s

/-- R97: is the unit stalled, its next landing waiting for a post chain? -/
def State.stalled (s : State) (die lead : Nat) : Bool :=
  match s.issuing die lead with
  | some d => writesTile d.raw && !s.carriesOn die lead d ((s.unit die lead).goesOn d) && (s.unit die lead).holds d
  | none => false

/-- R102: is a beat ready, of a product that has not started? -/
def State.nextReady (s : State) (die lead : Nat) : Bool :=
  match startable [] (s.unit die lead).inHand with
  | some d => s.beatReady die lead d && !s.stalled die lead
  | none => false

/-- GROUP_SLEEP: the highest awake column group of a unit with no beat ready goes to sleep; `fillers` were issued since
the last event (R101, R102). A beat that becomes ready in the same cycle counts as first. -/
def groupSleepEff (die core fillers : Nat) (s : State) : State :=
  let n := s.get R.MXC_STATUS_AWAKE die core
  if n = 0 ∨ s.lead die core ≠ core ∨ s.nextReady die core then s
  else
    let s := s.count R.MXC_FILLERS_COUNT (s.fillersIn die core fillers) die core
    (s.members die core).foldl (fun s m =>
      (s.put R.MXC_STATUS_AWAKE (n - 1) die m.1).put R.MXC_STATUS_RUN (if n = 1 then 0 else 3) die m.1) s

/-- GROUP_WAKE: a beat is ready, of a product that starts or of one that issues, and the lowest sleeping group wakes (R102). -/
def groupWakeEff (die core fillers : Nat) (s : State) : State :=
  let n := s.get R.MXC_STATUS_AWAKE die core
  if n ≥ 16 ∨ s.lead die core ≠ core ∨ (s.nextReady die core = false ∧ s.issuing die core = none) then s
  else
    let s := s.count R.MXC_FILLERS_COUNT (s.fillersIn die core fillers) die core
    (s.members die core).foldl (fun s m =>
      (s.put R.MXC_STATUS_AWAKE (n + 1) die m.1).put R.MXC_STATUS_RUN 3 die m.1) s

/-- The descriptor in progress on a unit: its product, else its chain or routed product. -/
def State.inProgress (s : State) (die lead : Nat) : Option TDesc :=
  match s.issuing die lead with
  | some d => some d
  | none => (s.unit die lead).inHand.find? (fun d => d.stage == .engine)

/-- R103: an error ends the descriptor in progress with FAULT and sets FAULTED; with none in progress FAULTED is
set all the same. -/
def State.endWithFault (s : State) (die lead : Nat) : State :=
  match s.inProgress die lead with
  | some d => s.tileFault die lead d
  | none => s.faultUnit die lead 0xFF

/-- ACC_ECC_UNCORR: an uncorrectable error in a tile. -/
def accEccEff (die core tile : Nat) (s : State) : State :=
  let lead := s.lead die core
  let s := (s.set1 R.MXC_ERROR_ACC_ECC_UNCORR die lead).forgetTile die core (tile % 2)
  s.endWithFault die lead

/-- FEED_PARITY: a feeder parity error. -/
def feedParityEff (die core : Nat) (s : State) : State :=
  let lead := s.lead die core
  (s.set1 R.MXC_ERROR_FEED_PARITY die lead).endWithFault die lead

/-- SPAD_ECC_UNCORR: a feeder or input stream reads a word in uncorrectable error. -/
def spadEccEff (die core off : Nat) (s : State) : State :=
  let s := { s with mem := s.mem.spoil [spadBase die core + off] }
  let lead := s.lead die core
  let s := s.set1 R.SPAD_ERROR_ECC_UNCORR die core
  match s.inProgress die lead with
  | some d => s.tileFault die lead d
  | none => s

/-! ### The vector engine's work (R128, R142, R148, R150) -/

/-- The next work of the engine, in the order descriptors were taken (R128). -/
def engineNext : List TDesc → Option TDesc
  | [] => none
  | d :: t =>
    if tOp d.raw = 1 ∧ (tPost d.raw ∨ tRoute d.raw) ∧ d.stage ≠ .finished ∧ tM d.raw ≠ 0 ∧ tN d.raw ≠ 0 then
      (if d.stage = .handed then some d else none)
    else engineNext t

/-- POST_CHAIN_START: the engine begins its next work: a post chain, or a routed product. -/
def postChainStartEff (die core : Nat) (s : State) : State :=
  match engineNext (s.unit die core).inHand with
  | none => s
  | some d =>
    if tRoute d.raw then
      let s := s.putMx die core ((s.unit die core).update { d with stage := .engine })
      (s.put R.VEC_STATUS_PENDING (s.get R.VEC_STATUS_PENDING die core - 1) die core).set1 R.VEC_STATUS_ROUTED die core
    else
      let c := d.chainOf
      let ctr := s.get R.VEC_RNG_CTR_CTR die core
      let u := (s.unit die core).update { d with stage := .engine }
      let s := s.putMx die core { u with rngBase := if c.rngAuto then ctr else c.rngBase,
                                         rngKey := s.get R.VEC_RNG_KEY_KEY die core,
                                         snap := (s.members die core).map (fun m => (m.1, s.tile die m.1 d.tile)) }
      let s := if c.rngAuto then s.put R.VEC_RNG_CTR_CTR ((ctr + 2 ^ 19) % 2 ^ 40) die core else s
      (s.members die core).foldl (fun s m =>
        (s.put R.VEC_STATUS_PENDING (s.get R.VEC_STATUS_PENDING die m.1 - 1) die m.1).set1 R.VEC_STATUS_BUSY die m.1) s

/-- The chain of d on one member. -/
def State.runOf (s : State) (die lead : Nat) (d : TDesc) (m : Nat × Nat × Nat) : ChainRun :=
  let p := (s.ctxPart d.ctx).getD 0
  { acc := ngetD (s.unit die lead).snap m.1 {}, die := die, lead := lead, core := m.1, rb := m.2.1, cb := m.2.2, tile := d.tile,
    rows := min 128 (tM d.raw - 128 * m.2.1), cols := min 128 (tN d.raw - 128 * m.2.2), part := p,
    chain := d.chainOf, key := (s.unit die lead).rngKey,
    base := (s.unit die lead).rngBase, lscale := ngetD s.latScale p f32One, gather := s.claim 3 die == 5 }

/-- R128, R129: the first `rows` rows of the chain of d on every member, which run in step. -/
def State.chainRows (s : State) (die lead : Nat) (d : TDesc) (rows : Nat) : State :=
  (s.members die lead).foldl (fun s m =>
    let k := s.runOf die lead d m
    s.chainMember { k with rows := min rows k.rows }) s

/-- R154: the first row, on any member, whose input streams meet a word in error, and that word's window offset. -/
def State.chainStops (s : State) (die lead : Nat) (d : TDesc) : Option (Nat × Nat) :=
  ((s.members die lead).filterMap (fun m => s.chainBad (s.runOf die lead d m))).foldl
    (fun a b => match a with
      | some x => if b.1 < x.1 then some b else some x
      | none => some b) none

/-- CHAIN_COMPLETE: the chain has run over its rows on every member; `cycles` MX cycles passed since the
product landed, `stalled` VX cycles were spent waiting for scratchpad; `fixed` are the errors corrected (R103, R150, R154). A
word in error in an input stream ends it at that row, with the rows before it done. -/
def chainCompleteEff (die core cycles stalled : Nat) (fixed : List (Nat × Nat)) (s : State) : State :=
  match (s.unit die core).inHand.find? (fun d => d.stage == .engine && tPost d.raw) with
  | none => s
  | some d =>
    let s := s.corrected die fixed
    match s.chainStops die core d with
    | some (r, off) => ((s.chainRows die core d r).spadEcc die core off).tileFault die core d
    | none =>
      let s := s.chainRows die core d 128
      let s := s.showHeld die core d.tile ((s.unit die core).holds d)
      let s := (s.members die core).foldl (fun s m =>
        ((s.put R.VEC_STATUS_BUSY 0 die m.1).count R.VEC_CHAINS_COUNT 1 die m.1).count R.VEC_STALLED_COUNT stalled die m.1) s
      (s.putMx die core ((s.unit die core).update { d with stage := .finished, elapsed := d.elapsed + cycles })).mxSettle
        die core

/-- R88, R99: the exact product of a routed product's elements, scales included, FP32 without the split. -/
def ProdIn.exactTerm (x : ProdIn) (d i j k : Nat) : FV :=
  let p := (elemValue x.fa x.sa (x.a d i k)).mul (elemValue x.fb x.sb (x.b d j k))
  let p := (p.mul (blockFactor x.sa x.ea i k)).mul (blockFactor x.sb x.eb j k)
  (p.mul (tensorFactor x.sa (tArgA d))).mul (tensorFactor x.sb (tArgB d))

/-- R148: the elements of a routed product: lane order, one rounding per multiply-add. -/
def routedElem (x : ProdIn) (d i j : Nat) : W32 :=
  let mac := fun (acc : W32) k => toF32 ((x.exactTerm d i j k).add (ofF32 acc))
  if tM d = 1 ∧ tN d > 1 then (List.range (tK d)).foldl mac 0
  else
    let lane := fun l => (List.range (ceilDiv (tK d - l) 128)).foldl (fun acc q => mac acc (l + 128 * q)) (0 : W32)
    treeFold f32Add 7 ((List.range 128).map lane)

/-- ROUTED_PRODUCT_COMPLETE: the product's FP32 rows are written at C_OFF (R99, R148). -/
def routedCompleteEff (die core cycles : Nat) (fixed : List (Nat × Nat)) (s : State) : State :=
  match (s.unit die core).inHand.find? (fun d => d.stage == .engine && tRoute d.raw) with
  | none => s
  | some d =>
    let p := (s.ctxPart d.ctx).getD 0
    let raw := d.raw
    let s := s.corrected die fixed
    match s.prodBad die core p raw d.idx with
    | some off => (s.spadEcc die core off).tileFault die core d
    | none =>
      let x := s.prodIn die core p raw d.idx
      let vals := (List.range (tM raw)).map fun i => (List.range (tN raw)).map fun j =>
        let v := routedElem x raw i j
        match s.betaC die core raw i j with
        | some _ => f32Fma (tBeta raw) (s.cElem die core raw i j) v
        | none => v
      let s := (List.range (tM raw)).foldl (fun s i =>
        s.winWrite die core (tCOff raw * 64 + i * tLdc raw * 64) ((vals.getD i []).flatMap (fun v => leBytes 4 v.toNat))) s
      let s := if vals.any (fun r => r.any f32NonFinite) then s.vecFlag die core nfRouted else s
      let s := (s.put R.VEC_STATUS_ROUTED 0 die core).count R.VEC_ROUTED_COUNT 1 die core
      (s.putMx die core ((s.unit die core).update { d with stage := .finished, elapsed := d.elapsed + cycles })).mxSettle
        die core

/-- TB_ECC_UNCORR: an uncorrectable tile-buffer error ends the chain and faults the lead; the `rows` rows that it had stored
stay written (R150). -/
def tbEccEff (die core tb rows : Nat) (s : State) : State :=
  let lead := s.lead die core
  match (s.unit die lead).inHand.find? (fun d => d.stage == .engine) with
  | some d =>
    let s := if tPost d.raw then s.chainRows die lead d rows else s
    ((s.set1 R.VEC_ERROR_TB_ECC_UNCORR die core).forgetTb die core (tb % 6)).tileFault die lead d
  | none => ((s.set1 R.VEC_ERROR_TB_ECC_UNCORR die core).forgetTb die core (tb % 6)).faultUnit die lead 0xFF

/-- TOKEN_CLEAR: every token of the unit to 0 (R104). -/
def tokenClearEff (die core : Nat) (s : State) : State :=
  (List.range 16).foldl (fun s t => s.put R.MXC_TOKEN_COUNT 0 die (s.lead die core) t) s

end Sys2Proof.Machine
end

