-- ==== Sys2Proof/Machine/Arbiters.lean ====
section
/-!
DEFINITION. Arbiters: one cycle of granting (R309 to R312), masking (R313), FREEZE (R314) and the rules of
their registers (R317).
-/

namespace Sys2Proof.Machine

def arbKey (die inst : Nat) : Nat := die * 4096 + inst
def State.arb (s : State) (die inst : Nat) : Arb := ngetD s.arbs (arbKey die inst) {}
def State.putArb (s : State) (die inst : Nat) (a : Arb) : State := { s with arbs := nset (arbKey die inst) a s.arbs }

/-- R308, R317: class, PREEMPT and kind of a requester as they stand. -/
def State.arbClass (s : State) (die inst r : Nat) : Nat := s.get R.ARB_REQ_CFG_CLASS die inst r
def State.arbPre (s : State) (die inst r : Nat) : Bool := s.flag R.ARB_REQ_CFG_PREEMPT die inst r
def State.arbKind (s : State) (die inst r : Nat) : Nat := s.get R.ARB_REQ_CFG_KIND die inst r

/-- Requesters of an arbiter. -/
def arbCount (die inst : Nat) : Nat := match arbType die inst with | some t => (arbReqs t).length | none => 0

/-- The bursts that a requester has pending, the oldest first. -/
def Arb.bursts (a : Arb) (r : Nat) : List Nat := (ngetD a.pend r []).filter (· != 0)

/-- Beats a requester has pending. -/
def Arb.left (a : Arb) (r : Nat) : Nat := (a.bursts r).sum

/-- R309: beats left of the requester's burst. -/
def Arb.burst (a : Arb) (r : Nat) : Nat := (a.bursts r).headD 0

/-- R307, R309: transfers (requester, beats) come to an arbiter, as bursts within the longest allowed. -/
def State.arbArrive (s : State) (die inst : Nat) (arrivals : List (Nat × Nat)) : Arb :=
  let a := s.arb die inst
  { a with pend := arrivals.foldl (fun p x =>
      if x.1 < arbCount die inst then
        nset x.1 (ngetD p x.1 [] ++ splitBurst (arbBurst ((arbType die inst).getD 0) (s.arbKind die inst x.1)) x.2) p
      else p) a.pend }

/-- R152, R161, R307: the arbiter, as (die, instance), that grants accesses to a data address. -/
def State.arbiterOf (s : State) (addr : Nat) : Option (Nat × Nat) :=
  let die := addrDie addr
  let o := addrOff addr
  if isHomeDram addr then
    let p := s.dramPlace addr
    some (die, 0x400 + 32 * p.1 + p.2.1)
  else if isComp die && decide (o < 0x0F0008000000) then
    let o := o - 0x0F0000000000
    some (die, 32 * (o / 0x400000) + spadBank (o % 0x400000))
  else if isHub die then some (die, commonsPort o)
  else none

/-- R430: is the arbiter at an edge of a domain whose dusk has frozen it? -/
def State.duskFrozen (s : State) (die inst : Nat) : Bool :=
  s.resets.any fun r => decide (3 ≤ r.stage) && decide (r.stage ≤ 4) &&
    (match r.domain with
     | 2 => die == r.die && decide (0x400 ≤ inst) && decide (inst < 0x500)
     | 3 => (isHub die && inst == 0x42) || (die == r.die && decide (0x50 ≤ inst)) ||
            (isComp die && hubOf die == r.die && decide (0x400 ≤ inst) && decide (inst < 0x500))
     | 4 => true
     | _ => false)

/-- R314, R430: FREEZE as it stands. -/
def State.frozen (s : State) (die inst : Nat) : Bool :=
  arbHasFreeze ((arbType die inst).getD 0) && (s.flag R.ARB_FREEZE_FREEZE die inst || s.duskFrozen die inst)

/-- R313, R34: the sideband mask of a requester, asserted while its unit is in reset or without power: at a scratchpad
bank, the unit holding the core; at a commons SRAM port, the die beyond a weave and the other hub. -/
def State.masked (s : State) (die inst r : Nat) : Bool :=
  match arbType die inst with
  | some 0 =>
    let m := inst / 32
    decide (r ≤ 3) && (!bit (s.get R.ID_UNITS_MC_PRESENT die) m && s.flag R.ID_DIE_PARTITION_VALID die ||
      s.resets.any (fun q => q.stage == 4 && q.domain == 1 && q.die == die && q.units.contains (0x10, m)))
  | some 2 =>
    if r = 1 ∨ r = 2 then
      let d := (halfDies die).getD (r - 1) 0
      s.held.contains d || s.excluded d
    else r == 3 && s.held.contains (otherHub die)
  | _ => false

/-- R309, R313: is a beat of the requester pending? -/
def State.arbWants (s : State) (die inst : Nat) (a : Arb) (r : Nat) : Bool := decide (0 < a.left r) && !s.masked die inst r

/-- R309: the pending requesters that may be granted, after the mask (R313) and FREEZE (R314). -/
def State.arbPending (s : State) (die inst : Nat) (a : Arb) : List Nat :=
  let frozen := s.frozen die inst
  (List.range (arbCount die inst)).filter fun r =>
    s.arbWants die inst a r && (!frozen || a.begun.contains r || s.arbClass die inst r == 0)

/-- R314: DRAINED: frozen, with no burst other than a class-0 burst in progress. -/
def State.arbDrained (s : State) (die inst : Nat) : Bool :=
  s.frozen die inst && !((s.arb die inst).begun.any fun r => s.arbClass die inst r != 0)

/-- R312: is a class aged? -/
def State.arbAgedClass (s : State) (die inst c : Nat) : Bool :=
  (c == 2 && s.flag R.ARB_STATUS_AGED_2 die inst) || (c == 3 && s.flag R.ARB_STATUS_AGED_3 die inst)

/-- The rank of a requester: 0 for class 0, 1 and 2 for aged classes 3 and 2, then the classes in order. -/
def State.arbRank (s : State) (die inst r : Nat) : Nat :=
  let c := s.arbClass die inst r
  if c = 0 then 0
  else if s.arbAgedClass die inst c then (if c = 3 then 1 else 2)
  else 2 + c

/-- R309 to R311: the requester granted in this cycle: class 0; else the burst that holds the resource, unless it is of kind B,
has PREEMPT set and a better class is pending, aged classes among them; else the best class, in which a burst in progress that
was preempted goes on before another begins.
(DEDUCED: R311 lets the preempted requester compete at its own class, and counts its burst as in progress for R309, log 81.) -/
def State.arbChoose (s : State) (die inst : Nat) (a : Arb) : Option Nat :=
  let pend := s.arbPending die inst a
  let owner := s.get R.ARB_STATUS_BURST_OWNER die inst
  match pend.find? (fun r => s.arbClass die inst r == 0) with
  | some r => some r
  | none =>
    let yields := s.arbKind die inst owner == 2 && s.arbPre die inst owner &&
      pend.any (fun r => decide (s.arbRank die inst r < s.arbRank die inst owner))
    if pend.contains owner && !yields then some owner
    else
      match (pend.map (s.arbRank die inst)).min? with
      | none => none
      | some k =>
        let cls := pend.filter (fun r => s.arbRank die inst r == k)
        let c := s.arbClass die inst (cls.headD 0)
        let n := arbCount die inst
        let mid := cls.filter a.begun.contains
        let cls := if mid.isEmpty then cls else mid
        ((List.range n).map (fun i => (ngetD a.rr c (n - 1) + 1 + i) % n)).find? (cls.contains ·)

/-- R309, R311: the burst of the requester granted goes on by one beat. -/
def State.arbAdvance (s : State) (die inst : Nat) (a : Arb) (g : Nat) : State :=
  let c := s.arbClass die inst g
  let n := a.burst g - 1
  let fresh := !a.begun.contains g
  let a := { a with
    pend := nset g ((if n = 0 then [] else [n]) ++ (a.bursts g).drop 1) a.pend,
    begun := if n = 0 then a.begun.filter (· != g) else if fresh then g :: a.begun else a.begun,
    rr := if fresh then nset c g a.rr else a.rr }
  let s := s.putArb die inst a
  let s := s.put R.ARB_REQ_CFG_PROGRESS (if n = 0 then 0 else s.get R.ARB_REQ_CFG_PROGRESS die inst g + 1) die inst g
  if c = 0 then s
  else s.put R.ARB_STATUS_BURST_OWNER (if n = 0 then 0x3F else g) die inst

/-- R312: a class's aging counter after a cycle. -/
def agingAfter (count : Nat) (pending granted exempt : Bool) : Nat :=
  if granted then 0 else if pending && !exempt then count + 1 else count

/-- R309 to R312, R314: one cycle of an arbiter, after `arrivals` (requester, beats) of new bursts. -/
def arbGrantEff (die inst : Nat) (arrivals : List (Nat × Nat)) (s : State) : State :=
  match arbType die inst with
  | none => s
  | some t =>
    let a := s.arbArrive die inst arrivals
    let pend := s.arbPending die inst a
    let g := s.arbChoose die inst a
    let gc := match g with | some r => s.arbClass die inst r | none => 9
    let exempt := match g with
      | some r => gc == 0 || s.arbKind die inst r == 1 || (s.arbKind die inst r == 2 && !s.arbPre die inst r)
      | none => false
    let waits := pend.filter (fun r => g != some r)
    let has := fun c => (List.range (arbCount die inst)).any (fun r => s.arbWants die inst a r && s.arbClass die inst r == c)
    let age2 := agingAfter a.age2 (has 2) (gc == 2) exempt
    let age3 := agingAfter a.age3 (has 3) (gc == 3) exempt
    let limit := s.get R.ARB_CFG_AGING die inst
    let a := { a with age2 := age2, age3 := age3,
                      runs := (List.range (arbCount die inst)).map (fun r => (r, if waits.contains r then ngetD a.runs r 0 + 1 else 0)) }
    let s := match g with
      | some r => s.arbAdvance die inst a r
      | none => s.putArb die inst a
    let s := (s.put R.ARB_STATUS_AGED_2 (b2n (decide (age2 ≥ limit))) die inst).put R.ARB_STATUS_AGED_3
      (b2n (decide (age3 ≥ limit))) die inst
    let s := (List.range (arbCount die inst)).foldl (fun s r =>
      s.put R.ARB_REQ_CFG_PENDING (b2n (s.arbWants die inst (s.arb die inst) r)) die inst r) s
    if arbHasFreeze t then s
    else
      let s := match g with | some r => s.count R.ARB_GRANTS_COUNT 1 die inst r | none => s
      let s := waits.foldl (fun s r =>
        let s := s.count R.ARB_WAIT_COUNT 1 die inst r
        s.put R.ARB_LONGEST_CYCLES (min 0xFFFFFF (max (s.get R.ARB_LONGEST_CYCLES die inst r) (ngetD (s.arb die inst).runs r 0)))
          die inst r) s
      if t = 0 then s.count R.SPAD_CONFLICTS_COUNT waits.length die (inst / 32) else s

/-- ARB_AGED: a class with a pending requester goes without a grant until its counter reaches AGING (R312). -/
def arbAgedEff (die inst cls : Nat) (s : State) : State :=
  let a := s.arb die inst
  if (arbType die inst).isSome ∧ (List.range (arbCount die inst)).any (fun r => s.arbWants die inst a r && s.arbClass die inst r == cls) then
    let limit := s.get R.ARB_CFG_AGING die inst
    if cls = 2 then (s.putArb die inst { a with age2 := max a.age2 limit }).set1 R.ARB_STATUS_AGED_2 die inst
    else if cls = 3 then (s.putArb die inst { a with age3 := max a.age3 limit }).set1 R.ARB_STATUS_AGED_3 die inst
    else s
  else s

/-- R314: FREEZE set or cleared by a write. -/
def State.setFreeze (s : State) (die inst : Nat) (v : Bool) : State := s.put R.ARB_FREEZE_FREEZE (b2n v) die inst

/-- ARB_FREEZE: a write of FREEZE. -/
def arbFreezeEff (die inst v : Nat) (s : State) : State :=
  match arbType die inst with
  | some t => if arbHasFreeze t then s.setFreeze die inst (v % 2 == 1) else s
  | none => s

/-- R313: bursts of requesters now masked are dropped, and their progress cleared. -/
def State.dropMasked (s : State) : State :=
  s.arbs.foldl (fun (s : State) e =>
    let die := e.1 / 4096
    let inst := e.1 % 4096
    ((List.range (arbCount die inst)).filter (s.masked die inst)).foldl (fun (s : State) r =>
      let a := s.arb die inst
      let s := s.putArb die inst { a with pend := nerase r a.pend, begun := a.begun.filter (· != r) }
      let s := (s.put R.ARB_REQ_CFG_PENDING 0 die inst r).put R.ARB_REQ_CFG_PROGRESS 0 die inst r
      if s.get R.ARB_STATUS_BURST_OWNER die inst = r then s.put R.ARB_STATUS_BURST_OWNER 0x3F die inst else s) s) s

/-- R317: a write of a requester's class and PREEMPT. -/
def State.arbWriteReq (s : State) (die inst r v : Nat) : State :=
  let kind := s.arbKind die inst r
  let s := if kind = 0 then s else s.put R.ARB_REQ_CFG_CLASS (if v % 4 = 0 then 1 else v % 4) die inst r
  if kind = 2 then s.put R.ARB_REQ_CFG_PREEMPT (bits v 2 1) die inst r else s

/-- R317: a write of AGING. -/
def agingValue (v : Nat) : Nat := if v = 0 then 64 else if v < 16 then 16 else v
def State.arbWriteCfg (s : State) (die inst v : Nat) : State :=
  s.put R.ARB_CFG_AGING (agingValue (v % 2 ^ 16)) die inst

/-- DRAM_REFRESH: a refresh falls due on a channel and is served as the emergency requester (R160, R162). -/
def dramRefreshEff (die stack chan : Nat) (s : State) : State :=
  arbGrantEff die (0x400 + 32 * (stack % 8) + chan % 32) [(5, 1)] s

end Sys2Proof.Machine
end

