-- ==== Sys2Proof/Machine/Memory.lean ====
section
/-!
DEFINITION. The movers (R155 to R159), the remote-line cache and its directory (R163 to R166), requests
at the home of an address, patrol scrub (R162), and the far-spill window (R173).
-/

namespace Sys2Proof.Machine

/-! ### Remote-line cache (R163 to R165) -/

def lineSet (l : Nat) : Nat := bits l 7 14

/-- R163: is a read of this address by a mover, queue fetch or update engine of the die served through the cache? -/
def State.cacheable (s : State) (die a : Nat) : Bool :=
  s.flag R.RLC_STATUS_CACHED die && isHomeDram a && addrDie a != die

/-- R165: the directory entries of a home in the set of a line: the lines held elsewhere. -/
def State.dirEntries (s : State) (line : Nat) : List Nat :=
  ((s.rlc.flatMap (·.2)).filter (fun l => addrDie l == addrDie line && l != line)).eraseDups.filter
    (fun l => Config.dirSet l % 65536 == Config.dirSet line % 65536)

/-- R164, R165: install a line in a die's cache, most recently used, evicting the least recently used of a
full set, and freeing a directory entry of a full directory set first. -/
def State.installLine (s : State) (die line : Nat) : State :=
  let entries := s.dirEntries line
  let s := if entries.length ≥ 16 then
      let (k, s) := s.tick
      let victim := entries.getD (Config.free k 0 % entries.length) 0
      (s.dropLine victim).count R.RLC_DIR_EVICTS_COUNT 1 (addrDie line)
    else s
  let old := (ngetD s.rlc die []).filter (· != line)
  let same := old.filter (fun l => lineSet l == lineSet line)
  let kept := if same.length ≥ 16 then old.filter (fun l => some l != same.getLast?) else old
  State.refreshDir { s with rlc := nset die (line :: kept) s.rlc }

/-- R162 to R164: a read of a piece of one line through the cache: a hit serves it; a miss fetches the line from its home and
installs it, unless a burst of the line is in error; an error in the piece itself fails the read. (DEDUCED: errors elsewhere
in the line are recorded at its controller and fail nothing, log 80.) -/
def State.lineRead (s : State) (die a n : Nat) : State × Nat :=
  let l := lineOf a
  if (ngetD s.rlc die []).contains l then
    ({ s.count R.RLC_HITS_COUNT 1 die with rlc := nset die (l :: (ngetD s.rlc die []).filter (· != l)) s.rlc }, 0)
  else
    let s := (s.count R.RLC_MISSES_COUNT 1 die).countDram R.HBMC_RD_BYTES_COUNT l 128
    match s.mem.badIn l 128 with
    | none => (s.installLine die l, 0)
    | some u => (s.noteBads u (s.mem.badsIn l 128), if (s.mem.badIn a n).isSome then 6 else 0)

/-- R163: a read by a mover, queue fetch or update engine of a compute die: through its cache where that serves it. -/
def State.fetch (s : State) (w : Who) (a n : Nat) : State × Except Nat (List Byte) :=
  if s.cacheable w.die a && n != 0 && s.judge w a n == 0 then
    let (s, k) := (granules 128 (n / 128 + 2) a n).foldl (fun (x : State × Nat) g =>
      if x.2 = 0 then x.1.lineRead w.die g.1 g.2 else x) (s, 0)
    (s, if k = 0 then .ok (s.mem.read a n) else .error k)
  else s.load w a n

/-- The lines of home DRAM that a range touches. -/
def linesIn (a n : Nat) : List Nat :=
  ((List.range (n / 128 + 2)).map (fun i => lineOf a + 128 * i)).filter (fun l => decide (l < a + n) && isHomeDram l)

/-- R175: the code of a compute die's requester. -/
def requesterOf (block inst : Nat) : Nat :=
  match block with
  | 0x12 => inst % 32
  | 0x10 => 0x20 + inst % 32
  | 0x62 => 0x40
  | _ => 0x41

/-- R171: the fault of a request, recorded where it is found. -/
def State.requestFault (s : State) (q : MemReq) (k : Nat) : State :=
  if isComp q.die then s.dieFault q.die (requesterOf q.block q.inst) q.ctx k q.addr
  else s.hubFault q.die q.block q.inst q.ctx k q.addr

/-- MEMORY_REQUEST: a request is served at its home. A read answers its data, and outstanding fills of a
cached die are noted; a write completes once every cached copy has been invalidated. It cannot arrive while a link on its
way is not trained (R17, R18, R333). -/
def memoryRequestEff (q : MemReq) (s : State) : State :=
  let w : Who := { die := q.die, part := q.part }
  if !s.linked q.die (addrDie q.addr) then s
  else
    let s : State := { s.corrected q.die q.fixed with mem := s.mem.spoil q.damage }
    if q.write then
      let (s', k) := s.storeRaw w q.addr q.data q.plain
      if k ≠ 0 then (s'.requestFault q k).send (.mem q.tag false k [])
      else
        let wait := (linesIn q.addr q.data.length).filterMap (fun l =>
          let ds := compDies.filter (fun d => (ngetD s'.rlc d []).contains l || s'.fills.any (fun f => f.die == d && f.line == l))
          if ds.isEmpty then none else some { line := l, dies := ds, tag := q.tag : InvWait })
        if wait.isEmpty then s'.send (.mem q.tag true 0 [])
        else { s' with invWaits := s'.invWaits ++ wait }
    else
      let (s', r) := s.load w q.addr q.len
      match r with
      | .error k => (s'.requestFault q k).send (.mem q.tag false k [])
      | .ok data =>
        let lines := (linesIn q.addr q.len).filter (fun l => !(ngetD s'.rlc q.die []).contains l)
        let new := lines.map (fun l => (⟨q.die, l, false⟩ : Fill))
        let s' : State := if s'.cacheable q.die q.addr then { s' with fills := s'.fills ++ new } else s'
        s'.send (.mem q.tag true 0 data)

/-- RLC_FILL_RETURN: a fill returns and is installed, unless an invalidation reached the cache meanwhile (R166). -/
def rlcFillEff (die line : Nat) (s : State) : State :=
  match s.fills.find? (fun f => f.die == die && f.line == line && s.linked die (addrDie line)) with
  | none => s
  | some f =>
    let s := { s with fills := s.fills.erase f }
    let s := s.count R.RLC_MISSES_COUNT 1 die
    if f.killed then s else s.installLine die line

/-- RLC_INVALIDATION: the cached copy is removed and the invalidation acknowledged; a write whose last
acknowledgement this is completes (R165, R166). -/
def rlcInvalEff (die line : Nat) (s : State) : State :=
  let held := (ngetD s.rlc die []).contains line
  let s : State := if held then
      State.refreshDir { s.count R.RLC_INVALS_COUNT 1 die with rlc := nset die ((ngetD s.rlc die []).filter (· != line)) s.rlc }
    else s
  let s : State := { s with fills := s.fills.map (fun f => if f.die = die ∧ f.line = line then { f with killed := true } else f) }
  let after := s.invWaits.map (fun w => if w.line = line then { w with dies := w.dies.filter (· != die) } else w)
  let tags := ((after.filter (fun w => w.dies.isEmpty)).map (·.tag)).eraseDups
  let left := after.filter (fun w => !w.dies.isEmpty)
  let done := tags.filter (fun t => !(left.any (fun w => w.tag == t)))
  done.foldl (fun s t => s.send (.mem t true 0 [])) { s with invWaits := left }

/-- R162: PATROL_SCRUB: the next burst of a stack is read: 0 clean, 1 corrected, 2 uncorrectable at `addr`. -/
def patrolScrubEff (die stack result addr : Nat) (s : State) : State :=
  if s.flag R.HBMC_CFG_SCRUB_EN die stack && (s.stacks die).contains stack then
    let k := die * 8 + stack
    let s := { s with scrubAt := nset k ((ngetD s.scrubAt k 0 + 1) % (0x1000000000 / 32)) s.scrubAt }
    let s := s.count R.HBMC_RD_BYTES_COUNT 32 die stack
    match result with
    | 0 => s
    | 1 => s.count R.HBMC_ECC_CORR_COUNT 1 die stack
    | _ =>
      let u := addr - addr % 32
      State.noteDramEcc { s with mem := s.mem.spoil [u] } u
  else s

/-! ### Movers (R155 to R158) -/

def mOp (d : Nat) : Nat := df d 0 0 4
def mComplete (d : Nat) : Bool := df d 0 4 1 == 1
def mWait (d : Nat) : Bool := df d 0 5 1 == 1
def mSignal (d : Nat) : Bool := df d 0 6 1 == 1
def mOver (d : Nat) : Bool := df d 0 7 1 == 1
def mWaitTok (d : Nat) : Nat := df d 0 8 4
def mSigTok (d : Nat) : Nat := df d 0 12 4
def mSigCore (d : Nat) : Nat := df d 0 16 5
def mTag (d : Nat) : Nat := df d 0 32 16
def mSrc (d : Nat) : Nat := df d 8 0 48
def mDst (d : Nat) : Nat := df d 0x10 0 48
def mRowBytes (d : Nat) : Nat := df d 0x18 0 24
def mRows (d : Nat) : Nat := df d 0x18 24 16
def mSrcLd (d : Nat) : Nat := df d 0x20 0 40
def mDstLd (d : Nat) : Nat := df d 0x28 0 40

/-- R158, step 2. -/
def moveFlagsBad (d : Nat) : Bool :=
  df d 0 21 11 != 0 || df d 0 48 16 != 0 || df d 8 48 16 != 0 || df d 0x10 48 16 != 0 || df d 0x18 40 24 != 0 ||
  df d 0x20 40 24 != 0 || df d 0x28 40 24 != 0 || df d 0x30 0 64 != 0 || df d 0x38 0 64 != 0 ||
  (mOp d == 2 && (mSrcLd d != 0 || decide (mSrc d ≥ 2 ^ 32) || mRowBytes d % 4 != 0))

/-- R157: does the move touch memory? -/
def moveLive (d : Nat) : Bool := (mOp d == 1 || mOp d == 2) && mRows d != 0 && mRowBytes d != 0

/-- The rows of a move as (source, destination) addresses. -/
def moveRows (d : Nat) : List (Nat × Nat) :=
  (List.range (mRows d)).map (fun r => (mSrc d + r * mSrcLd d, mDst d + r * mDstLd d))

/-- R158, step 3: the first access fault of a move: kind and address; ALIGN for adds of R168. -/
def State.moveFault (s : State) (w : Who) (d : Nat) : Option (Nat × Nat) :=
  let n := mRowBytes d
  (moveRows d).findSome? fun r =>
    let ks := if mOp d = 1 then s.judge w r.1 n else 0
    let kd := s.judge w r.2 n
    if ks ≠ 0 then some (ks, r.1)
    else if kd ≠ 0 then some (kd, r.2)
    else if mOp d = 1 && !mOver d && (s.accumCarve r.2 n).isSome && (r.2 % 4 != 0 || n % 4 != 0) then some (5, r.2)
    else none

/-- R158: the status a move descriptor fails with at its checks, or 0; and the fault found in step 3. -/
def State.moveCheck (s : State) (die core d : Nat) : Nat × Option (Nat × Nat) :=
  let part := s.partOfDie die
  if mOp d > 2 then (1, none)
  else if moveFlagsBad d || (mSignal d && !s.tokenOk die (mSigCore d) part) || (mWait d && !s.tokenOk die core part) then (4, none)
  else if moveLive d then
    match s.moveFault { die := die, part := part, mover := true } d with
    | some f => (0xB, some f)
    | none => (0, none)
  else (0, none)

def mvKey (die core : Nat) : Nat := die * 32 + core
def State.mover (s : State) (die core : Nat) : Mover := ngetD s.movers (mvKey die core) {}
def State.putMover (s : State) (die core : Nat) (m : Mover) : State := { s with movers := nset (mvKey die core) m s.movers }

/-- R95, R96, R158: a move finishes: its record, its error, its signal. -/
def State.moveFinish (s : State) (die core : Nat) (d : QDesc) (status lines cycles : Nat) : State :=
  let w : Who := { die := die, part := s.partOfDie die }
  let s := if status ≠ 0 ∨ mComplete d.raw then
      s.qRecord spadQ w die core d.ctx (mTag d.raw) status 0 lines cycles core d.gen
    else s
  let s := if status ≠ 0 ∧ status ≠ 0xA then
      (s.spadFail die core status d.ctx (mTag d.raw)).put spadQ.stopped 1 die core d.ctx
    else s
  let s := if mSignal d.raw && !d.nosig then s.signal die (mSigCore d.raw) (mSigTok d.raw) else s
  (s.qDone spadQ die core d.ctx).ctxRelease d.ctx

/-- R155: may the mover take from the queue of context c? -/
def State.moverMayTake (s : State) (die core c : Nat) : Bool :=
  let m := s.mover die core
  s.ctxOpen c && s.qReady spadQ die core c ((m.held.filter (fun d => d.ctx == c)).length) && !(m.held.any (fun d => d.ctx == c))

/-- MOVE_TAKE: the mover takes its next descriptor and checks it (R155, R158); one that waits for a token
waits on its own queue. -/
def moveTakeEff (die core : Nat) (s : State) : State :=
  let m := s.mover die core
  if !s.running die || !s.coreOk die core || m.hand.isSome then s
  else
    match roundRobin 64 m.rr (s.moverMayTake die core) with
    | none => s
    | some c =>
      let a := s.qSlot spadQ die core c
      let (s, r) := s.load { die := die, part := s.partOfDie die } a 64
      let s := (s.qAdvance spadQ die core c).ctxHold c
      let s := s.putMover die core { m with rr := c }
      match r with
      | .error k =>
        (s.dieFault die (0x20 + core) c k a).moveFinish die core { ctx := c, gen := s.ctxGen c, raw := 0, waiting := false } 9 0 0
      | .ok bytes =>
        let raw := leVal bytes
        let d : QDesc := { ctx := c, gen := s.ctxGen c, raw := raw, waiting := mWait raw,
                           nosig := mSignal raw && !s.tokenOk die (mSigCore raw) (s.partOfDie die) }
        let (st, f) := s.moveCheck die core raw
        let s := match f with
          | some (k, fa) =>
            (if k = 5 then s.count R.NMA_REFUSED_COUNT 1 (addrDie fa) (s.dramPlace fa).1 else s).dieFault die core c k fa
          | none => s
        if st ≠ 0 then s.moveFinish die core d st 0 0
        else if mWait raw then s.putMover die core { m with rr := c, held := m.held ++ [d] }
        else s.putMover die core { m with rr := c, hand := some d }

/-- TOKEN_WAIT_MET for a move: its token goes down by one and the mover has it in hand. -/
def moveWaitEff (die core c : Nat) (s : State) : State :=
  let m := s.mover die core
  match m.hand, m.held.find? (fun d => d.ctx == c) with
  | none, some d =>
    if s.token die core (mWaitTok d.raw) = 0 then s
    else (s.takeToken die core (mWaitTok d.raw)).putMover die core
      { m with hand := some { d with waiting := false }, held := m.held.erase d }
  | _, _ => s

/-- R173: the far-spill queue pair of a partition, if it can carry an access. -/
def State.farQp (s : State) (part : Nat) : Option QP :=
  if s.flag R.RDMA_FAR_VALID 0 0 part && s.flag R.ETH_STATUS_LINK_UP 0 &&
     s.get R.RDMA_QP_STATE 0 0 (s.get R.RDMA_FAR_QPN 0 0 part) == 1 then
    nfind (s.get R.RDMA_FAR_QPN 0 0 part) s.qps
  else none

def isFar (a : Nat) : Bool := addrDie a == 0xE

/-- Does a move touch the far window? -/
def moveFar (d : Nat) : Bool := moveLive d && ((mOp d == 1 && isFar (mSrc d)) || isFar (mDst d))

/-- A fill pattern repeated over n bytes. -/
def fillBytes (p n : Nat) : List Byte := (List.replicate (ceilDiv n 4) (leBytes 4 p)).flatten.take n

/-- One row of a move: the host's bytes left, and the kind and address of the fault that stops it (kind 0: none). Far reads
take the host's data; far writes leave as RDMA WRITEs at the queue pair's base plus the window offset (R173). -/
def State.moveRow (s : State) (die part d : Nat) (row : Nat × Nat) (host : List Byte) : State × List Byte × Nat × Nat :=
  let n := mRowBytes d
  let w : Who := { die := die, part := some part, mover := true }
  let base := match s.farQp part with | some q => fieldAt q.entry 0x28 8 | none => 0
  let rd : State × List Byte × Nat × List Byte :=
    if mOp d = 2 then (s, fillBytes (mSrc d % 2 ^ 32) n, 0, host)
    else if isFar row.1 then
      (s.send (.eth 12 [base + addrOff row.1, n] []), host.take n, 0, host.drop n)
    else
      match s.fetch w row.1 n with
      | (s, .ok b) => (s, b, 0, host)
      | (s, .error k) => (s, [], k, host)
  let (s, data, k, host) := rd
  if k ≠ 0 then (s, host, k, row.1)
  else if isFar row.2 then (s.send (.eth 13 [base + addrOff row.2, n] data), host, 0, 0)
  else
    let (s, k) := s.store w row.2 data (plain := mOver d || mOp d == 2)
    (s, host, k, row.2)

/-- The rows of a move in order, stopping at the first fault: (state, fault kind and address, rows done). -/
def State.moveRun (s : State) (die part d : Nat) : List (Nat × Nat) → List Byte → Nat → State × (Nat × Nat) × Nat
  | [], _, n => (s, (0, 0), n)
  | r :: t, host, n =>
    match s.moveRow die part d r host with
    | (s, host, 0, _) => s.moveRun die part d t host (n + 1)
    | (s, _, k, a) => (s, (k, a), n)

/-- R157: of the rows written, the bytes that lie in the source of the same COPY are undefined. -/
def State.moveOverlap (s : State) (d done : Nat) : State :=
  if mOp d ≠ 1 then s
  else
    let n := mRowBytes d
    let rows := moveRows d
    (rows.take done).foldl (fun s r =>
      rows.foldl (fun s q =>
        if overlap r.2 n q.1 n then
          let lo := max r.2 q.1
          let (k, s) := s.tick
          { s with mem := s.mem.forget lo (min (r.2 + n) (q.1 + n) - lo) k }
        else s) s) s

/-- R155, R174: 64-byte lines that the first rows of a move wrote. -/
def moveLines (d rows : Nat) : Nat :=
  ((moveRows d).take rows).foldl (fun k r => k + ceilDiv (r.2 % 64 + mRowBytes d) 64) 0

/-- The mover's move ends after its rows have run. -/
def State.moveEnd (s : State) (die core cycles : Nat) (host : List Byte) : State :=
  let m := s.mover die core
  match m.hand with
  | none => s
  | some d =>
    let part := (s.partOfDie die).getD 0
    let s := s.putMover die core { m with hand := none }
    if !moveLive d.raw then s.moveFinish die core d 0 0 cycles
    else
      let (s, f, n) := s.moveRun die part d.raw (moveRows d.raw) host 0
      let s := (s.count R.SPAD_MOVED_COUNT (moveLines d.raw n) die core).moveOverlap d.raw n
      if f.1 = 0 then s.moveFinish die core d 0 (moveLines d.raw n) cycles
      else (s.dieFault die core d.ctx f.1 f.2).moveFinish die core d (if f.1 = 6 then 9 else 0xB) (moveLines d.raw n) cycles

/-- R17, R18, R333: is every path that the move uses trained? -/
def State.movePath (s : State) (die d : Nat) : Bool :=
  !moveLive d || s.linkedTo die ((moveRows d).flatMap fun r => if mOp d = 1 then [r.1, r.2] else [r.2])

/-- MOVE_COMPLETE: every byte the move writes is visible, and it completes. A move through the far window
completes on the host's acknowledgement instead; while its path is down it faults with FAR_DOWN (R173). A move waits while a
weave, or the seam, that it crosses is not trained. -/
def moveCompleteEff (die core cycles : Nat) (fixed : List (Nat × Nat)) (s : State) : State :=
  match (s.mover die core).hand with
  | none => s
  | some d =>
    if !s.movePath die d.raw then s
    else if moveFar d.raw then
      if (s.farQp ((s.partOfDie die).getD 0)).isNone then
        let s := s.putMover die core { (s.mover die core) with hand := none }
        (s.dieFault die core d.ctx 7 (if isFar (mSrc d.raw) then mSrc d.raw else mDst d.raw)).moveFinish die core d 0xB 0 cycles
      else s
    else (s.corrected die fixed).moveEnd die core cycles []

/-- FAR_SPILL_ACK: the host has answered the far-window accesses of the mover's move, with the bytes read. -/
def farSpillAckEff (die core cycles : Nat) (host : List Byte) (s : State) : State :=
  match (s.mover die core).hand with
  | none => s
  | some d =>
    if moveFar d.raw && s.movePath die d.raw && (s.farQp ((s.partOfDie die).getD 0)).isSome then s.moveEnd die core cycles host else s

end Sys2Proof.Machine
end

