-- ==== Sys2Proof/Machine/ShuffleSets.lean ====
section
/-!
DEFINITION. Shuffle and set engines (R211 to R225): the permutation generator, host requests, the local shuffle, set
operations in the graph and as descriptors.
-/

namespace Sys2Proof.Machine

/-! ### The permutation (R212) -/

def ceilLog2 (n : Nat) : Nat := if n ≤ 1 then 0 else Nat.log2 (n - 1) + 1

/-- One 8-round pass over (l, r), h bits each. -/
def permPass (h seed epoch : Nat) (x : Nat) : Nat :=
  let mask := 2 ^ h
  let go := (List.range 8).foldl (fun (lr : Nat × Nat) i =>
    let f := rng32 seed (epoch * 2 ^ 32 + (i * 2 ^ 24) ||| lr.2) % mask
    (lr.2, Nat.xor lr.1 f)) (x >>> h, x % mask)
  go.1 * mask + go.2

/-- Walk the cycle until the value falls below n, with fuel. -/
def permWalk (h n seed epoch : Nat) : Nat → Nat → Nat
  | 0, x => x
  | k + 1, x =>
    let y := permPass h seed epoch x
    if y < n then y else permWalk h n seed epoch k y

/-- Half the bits of the network for n (R212). -/
def permHalf (n : Nat) : Nat :=
  let b := max 2 (ceilLog2 n)
  (b + b % 2) / 2

/-- R212: perm. -/
def perm (p n seed epoch : Nat) : Nat :=
  let h := permHalf n
  permWalk h n seed (epoch % 2 ^ 32) (2 ^ (2 * h)) p

/-- A 16-byte record (R217). -/
def recBytes (r : Nat × Nat) : List Byte := leBytes 8 r.1 ++ leBytes 8 r.2

/-- Records of bytes. -/
def recsOfBytes (n : Nat) (b : List Byte) : List (Nat × Nat) :=
  (chunks 16 n b).map (fun r => (fieldAt r 0 8, fieldAt r 8 8))

/-- R214: record j of an epoch, for positions first + j * stride; none past COUNT or N. -/
def genRecord (n seed epoch first stride count j : Nat) : Option (Nat × Nat) :=
  let p := first + j * stride
  if (count ≠ 0 ∧ count ≤ j) ∨ n ≤ p then none
  else some (perm p n seed epoch, p % 2 ^ 40 + (epoch % 2 ^ 24) * 2 ^ 40)

/-- The generator's next records from j, at most k. -/
def genRun (n seed epoch first stride count : Nat) : Nat → Nat → List (Nat × Nat)
  | 0, _ => []
  | k + 1, j =>
    match genRecord n seed epoch first stride count j with
    | some r => r :: genRun n seed epoch first stride count k (j + 1)
    | none => []

/-- The emission of a body of records or other entries (R217). -/
def setEmis (port kind item index source flags pts count : Nat) (data : List Byte) : Emis :=
  let e : SEntry := ⟨0, 0, item, index, source, kind, flags, pts⟩
  { port := port, e := e, body := bodyHeader e 0 (leBytes 4 count) ++ data }

/-- R59, R211: does INGEST own PERM, or SETE instance 3, of the hub? -/
def State.permIngest (s : State) (hub : Nat) : Bool := s.claim 2 hub == 1
def State.seteIngest (s : State) (hub : Nat) : Bool := s.claim 1 hub == 1

/-- R214: the generator's next block, none where the epoch has no position left, and the node after it. -/
def genNext (c : NodeCfg) (n : INode) : Option Emis × INode :=
  let e := (c.par 0x20 4 + n.epochs) % 2 ^ 32
  let first := c.par 0x28 8 % 2 ^ 40 + c.par 0x24 4
  let stride := max (c.par 0x38 4) 1
  let count := c.par 0x30 8 % 2 ^ 40
  let num := c.par 0x18 8 % 2 ^ 41
  let seed := c.par 0x10 8
  let recs := genRun num seed e first stride count (c.par 0x3C 2) n.j
  let more := (genRecord num seed e first stride count (n.j + recs.length)).isSome
  let all := c.par 0x3E 2
  (if recs.isEmpty then none
   else some (setEmis 1 8 e n.blk 0 (b2n (n.blk == 0) + 2 * b2n (!more)) 0 recs.length (recs.flatMap recBytes)),
   if more then { n with j := n.j + recs.length, blk := n.blk + 1 }
   else { n with j := 0, blk := 0, epochs := n.epochs + 1, genStop := all != 0 && decide (n.epochs + 1 ≥ all) })

/-- PERM_GEN_BLOCK: the generator emits its next block (R214), if its region is RUNNING and its epochs are not done; while there is
no room for the block the generator stays before it (R221). -/
def permGenBlockEff (hub : Nat) (s : State) : State :=
  match s.nodeOf hub 0x35 0 with
  | none => s
  | some c =>
    let n := s.inode hub c.node
    if !s.mayWork hub c || s.region (ingestRegion hub) != 0 || !s.permIngest hub || n.genStop then s
    else
      let (m, next) := genNext c n
      let emitted := match m with | some m => s.emit hub c m | none => some s
      match emitted with
      | none => s
      | some s =>
        let e := (c.par 0x20 4 + n.epochs) % 2 ^ 32
        let stays := decide (next.epochs = n.epochs) || next.genStop
        let s := s.putNode hub c.node { next with owes := (s.inode hub c.node).owes }
        (s.put R.PERM_GEN_EPOCH (if stays then e else e + 1) hub).put R.PERM_GEN_BLOCKS (if stays then n.blk + b2n m.isSome else 0) hub

/-- R221: does the generator wait for room for its next block? -/
def State.genWaits (s : State) (hub : Nat) (c : NodeCfg) : Bool :=
  match (genNext c (s.inode hub c.node)).1 with
  | some m => (s.emit hub c m).isNone
  | none => false

/-! ### Host requests (R215) -/

/-- End a refused GO: no request starts. -/
def State.permRefuse (s : State) (hub status : Nat) : State :=
  ((s.set1 R.PERM_HOST_CTRL_REFUSED hub).put R.PERM_HOST_CTRL_STATUS status hub).put R.PERM_HOST_CTRL_WRITTEN 0 hub

/-- R215: positions of the host's request. -/
def State.permHostRecs (s : State) (hub : Nat) : List (Nat × Nat) :=
  let n := s.get R.PERM_HOST_N_N hub
  let first := s.get R.PERM_HOST_POS_FIRST hub
  genRun n (s.get R.PERM_HOST_SEED_SEED hub) (s.get R.PERM_HOST_EPOCH_EPOCH hub) first
    (max (s.get R.PERM_HOST_COUNT_STRIDE hub) 1) (s.get R.PERM_HOST_COUNT_COUNT hub) (n + 1 - first) 0

/-- PERM_HOST_GO: a GO in PERM_HOST_CTRL starts one request, or is refused (R211, R215). -/
def permHostGoEff (hub : Nat) (s : State) : State :=
  if !isHub hub then s
  else if s.flag R.PERM_HOST_CTRL_BUSY hub then s.set1 R.PERM_HOST_CTRL_REFUSED hub
  else if s.claim 2 hub != 3 then s.permRefuse hub 0x1D
  else if s.region (ingestRegion hub) != 0 then s.permRefuse hub 0x1E
  else ((s.put R.PERM_HOST_CTRL_BUSY 1 hub).put R.PERM_HOST_CTRL_STATUS 0 hub).put R.PERM_HOST_CTRL_WRITTEN 0 hub

/-- R215: the status that DEST gives: 64-byte aligned, in memory of PERM's partition, outside the far-spill window. -/
def State.permDest (s : State) (hub n : Nat) : Nat :=
  let a := s.get R.PERM_HOST_DEST_DEST hub
  let w : Who := { die := hub, part := some (s.partOfEngine hub 0x35 0) }
  if a % 64 ≠ 0 ∨ s.judge w a (max (16 * n) 1) ≠ 0 then 5 else 0

/-- PERM_HOST_DONE: the request in progress ends: its records lie at DEST, or its DEST broke the rule, or lay on a
die in dusk or reset (R426). It waits while the way there is not trained (R17, R18). -/
def permHostDoneEff (hub : Nat) (s : State) : State :=
  if !isHub hub || !s.flag R.PERM_HOST_CTRL_BUSY hub then s
  else
    let recs := s.permHostRecs hub
    let st := s.permDest hub recs.length
    let done (s : State) (st n : Nat) : State :=
      (((s.put R.PERM_HOST_CTRL_BUSY 0 hub).set1 R.PERM_HOST_CTRL_DONE hub).put R.PERM_HOST_CTRL_STATUS st hub).put R.PERM_HOST_CTRL_WRITTEN n hub
    let dest := s.get R.PERM_HOST_DEST_DEST hub
    if st ≠ 0 then done s st 0
    else if s.cutAt hub none dest (16 * recs.length) then done s stAborted 0
    else if !s.linkedTo hub [dest] then s
    else
      let w : Who := { die := hub, part := some (s.partOfEngine hub 0x35 0) }
      match s.store w dest (recs.flatMap recBytes) with
      | (s, 0) => done s 0 recs.length
      | (s, k) => done (s.hubFault hub 0x35 0 0 k dest) (if k = 6 then 9 else 0xB) 0

/-! ### The local shuffle (R216) -/

/-- R216: the slot emitted at the k-th emission, of `held` entries. -/
def shuffleSlot (seed k held : Nat) : Nat := (rng32 seed ((0xFF00000000000000 + k) % 2 ^ 64) * held) >>> 32

/-- Pass a held entry on to port 0, its body staying where it lies; false while the queue is full. -/
def State.passOn (s : State) (hub : Nat) (c : NodeCfg) (e : SEntry) : State × Bool :=
  match (s.edges hub).find? (fun g => g.src == c.node && g.sport == 0) with
  | none => ((s.freeBody e.body).eng hub c 2 1, true)
  | some g =>
    let q := s.inq hub g.dst g.dport
    if q.length ≥ g.depth then (s, false)
    else ((s.putInq hub g.dst g.dport (q ++ [e])).eng hub c 1 1, true)

/-- Emit one entry of the buffer, chosen by the rule of R216, leaving its slot: true where it left. -/
def State.shuffleOut (s : State) (hub : Nat) (c : NodeCfg) : State × Bool :=
  let n := s.inode hub c.node
  let k := shuffleSlot (c.par 0x10 8) n.emitted n.buf.length
  match n.buf[k]? with
  | none => (s, false)
  | some e =>
    match s.passOn hub c e with
    | (s, false) => (s, false)
    | (s, true) => (s.putNode hub c.node { n with buf := n.buf.eraseIdx k, emitted := n.emitted + 1, slot := some k }, true)

/-- Copy an entry's body into the node's memory, released upstream: the entry at its new place (R216); none where the copy faults
and the unit is dropped (R208). -/
def State.adopt (s : State) (hub : Nat) (c : NodeCfg) (b : List Byte) (e : SEntry) (a blocks : Nat) : State × Option SEntry :=
  match s.store (s.engWho hub c) a b with
  | (s, 0) =>
    let s : State := { s with bodies := (nodeKey hub c.node, a, b.length) :: s.bodies }
    (s.eng hub c 5 blocks, some { e with body := a, bytes := b.length })
  | (s, k) => ((s.bodyFault hub c k a e.source e.item).dropUnit hub c e.item e.source, none)

/-- R208: what a node that keeps no items owes an item goes onto the entry. -/
def State.payOwed (s : State) (hub : Nat) (c : NodeCfg) (e : SEntry) : State × SEntry :=
  let n := s.inode hub c.node
  if n.owes.contains (e.item, e.source) then
    (s.putNode hub c.node { n with owes := n.owes.erase (e.item, e.source) }, { e with flags := orFlags e.flags owed })
  else (s, e)

/-- SHUFFLE_ENTRY: the shuffle takes its next entry into its buffer. A full buffer, one that holds BUF entries or has no room for
the body, first emits a held one, whose slot waits for the arriving entry. -/
def shuffleEntryEff (hub : Nat) (s : State) : State :=
  match s.nodeOf hub 0x35 0 with
  | none => s
  | some c =>
    if !s.mayWork hub c || !s.permIngest hub then s
    else
      match s.inq hub c.node 0 with
      | [] => s
      | e :: _ =>
        let cap := c.par 0x40 2
        let n := s.inode hub c.node
        let full := decide (n.buf.length ≥ cap) || (s.room hub c e.bytes).isNone
        let (s, ok) := if cap != 0 && full && !n.buf.isEmpty && n.slot.isNone then s.shuffleOut hub c else (s, true)
        if !ok then s
        else
          match s.room hub c e.bytes with
          | none => s
          | some (a, blocks) =>
            let front := (s.edges hub).find? (fun g => g.src == c.node && g.sport == 0)
            let blocked := cap == 0 && (match front with | some g => decide ((s.inq hub g.dst g.dport).length ≥ g.depth) | none => false)
            if blocked then s
            else
              match s.take hub c 0 with
              | (s, some (e, some b)) =>
                let (s, e) := s.payOwed hub c e
                match s.adopt hub c b e a blocks with
                | (s, none) => s
                | (s, some e') =>
                  if cap = 0 then
                    let (s, _) := s.passOn hub c e'
                    let n := s.inode hub c.node
                    s.putNode hub c.node { n with emitted := n.emitted + 1 }
                  else
                    let n := s.inode hub c.node
                    let at' := n.slot.getD n.buf.length
                    s.putNode hub c.node { n with slot := none, buf := n.buf.take at' ++ [e'] ++ n.buf.drop at' }
              | (s, _) => s

/-- Emit held entries while there is room, with fuel. -/
def State.shuffleDrain (s : State) (hub : Nat) (c : NodeCfg) : Nat → State
  | 0 => s
  | k + 1 =>
    match s.shuffleOut hub c with
    | (s, true) => s.shuffleDrain hub c k
    | (s, false) => s

/-- SHUFFLE_FLUSH: the input has stayed empty for FLUSH, or the region has entered STOPPING: every held entry is emitted. -/
def shuffleFlushEff (hub : Nat) (s : State) : State :=
  match s.nodeOf hub 0x35 0 with
  | none => s
  | some c =>
    if s.mayWork hub c && s.permIngest hub && ((s.inq hub c.node 0).isEmpty || s.region (ingestRegion hub) == 1) then
      let slot := (s.inode hub c.node).slot
      let s := s.shuffleDrain hub c (s.inode hub c.node).buf.length
      s.putNode hub c.node { s.inode hub c.node with slot := slot }
    else s

/-! ### Set operations (R218) -/

/-- Insert by masked key after equals (stable), for SORT. -/
def mkey (mask : Nat) (r : Nat × Nat) : Nat := Nat.land r.1 mask
def isSorted (mask : Nat) (l : List (Nat × Nat)) : Bool :=
  (l.zip l.tail).all (fun p => decide (mkey mask p.1 ≤ mkey mask p.2))

def setSort (mask : Nat) (l : List (Nat × Nat)) : List (Nat × Nat) :=
  sortBy (fun a b => decide (mkey mask a ≤ mkey mask b)) l

/-- MERGE: among equal records, A's come first. -/
def setMerge (mask : Nat) : Nat → List (Nat × Nat) → List (Nat × Nat) → List (Nat × Nat)
  | 0, _, _ => []
  | _ + 1, [], b => b
  | _ + 1, a, [] => a
  | k + 1, x :: a, y :: b =>
    if mkey mask x ≤ mkey mask y then x :: setMerge mask k a (y :: b) else y :: setMerge mask k (x :: a) b

/-- Runs of equal records, with the index each starts at. -/
def setRuns (mask : Nat) : Nat → List (Nat × Nat) → List (Nat × List (Nat × Nat))
  | _, [] => []
  | i, x :: t =>
    match setRuns mask (i + 1) t with
    | (j, y :: run) :: rest =>
      if mkey mask x = mkey mask y then (i, x :: y :: run) :: rest else (i, [x]) :: (j, y :: run) :: rest
    | rest => (i, [x]) :: rest

def setDedup (mask : Nat) (l : List (Nat × Nat)) : List (Nat × Nat) :=
  (setRuns mask 0 l).filterMap (fun r => r.2.head?)

/-- JOIN by mode: 0 SEMI, 1 ANTI, 2 INNER. -/
def setJoin (mask mode : Nat) (a b : List (Nat × Nat)) : List (Nat × Nat) :=
  a.filterMap fun x =>
    match b.find? (fun y => mkey mask y == mkey mask x) with
    | some y => if mode = 0 then some x else if mode = 2 then some (x.1, y.2) else none
    | none => if mode = 1 then some x else none

/-- A segment entry (KEY, START, COUNT). -/
def segBytes (x : Nat × Nat × Nat) : List Byte := leBytes 8 x.1 ++ leBytes 4 x.2.1 ++ leBytes 4 x.2.2
/-- A segment table's bytes, terminator included (R217). -/
def segTable (l : List (Nat × Nat × Nat)) : List Byte := (l ++ [(0, 0, 0)]).flatMap segBytes

def setSegments (mask : Nat) (l : List (Nat × Nat)) : List (Nat × Nat × Nat) :=
  (setRuns mask 0 l).map (fun r => ((r.2.headD (0, 0)).1, r.1, r.2.length))

/-- DISPATCH: the gather list, and its segment table. -/
def setDispatch (mask pad : Nat) (l : List (Nat × Nat)) : List Nat × List (Nat × Nat × Nat) :=
  (setRuns mask 0 l).foldl (fun (acc : List Nat × List (Nat × Nat × Nat)) r =>
    let vs := r.2.map (fun x => x.2 % 65536)
    let n := roundUp vs.length (max pad 1)
    (acc.1 ++ vs ++ List.replicate (n - vs.length) 0xFFFF, acc.2 ++ [((r.2.headD (0, 0)).1, acc.1.length, vs.length)])) ([], [])

/-- The gather list's bytes, as entries. -/
def gatherBytes (l : List Nat) : List Byte := l.flatMap (leBytes 2)

/-- SWAP. -/
def setSwap (on : Bool) (l : List (Nat × Nat)) : List (Nat × Nat) := if on then l.map (fun r => (r.2, r.1)) else l

/-- What an operation over whole sequences gives: a status (0, 0xC ORDER, 0xD RANGE), records, segments, gather list. An
input found unsorted, and a DISPATCH value out of range, end it; what came before is the output already written. -/
structure SetOut where
  status : Nat := 0
  recs : List (Nat × Nat) := []
  segs : List (Nat × Nat × Nat) := []
  list : List Nat := []
  deriving DecidableEq, Repr

/-- The longest sorted start of a sequence. -/
def sortedStart (mask : Nat) : List (Nat × Nat) → List (Nat × Nat)
  | [] => []
  | [x] => [x]
  | x :: y :: t => if mkey mask x ≤ mkey mask y then x :: sortedStart mask (y :: t) else [x]

def setOp (op mode pad mask : Nat) (swap : Bool) (a b : List (Nat × Nat)) : SetOut :=
  let needB := op == 2 || op == 4
  let order := op != 1 && (!isSorted mask a || (needB && !isSorted mask b))
  let a' := if order then sortedStart mask a else a
  let b' := if order then sortedStart mask b else b
  let st := if order then 0xC else 0
  match op with
  | 1 => { recs := setSwap swap (setSort mask a) }
  | 2 => { status := st, recs := setSwap swap (setMerge mask (a'.length + b'.length + 1) a' b') }
  | 3 => { status := st, recs := setSwap swap (setDedup mask a') }
  | 4 => { status := st, recs := setSwap swap (setJoin mask mode a' b') }
  | 5 => { status := st, segs := setSegments mask a' }
  | _ =>
    let ok := a'.takeWhile (fun r => decide (r.2 ≤ 0xFFFE))
    let (l, g) := setDispatch mask pad ok
    { status := if ok.length < a'.length then 0xD else st, list := l, segs := g }

/-! ### Set engines in the graph (R220) -/

/-- R220: records of a block's body. -/
def blockRecs (b : List Byte) : List (Nat × Nat) := recsOfBytes (fieldAt b 0x14 4) (b.drop 64)

/-- R220: scan a JOIN node's table as REGION_START ends. -/
def State.joinTable (s : State) (hub : Nat) (c : NodeCfg) : State × Option (List (Nat × Nat)) :=
  let a := c.par 0x20 8 % 2 ^ 48
  let n := c.par 0x28 4
  match s.load (s.engWho hub c) a (16 * n) with
  | (s, .ok b) => (s, some (recsOfBytes n b))
  | (s, .error k) => (s.bodyFault hub c k a 0 0, none)

/-- R220 (JOIN_TABLE_SCAN): every JOIN node of the hub scans its table; an unsorted one is recorded. -/
def State.joinScan (s : State) (hub : Nat) : State :=
  ((s.nodes hub).filter (fun c => c.block == 0x36 && c.par 0x10 1 == 4)).foldl (fun s c =>
    match s.joinTable hub c with
    | (s, some t) =>
      if isSorted (c.par 0x18 8) t then s
      else (s.engErr hub c 0xB 0 0).putNode hub c.node { s.inode hub c.node with badTable := true }
    | (s, none) => s.putNode hub c.node { s.inode hub c.node with badTable := true }) s

/-- The code of R209 with R225 for a set status. -/
def setCode (status : Nat) : Nat := if status = 0xD then 0xC else 0xB

/-- The emissions of one block's result (R220): records on port 0, segment tables on 1, gather lists on 2. -/
def blockOut (op : Nat) (e : SEntry) (o : SetOut) : List Emis :=
  let f := e.flags % 128
  if op = 5 then
    (if o.segs.isEmpty then [] else [setEmis 1 0xA e.item e.index e.source f e.pts o.segs.length (segTable o.segs)])
  else if op = 6 then
    (if o.list.isEmpty then [] else
      tie [setEmis 1 0xA e.item e.index e.source f e.pts o.segs.length (segTable o.segs),
       setEmis 2 9 e.item e.index e.source f e.pts o.list.length (pad64 (gatherBytes o.list))])
  else if o.recs.isEmpty then []
  else [setEmis 0 8 e.item e.index e.source f e.pts o.recs.length (o.recs.flatMap recBytes)]

/-- MERGE across blocks: records taken from the two runs while it is known which comes first, at most k of one ITEM. -/
def mergeRuns (mask : Nat) (endA endB : Bool) : Nat → List (Nat × Nat × Nat) → List (Nat × Nat × Nat) →
    List (Nat × Nat × Nat) × List (Nat × Nat × Nat) × List (Nat × Nat × Nat)
  | 0, a, b => ([], a, b)
  | k + 1, a, b =>
    match a, b with
    | x :: ta, y :: tb =>
      if mkey mask x.2 ≤ mkey mask y.2 then
        let r := mergeRuns mask endA endB k ta (y :: tb)
        (x :: r.1, r.2)
      else
        let r := mergeRuns mask endA endB k (x :: ta) tb
        (y :: r.1, r.2)
    | x :: ta, [] =>
      if endB then let r := mergeRuns mask endA endB k ta []; (x :: r.1, r.2) else ([], x :: ta, [])
    | [], y :: tb =>
      if endA then let r := mergeRuns mask endA endB k [] tb; (y :: r.1, r.2) else ([], [], y :: tb)
    | [], [] => ([], [], [])

/-- The records at the front that share an ITEM. -/
def sameItem : List (Nat × Nat × Nat) → List (Nat × Nat × Nat)
  | [] => []
  | x :: t => x :: t.takeWhile (fun y => y.1 == x.1)

/-- A MERGE node takes a block of one input into its run. An unsorted block ends the merge with ORDER (R218): its sorted start still
takes part, nothing that follows in either stream does, up to the stream's LAST. -/
def State.mergeTake (s : State) (hub : Nat) (c : NodeCfg) (p : Nat) : State :=
  match s.take hub c p with
  | (s, some (e, some b)) =>
    let mask := c.par 0x18 8
    let n := s.inode hub c.node
    let fin := bit e.flags flagLast
    if if p = 0 then n.skipA else n.skipB then
      (s.eng hub c 2 1).putNode hub c.node (if p = 0 then { n with skipA := !fin } else { n with skipB := !fin })
    else
      let recs := blockRecs b
      let lastKey := if p = 0 then n.keyA else n.keyB
      let joins := match recs with | r :: _ => decide (lastKey ≤ mkey mask r) | [] => true
      let ok := isSorted mask recs && joins
      let keep := if !joins then [] else sortedStart mask recs
      let add := keep.map (fun r => (e.item, r.1, r.2))
      let top := match keep.getLast? with | some r => mkey mask r | none => lastKey
      let n := if p = 0 then { n with runA := n.runA ++ add, keyA := if fin then 0 else top, endA := fin }
        else { n with runB := n.runB ++ add, keyB := if fin then 0 else top, endB := fin }
      if ok then s.putNode hub c.node n
      else (s.engErr hub c 0xB e.source e.item).putNode hub c.node
        { n with skipA := !n.endA, skipB := !n.endB, endA := true, endB := true, keyA := 0, keyB := 0 }
  | (s, _) => s

/-- SETE_BLOCK: a set node takes its next input block and emits its result, or, for MERGE, its next output block (R220, R221). -/
def seteBlockEff (hub inst : Nat) (s : State) : State :=
  match s.nodeOf hub 0x36 inst with
  | none => s
  | some c =>
    if !s.mayWork hub c || (inst == 3 && !s.seteIngest hub) then s
    else
      let op := c.par 0x10 1
      let mask := c.par 0x18 8
      let swap := bit (c.par 0x11 1) 2
      if op = 2 then
        let n := s.inode hub c.node
        let s := if n.runA.isEmpty && !n.endA then s.mergeTake hub c 0 else s
        let n := s.inode hub c.node
        let s := if n.runB.isEmpty && !n.endB then s.mergeTake hub c 1 else s
        let n := s.inode hub c.node
        let (out, a, b) := mergeRuns mask n.endA n.endB 4096 n.runA n.runB
        let blk := sameItem out
        let back := out.drop blk.length
        match blk with
        | [] => if n.endA && n.endB then s.putNode hub c.node { n with endA := false, endB := false, outIdx := 0 } else s
        | x :: _ =>
          -- what follows the block goes back to the runs it came from
          let (_, a', b') := mergeRuns mask n.endA n.endB blk.length n.runA n.runB
          let (a, b) := if back.isEmpty then (a, b) else (a', b')
          let fin := a.isEmpty && b.isEmpty && n.endA && n.endB
          let idx := n.outIdx
          let n := { n with runA := a, runB := b, outIdx := if fin then 0 else idx + 1,
                            endA := n.endA && !fin, endB := n.endB && !fin }
          let recs := setSwap swap (blk.map (·.2))
          (s.putNode hub c.node n).flush hub c
            [setEmis 0 8 x.1 idx 0 (b2n (idx == 0) + 2 * b2n fin) 0 recs.length (recs.flatMap recBytes)]
      else if op = 4 && !s.linkedTo hub [c.par 0x20 8 % 2 ^ 48] then s
      else
        match s.take hub c 0 with
        | (s, some (e, some b)) =>
          if op = 4 ∧ (s.inode hub c.node).badTable then s.eng hub c 2 1
          else
            let (s, e) := s.payOwed hub c e
            let (s, table) := if op = 4 then s.joinTable hub c else (s, some [])
            match table with
            | none => s.dropUnit hub c e.item e.source
            | some t =>
              let o := setOp op (c.par 0x11 1 % 4) (c.par 0x12 2) mask swap (blockRecs b) t
              let s := if o.status ≠ 0 then s.engErr hub c (setCode o.status) e.source e.item else s
              s.flush hub c (blockOut op e o)
        | (s, _) => s

/-! ### Set descriptors on instance 3 (R222 to R224) -/

def sOp (d : Nat) : Nat := df d 0 0 4
def sMode (d : Nat) : Nat := df d 0 4 2
def sSwap (d : Nat) : Bool := df d 0 6 1 == 1
def sComplete (d : Nat) : Bool := df d 0 7 1 == 1
def sSignal (d : Nat) : Bool := df d 0 8 1 == 1
def sSigTok (d : Nat) : Nat := df d 0 9 4
def sSigCore (d : Nat) : Nat := df d 0 13 5
def sSigDie (d : Nat) : Nat := df d 0 18 4
def sTag (d : Nat) : Nat := df d 0 32 16
def sPad (d : Nat) : Nat := df d 0 48 9
def sA (d : Nat) : Nat := df d 8 0 48
def sAN (d : Nat) : Nat := df d 0x10 0 32
def sBN (d : Nat) : Nat := df d 0x10 32 32
def sB (d : Nat) : Nat := df d 0x18 0 48
def sOut (d : Nat) : Nat := df d 0x20 0 48
def sSeg (d : Nat) : Nat := df d 0x28 0 48
def sTmp (d : Nat) : Nat := df d 0x30 0 48
def sMask (d : Nat) : Nat := df d 0x38 0 64

/-- R224: BAD_FLAGS: a reserved field nonzero; PAD out of range; B_RECORDS or TMP missing where needed or set where not; a
SORT above 65,536 records without 32 blocks of SETE_QWORK (R225). -/
def State.setFlagsBad (s : State) (hub d : Nat) : Bool :=
  let op := sOp d
  let big := op == 1 && decide (sAN d > 65536)
  df d 0 22 10 != 0 || df d 0 57 7 != 0 ||
  [8, 0x18, 0x20, 0x28, 0x30].any (fun o => df d o 48 16 != 0) ||
  (if op = 6 then sPad d == 0 || decide (sPad d > 256) else sPad d != 0) ||
  (op == 4 && sMode d == 3) ||
  ((op == 2 || op == 4) != (sBN d != 0)) ||
  (big != (sTmp d != 0)) ||
  (big && decide (s.get R.SETE_QWORK_BLOCKS hub 3 < 32)) ||
  (sSignal d && !(isComp (sSigDie d) && s.tokenOk (sSigDie d) (sSigCore d) (some (s.partOfEngine hub 0x36 3))))

/-- The spans a set descriptor reads and the largest it may write (R223): (address, bytes), reads first. -/
def setSpans (d : Nat) (segments : Nat) : List (Nat × Nat) × List (Nat × Nat) :=
  let op := sOp d
  let reads := (if op = 0 then [] else [(sA d, 16 * sAN d)]) ++ (if op = 2 ∨ op = 4 then [(sB d, 16 * sBN d)] else [])
  let out :=
    match op with
    | 0 => []
    | 2 => [(sOut d, 16 * (sAN d + sBN d))]
    | 5 => [(sSeg d, 16 * (sAN d + 1))]
    | 6 => [(sOut d, 2 * (sAN d + segments * (sPad d - 1))), (sSeg d, 16 * (sAN d + 1))]
    | _ => [(sOut d, 16 * sAN d)]
  (reads, out ++ (if sTmp d = 0 then [] else [(sTmp d, 16 * sAN d)]))

/-- R223, R224: the addresses: alignment and partition give BAD_ADDRESS, any other fault ACCESS_FAULT; with the fault found. -/
def State.setAddrCheck (s : State) (w : Who) (spans : List (Nat × Nat)) : Nat × Option (Nat × Nat) :=
  match spans.find? (fun x => x.1 % 64 != 0 || addrDie x.1 == 0xE) with
  | some _ => (5, none)
  | none =>
    match spans.findSome? (fun x => let k := s.judge w x.1 x.2; if k ≠ 0 then some (k, x.1) else none) with
    | some (k, a) => if k = 4 then (5, none) else (0xB, some (k, a))
    | none => (0, none)

/-- R224: a set descriptor finishes. -/
def State.setFinish (s : State) (hub : Nat) (d : QDesc) (status n cycles : Nat) : State :=
  let w : Who := { die := hub, part := s.ctxPart d.ctx }
  let s := if status ≠ 0 ∨ sComplete d.raw then
      s.qRecord seteQ w hub 3 d.ctx (sTag d.raw) status 0 n cycles 3 d.gen else s
  let s := if status ≠ 0 ∧ status ≠ 0xA then
      let s := ((s.put R.SETE_DESC_ERROR_STATUS status hub 3).put R.SETE_DESC_ERROR_CONTEXT d.ctx hub 3).put
        R.SETE_DESC_ERROR_TAG (sTag d.raw) hub 3
      (s.set1 R.SETE_ERROR_DESC_FAIL hub 3).put seteQ.stopped 1 hub 3 d.ctx
    else s
  let s := if sSignal d.raw && !d.nosig then s.signal (sSigDie d.raw) (sSigCore d.raw) (sSigTok d.raw) else s
  (s.qDone seteQ hub 3 d.ctx).ctxRelease d.ctx

/-- SET_DESC_TAKE: instance 3 takes its next descriptor and checks it (R222, R224). -/
def setDescTakeEff (hub : Nat) (s : State) : State :=
  let m := s.mover hub 3
  if !isHub hub || s.region (ingestRegion hub) != 0 || s.seteIngest hub || m.hand.isSome then s
  else
    match roundRobin 64 m.rr (fun c => s.ctxOpen c && s.qReady seteQ hub 3 c 0) with
    | none => s
    | some c =>
      let a := s.qSlot seteQ hub 3 c
      if !s.linkedTo hub [a] then s else
      let w : Who := { die := hub, part := s.ctxPart c }
      let (s, r) := s.load w a 64
      let s := ((s.qAdvance seteQ hub 3 c).ctxHold c).putMover hub 3 { m with rr := c }
      match r with
      | .error k =>
        (s.hubFault hub 0x36 3 c k a).setFinish hub { ctx := c, gen := s.ctxGen c, raw := 0, waiting := false } 9 0 0
      | .ok bytes =>
        let raw := leVal bytes
        let nosig := sSignal raw && !(isComp (sSigDie raw) && s.tokenOk (sSigDie raw) (sSigCore raw) w.part)
        let d : QDesc := { ctx := c, gen := s.ctxGen c, raw := raw, waiting := false, nosig := nosig }
        if sOp raw > 6 then s.setFinish hub d 1 0 0
        else if s.setFlagsBad hub raw then s.setFinish hub d 4 0 0
        else
          let (rd, wr) := setSpans raw 0
          match s.setAddrCheck w (rd ++ wr) with
          | (0, _) => s.putMover hub 3 { m with rr := c, hand := some d }
          | (st, f) =>
            let s := match f with | some (k, fa) => s.hubFault hub 0x36 3 c k fa | none => s
            s.setFinish hub d st 0 0

/-- R223: leave undefined what of an output overlaps an input, TMP or another output. -/
def State.setOverlap (s : State) (ins outs : List (Nat × Nat)) : State :=
  (outs.zipIdx).foldl (fun s (o, j) =>
    (ins ++ ((outs.zipIdx).filter (fun x => x.2 != j)).map (·.1)).foldl (fun s i =>
      if overlap o.1 o.2 i.1 i.2 then
        let lo := max o.1 i.1
        let (k, s) := s.tick
        { s with mem := s.mem.forget lo (min (o.1 + o.2) (i.1 + i.2) - lo) k }
      else s) s) s

/-- R219: a SORT above 65,536 records leaves its passes in TMP; the spec does not state what the last of them leaves there. -/
def State.setScratch (s : State) (d : Nat) : State :=
  if sTmp d = 0 then s
  else
    let (k, s) := s.tick
    { s with mem := s.mem.forget (sTmp d) (16 * sAN d) k }

/-- Read one input of a set descriptor: a fault is recorded at its address. -/
def State.setLoad (s : State) (w : Who) (hub ctx a n : Nat) : State × (Except Nat (List Byte)) :=
  match s.load w a n with
  | (s, .ok b) => (s, .ok b)
  | (s, .error k) => (s.hubFault hub 0x36 3 ctx k a, .error k)

/-- Write the outputs of a set descriptor, in order: a fault ends it and is recorded at that output's address. -/
def State.setStore (s : State) (w : Who) (hub ctx : Nat) : List (Nat × List Byte) → State × Nat
  | [] => (s, 0)
  | x :: t =>
    match s.store w x.1 x.2 with
    | (s, 0) => s.setStore w hub ctx t
    | (s, k) => (s.hubFault hub 0x36 3 ctx k x.1, k)

/-- R224: the status of an access fault. -/
def setFaultStatus (k : Nat) : Nat := if k = 6 then 9 else 0xB

/-- SET_DESC_COMPLETE: the descriptor in hand completes after the given hub FAB cycles, its results visible. The list of a
DISPATCH, padded by the segments found, is held to R223 before anything is written. A die in dusk or reset ends it with ABORTED (R426). -/
def setDescCompleteEff (hub cycles : Nat) (s : State) : State :=
  let m := s.mover hub 3
  match m.hand with
  | none => s
  | some d =>
    let raw := d.raw
    let (ins, outs) := setSpans raw 0
    if !isHub hub then s
    else if (ins ++ outs).any (fun x => s.cutAt hub none x.1 x.2) then
      (s.putMover hub 3 { m with hand := none }).setFinish hub d stAborted 0 cycles
    else if !s.linkedTo hub ((ins ++ outs).map (·.1)) then s
    else
      let s := s.putMover hub 3 { m with hand := none }
      let w : Who := { die := hub, part := s.ctxPart d.ctx }
      if sOp raw = 0 then s.setFinish hub d 0 0 cycles
      else
        let (s, ra) := s.setLoad w hub d.ctx (sA raw) (16 * sAN raw)
        match ra with
        | .error k => s.setFinish hub d (setFaultStatus k) 0 cycles
        | .ok ba =>
          let (s, rb) := if sOp raw = 2 ∨ sOp raw = 4 then s.setLoad w hub d.ctx (sB raw) (16 * sBN raw) else (s, .ok [])
          match rb with
          | .error k => s.setFinish hub d (setFaultStatus k) 0 cycles
          | .ok bb =>
            let o := setOp (sOp raw) (sMode raw) (sPad raw) (sMask raw) (sSwap raw) (recsOfBytes (sAN raw) ba) (recsOfBytes (sBN raw) bb)
            let wr := (setSpans raw o.segs.length).2
            match (if sOp raw = 6 then s.setAddrCheck w wr else (0, none)) with
            | (st + 1, f) =>
              let s := match f with | some (k, fa) => s.hubFault hub 0x36 3 d.ctx k fa | none => s
              s.setFinish hub d (st + 1) 0 cycles
            | (0, _) =>
              let body := if sOp raw = 6 then gatherBytes o.list else o.recs.flatMap recBytes
              let (s, k) := s.setStore w hub d.ctx ((if sOp raw = 5 then [] else [(sOut raw, body)]) ++
                (if sOp raw = 5 ∨ sOp raw = 6 then [(sSeg raw, segTable o.segs)] else []))
              if k ≠ 0 then s.setFinish hub d (setFaultStatus k) 0 cycles
              else
                let s := (s.setScratch raw).setOverlap ins wr
                s.setFinish hub d o.status (if sOp raw = 6 then o.list.length else o.recs.length) cycles

end Sys2Proof.Machine
end

