-- ==== Sys2Proof/Machine/Oct.lean ====
section
/-!
DEFINITION. The Orkaef Command Transport's messages, sessions and answers (R375 to R381), contexts (R384 to R388) and
the completion serialiser's fences (R349 to R353).
-/

namespace Sys2Proof.Machine

/-! ### Statuses of an answer (R380) -/

def octOk : Nat := 0x00
def octBadVersion : Nat := 0x01
def octBadOpcode : Nat := 0x02
def octBadLength : Nat := 0x03
def octBadHeader : Nat := 0x04
def octNoSession : Nat := 0x05
def octSessionFull : Nat := 0x06
def octNoRegister : Nat := 0x07
def octUnreachable : Nat := 0x08
def octInReset : Nat := 0x09
def octAccessFault : Nat := 0x0A
def octRefused : Nat := 0x0B
def octCtxNotOpen : Nat := 0x0C
def octStaleGen : Nat := 0x0D
def octBadCtxState : Nat := 0x0E
def octNoPartition : Nat := 0x0F
def octBadTarget : Nat := 0x10

/-! ### Sessions and answers (R376, R377) -/

/-- R375: the largest MEM payload at the MTU in force. -/
def State.memMax (s : State) : Nat := if s.flag R.ETH_CFG_MTU 0 then 8192 else 1024

def Sess.is (x : Sess) (src port id : Nat) : Bool := x.src == src && x.port == port && x.id == id

def State.sess? (s : State) (src port id : Nat) : Option Sess := s.sessions.find? (fun x => x.is src port id)

def State.showSessions (s : State) : State := s.put R.OCT_STATUS_SESSIONS s.sessions.length 0

def State.putSess (s : State) (y : Sess) : State :=
  { s with sessions := s.sessions.map (fun x => if x.is y.src y.port y.id then y else x) }

/-- Close a session (R376). -/
def State.closeSess (s : State) (src port id : Nat) : State :=
  { s with sessions := s.sessions.filter (fun x => !x.is src port id) }.showSessions

/-- R376: every session closes, and with them what they held, waited for and were owed. -/
def State.closeAll (s : State) : State :=
  { s with sessions := [], octQ := [], octBusy := none, octWait := [] }.showSessions

/-- An answer as it leaves the port (R375, R380). -/
def OctReq.reply (q : OctReq) (version status src detail count : Nat) (payload : List Byte) : Out :=
  .oct q.hdr.src q.hdr.port version q.hdr.session q.hdr.seq q.op status src detail count payload

/-- R376, R377: answer a request of a session, if its opening still stands, and keep the answer for duplicates. -/
def State.octAnswer (s : State) (q : OctReq) (status : Nat) (src : Nat := 0) (detail : Nat := 0) (count : Nat := 0)
    (payload : List Byte := []) : State :=
  match s.sess? q.hdr.src q.hdr.port q.hdr.session with
  | some x =>
    if x.opening = q.opening then
      let o := q.reply x.version status src detail count payload
      (s.putSess { x with answers := x.answers.map (fun a => if a.1 = q.hdr.seq then (a.1, some o) else a) }).send o
    else s
  | none => s

/-- R380: a refusal by the target, or OK. -/
def State.octResult (s : State) (q : OctReq) (src st : Nat) : State :=
  if st = 0 then s.octAnswer q octOk 0 0 q.hdr.count else s.octAnswer q octRefused src st

/-- R375, R380: a reserved header field, or a request field, is nonzero. -/
def hdrBad (h : OctHdr) : Bool :=
  h.flags != 0 || h.status != 0 || h.detailSrc != 0 || h.detail != 0 || (decide (63 < h.ctx) && h.ctx != 0xFF)

/-- R341, R367: can a request reach the command engine? The link is up, and MGMT runs. -/
def State.octUp (s : State) : Bool := s.flag R.ETH_STATUS_LINK_UP 0 && s.flag R.CLK_DOMAIN_RUNNING 0 0 5

/-- R377: accept a request: it takes its place in the order of acceptance (R379). -/
def State.octAccept (s : State) (x : Sess) (q : OctReq) : State :=
  let x : Sess := { x with next := (q.hdr.seq + 1) % 2 ^ 32,
                           answers := (x.answers ++ [(q.hdr.seq, none)]).drop (x.answers.length - 63) }
  { s.putSess x with octQ := s.octQ ++ [{ q with opening := x.opening }] }

/-- R377: accept each held request that follows in order, with fuel. -/
def State.octFollow : Nat → State → Nat → Nat → Nat → State
  | 0, s, _, _, _ => s
  | k + 1, s, src, port, id =>
    match s.sess? src port id with
    | none => s
    | some x =>
      match x.held.find? (fun q => q.hdr.seq == x.next) with
      | none => s
      | some q =>
        let x : Sess := { x with held := x.held.filter (fun r => r.hdr.seq != q.hdr.seq) }
        State.octFollow k ((s.putSess x).octAccept x q) src port id

/-- R376, R377: a request other than NEGOTIATE arrives. -/
def State.octArrive (s : State) (q : OctReq) : State :=
  let h := q.hdr
  let s := s.count R.OCT_REQUESTS_COUNT 1 0
  match s.sess? h.src h.port h.session with
  | none => s.send (q.reply h.version octNoSession 0 0 0 [])
  | some x =>
    if h.version ≠ x.version then s.send (q.reply h.version octBadVersion 0 0 0 [])
    else
      let x : Sess := { x with last := s.mgmt }
      let s := s.putSess x
      let d := (h.seq + 2 ^ 32 - x.next) % 2 ^ 32
      if d = 0 then State.octFollow 32 (s.octAccept x q) h.src h.port h.session
      else if d < 32 then
        if x.held.any (fun r => r.hdr.seq == h.seq) then s else s.putSess { x with held := x.held ++ [q] }
      else if d ≥ 2 ^ 32 - 64 then
        let s := s.count R.OCT_DUPLICATES_COUNT 1 0
        match x.answers.find? (fun a => a.1 == h.seq) with
        | some (_, some o) => s.send o
        | _ => s
      else s.count R.OCT_OUT_OF_ORDER_COUNT 1 0

/-- R376: NEGOTIATE opens or reopens a session at the version chosen. -/
def State.octNegotiate (s : State) (q : OctReq) : State :=
  let h := q.hdr
  let s := s.count R.OCT_REQUESTS_COUNT 1 0
  let say (s : State) (st : Nat) : State := s.send (q.reply h.version st 0 0 0 [])
  let lo := fieldAt h.payload 0 1
  let v := min (fieldAt h.payload 1 1) (s.get R.OCT_CFG_MAX_VERSION 0)
  if h.version ≠ 1 ∧ h.version ≠ 2 then say s octBadVersion
  else if hdrBad h || h.seq != 0 || h.session == 0 then say s octBadHeader
  else if h.count ≠ 0 ∨ h.length ≠ 8 ∨ h.payload.length ≠ 8 then say s octBadLength
  else if h.target ≠ 0 then say s octBadTarget
  else if fieldAt h.payload 2 6 ≠ 0 then say s octBadHeader
  else if v < lo ∨ v < 1 then say s octBadVersion
  else
    let old := s.sess? h.src h.port h.session
    if old.isNone ∧ s.sessions.length ≥ 16 then say s octSessionFull
    else
      let x : Sess := { src := h.src, port := h.port, id := h.session, version := v, opening := s.openings + 1, last := s.mgmt }
      let s : State := { s with openings := s.openings + 1, eth := { s.eth with announcing := 0 },
                                sessions := s.sessions.filter (fun y => !y.is h.src h.port h.session) ++ [x] }
      let s := s.showSessions
      s.send (q.reply v octOk 0 0 0
        (leBytes 1 v ++ leBytes 1 0 ++ leBytes 2 (s.get R.ID_PART_PART 0) ++ leBytes 1 (s.get R.ID_PART_OCT_MAX 0) ++
         leBytes 1 (s.get R.ID_PART_OPP_MAX 0) ++ leBytes 1 (16 - s.sessions.length) ++ leBytes 1 0 ++
         leBytes 4 s.memMax ++ leBytes 4 0))

/-- OCT_SESSION_IDLE: no request for OCT_CFG.IDLE (R376). -/
def octSessionIdleEff (src port session : Nat) (s : State) : State :=
  if (s.sess? src port session).isSome then s.closeSess src port session else s

/-! ### Notice slots (R381) -/

/-- SUBSCRIBE fills or empties a slot. A reserved bit, or a SLOT above 7, is refused with BAD_HEADER: the spec names no
status for it. -/
def State.octSubscribe (s : State) (q : OctReq) : State :=
  let b := q.hdr.payload
  let i := fieldAt b 0 1
  let cls := fieldAt b 1 1
  if i > 7 ∨ cls > 7 ∨ fieldAt b 4 4 ≠ 0 then s.octAnswer q octBadHeader
  else
    let s := s.put R.OCT_SUB_CFG_CLASSES cls 0 0 i
    let s := s.put R.OCT_SUB_CFG_PORT (fieldAt b 2 2) 0 0 i
    let s := s.put R.OCT_SUB_ADDR_HI_ADDR (fieldAt b 8 8) 0 0 i
    let s := s.put R.OCT_SUB_ADDR_LO_ADDR (fieldAt b 16 8) 0 0 i
    let s := if cls ≠ 0 then s.put R.OCT_SUB_CFG_SENT 0 0 0 i else s
    s.octAnswer q octOk

/-! ### Work cut short (R387, R423, R435) -/

/-- Take a descriptor's marks off its unit: an issuing product leaves its tile undefined; a chain's hold, and the
engine, are released. -/
def State.tileLoose (s : State) (die lead : Nat) (d : TDesc) : State :=
  let s := if tOp d.raw == 1 && d.stage == .issuing then
      (s.members die lead).foldl (fun s m => s.forgetTile die m.1 d.tile) s
    else s
  let s := if d.stage = .handed ∨ d.stage = .engine then s.showHeld die lead d.tile ((s.unit die lead).holds d) else s
  (s.members die lead).foldl (fun s m =>
    if d.stage = .handed then s.put R.VEC_STATUS_PENDING (s.get R.VEC_STATUS_PENDING die m.1 - 1) die m.1
    else if d.stage = .engine then (s.put R.VEC_STATUS_BUSY 0 die m.1).put R.VEC_STATUS_ROUTED 0 die m.1
    else s) s

/-- End every descriptor of a unit that satisfies a test with ABORTED. -/
def State.tilesAbort (s : State) (die lead : Nat) (p : TDesc → Bool) : State :=
  let l := (s.unit die lead).inHand.filter (fun d => p d && d.stage != .finished)
  if l.isEmpty then s
  else
    let s := if (s.unit die lead).carriedTo.any (fun c => l.any (fun d => d.id == c.1)) then s.landCarried die lead else s
    let s := l.foldl (fun s d =>
      let s := s.tileLoose die lead d
      s.putMx die lead ((s.unit die lead).update { d with stage := .finished, status := stAborted })) s
    (s.mxSettle die lead).showLock die lead

/-- Does a mover, or SETE instance 3, hold work of a context? -/
def Mover.holds (m : Mover) (c : Nat) : Bool := (m.hand.toList ++ m.held).any (fun d => d.ctx == c)

/-- End a mover's moves that satisfy a test with ABORTED. -/
def State.movesAbort (s : State) (die core : Nat) (p : QDesc → Bool) : State :=
  let m := s.mover die core
  let hit := (match m.hand with | some d => if p d then [d] else [] | none => []) ++ m.held.filter p
  if hit.isEmpty then s
  else
    let s := s.putMover die core { m with hand := (match m.hand with | some d => if p d then none else some d | none => none),
                                          held := m.held.filter (fun d => !p d) }
    hit.foldl (fun s d => s.moveFinish die core d stAborted 0 0) s

/-- End the set descriptor in hand with ABORTED, if it satisfies a test. -/
def State.setAbort (s : State) (hub : Nat) (p : QDesc → Bool) : State :=
  let m := s.mover hub 3
  match m.hand with
  | some d => if p d then (s.putMover hub 3 { m with hand := none }).setFinish hub d stAborted 0 0 else s
  | none => s

/-- R436: quarantine of a unit ends with RESULT 0. -/
def State.quarEnd (s : State) (die block inst : Nat) : State :=
  let hit (x : Quar) : Bool := x.die == die && x.block == block && x.inst == inst
  if s.quars.any hit then
    let s : State := { s with quars := s.quars.filter (fun x => !hit x) }
    (s.put R.RST_REPLAY_STATE 2 die).put R.RST_REPLAY_RESULT 0 die
  else s

/-- The matrix cores, as (die, core), that hold work of a context: descriptors or moves taken and not completed. -/
def State.coresOf (s : State) (c : Nat) : List (Nat × Nat) :=
  (compDies.flatMap fun die => (List.range 32).map fun m => (die, m)).filter fun x =>
    (s.unit x.1 x.2).inHand.any (fun d => d.ctx == c) || (s.mover x.1 x.2).holds c

/-- R387: fence the engines that hold work of a context: the work ends with ABORTED, and a quarantine that a fence reaches ends
(R436, R446). -/
def State.ctxAbort (s : State) (c : Nat) : State :=
  let s := (s.coresOf c).foldl (fun s x =>
    ((s.tilesAbort x.1 x.2 (fun d => d.ctx == c)).movesAbort x.1 x.2 (fun d => d.ctx == c)).quarEnd x.1 0x10 (s.lead x.1 x.2)) s
  let s := (hubs.filter fun h => (s.mover h 3).holds c).foldl (fun s h =>
    (s.setAbort h (fun d => d.ctx == c)).quarEnd h 0x36 3) s
  let s := s.redCtxAbort c
  s.qps.foldl (fun s x =>
    if fieldAt x.2.entry 2 1 = c ∧ x.2.inMsg then
      let s : State := { s with qps := nset x.1 { x.2 with inMsg := false } s.qps }
      ((s.put R.RDMA_QP_STATE 2 0 0 x.1).put R.RDMA_QP_CAUSE 6 0 0 x.1).ctxRelease c
    else s) s

/-! ### Contexts (R384 to R388) -/

def ctxClosedSt : Nat := 0
def ctxOpenSt : Nat := 1
def ctxClosingSt : Nat := 2
def ctxDrainingSt : Nat := 3

/-- CTX_OPEN. -/
def State.octCtxOpen (s : State) (q : OctReq) : State :=
  let c := q.hdr.ctx
  if c > 63 then s.octAnswer q octBadHeader
  else if (s.ctxPart c).isNone then s.octAnswer q octNoPartition
  else if s.get R.OCT_CTX_STATE 0 0 c ≠ ctxClosedSt then s.octAnswer q octBadCtxState
  else (s.put R.OCT_CTX_STATE ctxOpenSt 0 0 c).octAnswer q octOk 0 0 0 (leBytes 1 (s.ctxGen c))

/-- CTX_CLOSE: the context stops accepting submissions; the answer waits for CLOSED. -/
def State.octCtxClose (s : State) (q : OctReq) : State :=
  let c := q.hdr.ctx
  if c > 63 then s.octAnswer q octBadHeader
  else if s.get R.OCT_CTX_STATE 0 0 c ≠ ctxOpenSt then s.octAnswer q octBadCtxState
  else
    let s := (s.put R.OCT_CTX_STATE ctxClosingSt 0 0 c).redCtxClose
    { s with octWait := s.octWait ++ [(256 + c, q)] }

/-- R384: can every submission path of the context confirm? A die that cannot be reached holds it back; one in
reset counts as confirmed. -/
def State.ctxConfirmable (s : State) (c : Nat) : Bool :=
  match s.ctxPart c with
  | none => true
  | some p => (s.partDies p ++ s.partHubs p).all (fun d => s.isHeld d || s.reach d)

/-- CTX_STOP_CONFIRMED. -/
def ctxStopConfirmedEff (c : Nat) (s : State) : State :=
  if c < 64 ∧ s.get R.OCT_CTX_STATE 0 0 c = ctxClosingSt ∧ s.ctxConfirmable c then
    s.put R.OCT_CTX_STATE ctxDrainingSt 0 0 c
  else s

/-- R385: clear ENABLE of every queue of a context. -/
def State.ctxDisable (s : State) (c : Nat) : State :=
  let off (f : Fld) (s : State) (die i : Nat) : State :=
    if s.flag f die i c then s.put f 0 die i c else s
  let s := compDies.foldl (fun s d => (List.range 32).foldl (fun s m =>
    off R.SPAD_QCFG_ENABLE (off R.MXC_QCFG_ENABLE s d m) d m) s) s
  hubs.foldl (fun s h => off R.SETE_QCFG_ENABLE s h 3) s

/-- R384, R385, R386: the context becomes CLOSED: GEN rises, its queues are disabled, frames attributed to it are
discarded, and CTX_CLOSE is answered. -/
def State.ctxToClosed (s : State) (c : Nat) : State :=
  let s := (s.put R.OCT_CTX_STATE ctxClosedSt 0 0 c).put R.OCT_CTX_GEN (s.ctxGen c + 1) 0 0 c
  let s := (s.ctxDisable c).redCtxClosed c
  match s.octWait.find? (fun x => x.1 == 256 + c) with
  | some x =>
    { s with octWait := s.octWait.filter (fun y => y.1 != 256 + c) }.octAnswer x.2 octOk 0 0 0 (leBytes 1 (s.ctxGen c))
  | none => s

/-- CTX_CLOSED: OUTSTANDING has reached 0. -/
def ctxClosedEff (c : Nat) (s : State) : State :=
  if c < 64 ∧ s.get R.OCT_CTX_STATE 0 0 c = ctxDrainingSt ∧ s.get R.OCT_CTX_OUTSTANDING 0 0 c = 0 then s.ctxToClosed c
  else s

/-- CTX_DRAIN_LIMIT (R387, R388): with nothing outstanding, CLOSED without escalation. -/
def ctxDrainLimitEff (c : Nat) (s : State) : State :=
  let st := s.get R.OCT_CTX_STATE 0 0 c
  if c > 63 ∨ (st ≠ ctxClosingSt ∧ st ≠ ctxDrainingSt) then s
  else
    let n := s.get R.OCT_CTX_OUTSTANDING 0 0 c
    if st = ctxDrainingSt ∧ n = 0 then s.ctxToClosed c
    else
      let gen := s.ctxGen c
      let p := (s.ctxPart c).getD 0xFF
      let s := (s.ctxAbort c).put R.OCT_CTX_OUTSTANDING 0 0 0 c
      let s := (s.ctxToClosed c).set1 R.OCT_CTX_ESCALATED 0 0 c
      s.eventNotice 3 0 p c gen n

/-! ### The sequence fence (R350 to R353) -/

/-- R350: does the queue exist, on a unit in service, at its lead? -/
def State.fenceQueue (s : State) (e : FEntry) : Bool :=
  if e.block = 0x10 then
    isComp e.die && !s.excluded e.die && decide (e.inst < 32) && s.coreOk e.die e.inst && s.lead e.die e.inst == e.inst
  else if e.block = 0x12 then isComp e.die && !s.excluded e.die && decide (e.inst < 32) && s.coreOk e.die e.inst
  else if e.block = 0x36 then isHub e.die && e.inst == 3
  else if e.block = 0x61 then isHub e.die && decide (e.inst < 32) && s.chanHome e.inst == e.die && e.ctx == 0
  else false

/-- R352: the status of one entry before the fence starts. -/
def State.fenceEntryStatus (s : State) (x : Nat) : Nat :=
  let e : FEntry := { die := bits x 0 4, block := bits x 4 8, inst := bits x 12 12, ctx := bits x 24 6 }
  if bits x 30 34 ≠ 0 ∨ !s.fenceQueue e then 1
  else if s.inReset e.die then 5
  else if !s.reach e.die then 4
  else 0

def State.showFences (s : State) : State := s.put R.CLK_FENCE_STATUS_OUTSTANDING s.fences.length 0

/-- R351, R352: a fence is answered, or refused, with a status. -/
def State.fenceAnswer (s : State) (q : OctReq) (st : Nat) (payload : List Byte) : State :=
  let s := s.put R.CLK_FENCE_STATUS_LAST_STATUS st 0
  if st = 0 then (s.count R.CLK_FENCES_COUNT 1 0).octAnswer q octOk 0 0 q.hdr.count payload
  else (s.count R.CLK_FENCE_FAILS_COUNT 1 0).octAnswer q octRefused 3 st

/-- FENCE: check, accept, probe (R351 step 1, R352). -/
def State.octFence (s : State) (q : OctReq) : State :=
  let xs := (chunks 8 q.hdr.count q.hdr.payload).map leVal
  if s.fences.length ≥ 16 then s.fenceAnswer q 2 []
  else if q.hdr.count = 0 ∨ q.hdr.count > 32 ∨ q.hdr.payload.length ≠ 8 * q.hdr.count then s.fenceAnswer q 1 []
  else
    match (xs.map s.fenceEntryStatus).find? (· != 0) with
    | some st => s.fenceAnswer q st []
    | none =>
      let f : Fence := { number := s.fenceCount, req := q,
                         entries := xs.map (fun x => { die := bits x 0 4, block := bits x 4 8, inst := bits x 12 12, ctx := bits x 24 6 }) }
      { s with fences := s.fences ++ [f], fenceCount := s.fenceCount + 1 }.showFences

/-- R351: fences that have ended are answered in acceptance order, with fuel. -/
def State.fenceDrain : Nat → State → State
  | 0, s => s
  | k + 1, s =>
    match s.fences with
    | [] => s
    | f :: t =>
      match f.ended with
      | none => s
      | some st =>
        let pay := f.entries.flatMap (fun e => leBytes 2 (e.snap.getD 0))
        State.fenceDrain k ((({ s with fences := t }.showFences).fenceAnswer f.req st (if st = 0 then pay else [])))

def State.fenceSettle (s : State) : State := State.fenceDrain s.fences.length s

/-- Replace the entry of a fence. -/
def Fence.setEntry (f : Fence) (i : Nat) (e : FEntry) : Fence := { f with entries := f.entries.set i e }

def State.fenceUpdate (s : State) (n i : Nat) (g : FEntry → FEntry) : State :=
  { s with fences := s.fences.map (fun f => if f.number = n then { f with entries := f.entries.modify i g } else f) }

def State.fenceEntry? (s : State) (n i : Nat) : Option (Fence × FEntry) :=
  match s.fences.find? (fun f => f.number == n) with
  | some f => match f.entries[i]? with | some e => some (f, e) | none => none
  | none => none

/-- R352: does an engine reset of the entry's unit hold its probe back? -/
def State.probeHeld (s : State) (e : FEntry) : Bool :=
  s.resets.any (fun r => r.domain == 1 && r.die == e.die && decide (r.stage ≥ 2) && r.inst == e.inst &&
    ((r.block == 0x10 && (e.block == 0x10 || e.block == 0x12)) || r.block == e.block))

/-- FENCE_PROBE: a probe reaches its queue, over the links to it (R17, R18), and the queue takes S (R351 step 2). -/
def fenceProbeEff (n i : Nat) (s : State) : State :=
  match s.fenceEntry? n i with
  | some (f, e) =>
    if f.ended.isSome ∨ e.snap.isSome ∨ s.probeHeld e ∨ !s.reach e.die then s
    else
      let k := (ngetD s.qcnt (qKey e.block e.die e.inst e.ctx) {}).done
      s.fenceUpdate n i (fun e => { e with snap := some k })
  | none => s

/-- FENCE_WATERMARK_SEND: the records and writes of the S items are visible, and the watermark leaves (steps 3, 4). -/
def fenceWatermarkSendEff (n i : Nat) (s : State) : State :=
  match s.fenceEntry? n i with
  | some (_, e) => if e.snap.isSome && s.reach e.die then s.fenceUpdate n i (fun e => { e with sent := true }) else s
  | none => s

/-- FENCE_WATERMARK_ARRIVE: the serialiser holds the watermark; with all of them the fence completes (step 5). -/
def fenceWatermarkArriveEff (n i : Nat) (s : State) : State :=
  match s.fenceEntry? n i with
  | some (f, e) =>
    if f.ended.isSome ∨ !e.sent then s
    else
      let s := s.fenceUpdate n i (fun e => { e with here := true })
      let s : State := { s with fences := s.fences.map (fun f =>
        if f.number = n ∧ f.entries.all (·.here) then { f with ended := some 0 } else f) }
      s.fenceSettle
  | none => s

/-- FENCE_TIMEOUT: CLK_FENCE_LIMIT has passed since acceptance. -/
def fenceTimeoutEff (n : Nat) (s : State) : State :=
  let s : State := { s with fences := s.fences.map (fun f =>
    if f.number = n ∧ f.ended.isNone then { f with ended := some 3 } else f) }
  s.fenceSettle

/-- R352: the dusk of a die, half or module reset begins on dies: fences with an entry there whose watermark is not
in end with IN_RESET. -/
def State.fenceReset (s : State) (dies : List Nat) : State :=
  let s : State := { s with fences := s.fences.map (fun f =>
    if f.ended.isNone ∧ f.entries.any (fun e => dies.contains e.die && !e.here) then { f with ended := some 5 } else f) }
  s.fenceSettle

/-! ### RoCEv2 and the Ethernet port's own frames are in Ethernet.lean; the opcodes in Host.lean -/

end Sys2Proof.Machine
end

