-- ==== Sys2Proof/Machine/Ethernet.lean ====
section
/-!
DEFINITION. The Ethernet port (R366 to R369) and RoCEv2 (R370 to R374).
-/

namespace Sys2Proof.Machine

/-! ### The link (R367) -/

/-- The fastest enabled speed below a speed code (3 1.6 Tb/s, 2 800 Gb/s, 1 400 Gb/s); 0 for none. -/
def speedBelow (speeds : Nat) : Nat → Nat
  | 0 => 0
  | n + 1 => if bit speeds n then n + 1 else speedBelow speeds n

def State.speeds (s : State) : Nat := s.get R.ETH_CFG_SPEEDS 0

/-- R367: start choosing a speed from the fastest enabled; with none the port stays dark. -/
def State.ethStart (s : State) : State := { s with eth := { s.eth with trying := speedBelow s.speeds 3 } }

/-- The link goes down and speed choice starts again. -/
def State.ethRestart (s : State) : State :=
  let s := s.put R.ETH_STATUS_LINK_UP 0 0
  let s := s.put R.ETH_STATUS_SPEED 0 0
  (s.put R.ETH_STATUS_LANES_LOCKED 0 0).ethStart

/-- The lanes of a speed (R366). -/
def speedLanes (sp : Nat) : Nat := if sp = 1 then 0x0F else 0xFF

/-- PCS_LOCK: the receiver has PCS lock on the lanes given, at the speed being tried. -/
def pcsLockEff (lanes : Nat) (s : State) : State :=
  let sp := s.eth.trying
  if sp = 0 ∨ s.flag R.ETH_STATUS_LINK_UP 0 then s
  else
    let s := s.put R.ETH_STATUS_LANES_LOCKED (lanes &&& speedLanes sp) 0
    if lanes &&& speedLanes sp = speedLanes sp then
      (s.put R.ETH_STATUS_SPEED sp 0).set1 R.ETH_STATUS_LINK_UP 0
    else s

/-- ETH_SPEED_TRY: 500 ms without lock: the next enabled speed, or again the fastest. -/
def ethSpeedTryEff (s : State) : State :=
  if s.eth.trying = 0 ∨ s.flag R.ETH_STATUS_LINK_UP 0 then s
  else
    let n := speedBelow s.speeds (s.eth.trying - 1)
    let s := s.put R.ETH_STATUS_LANES_LOCKED 0 0
    { s with eth := { s.eth with trying := if n = 0 then speedBelow s.speeds 3 else n } }

/-- ETH_LINK_LOSS: PCS lock lost for 10 ms. -/
def ethLinkLossEff (s : State) : State :=
  if s.flag R.ETH_STATUS_LINK_UP 0 then (s.set1 R.ETH_ERROR_LINK_DOWN 0).ethRestart else s

/-- ETH_SPEEDS_WRITE: a write to ETH_CFG.SPEEDS. -/
def ethSpeedsWriteEff (v : Nat) (s : State) : State := (s.put R.ETH_CFG_SPEEDS v 0).ethRestart

/-! ### Priority flow control received and refreshed (R369) -/

/-- PFC_RX: pause the priorities of ETH_CFG.PFC_RX among those named. -/
def pfcRxEff (prios : Nat) (quanta : List Nat) (s : State) : State :=
  if !s.flag R.ETH_STATUS_LINK_UP 0 then s
  else
    let s := (s.count R.ETH_PFC_RX_COUNT 1 0).count R.ETH_RX_FRAMES_COUNT 1 0
    let on := s.get R.ETH_CFG_PFC_RX 0
    let p := (List.range 8).foldl (fun (m : List (Nat × Nat)) i =>
      if bit prios i && bit on i then
        (if nth quanta i 0 = 0 then nerase i m else nset i (nth quanta i 0) m)
      else m) s.eth.pauses
    { s with eth := { s.eth with pauses := p } }

/-- PAUSE_QUANTA_EXPIRE: the port resumes a priority. -/
def pauseQuantaExpireEff (prio : Nat) (s : State) : State :=
  { s with eth := { s.eth with pauses := nerase prio s.eth.pauses } }

/-- PFC_REFRESH: every asserting priority's frame is repeated. -/
def pfcRefreshEff (s : State) : State := s.pfcMask.foldl (fun s p => s.sendPfc p 0xFFFF) s

/-! ### Queue pairs (R371, R374) -/

def qpReset : Nat := 0
def qpReady : Nat := 1
def qpError : Nat := 2

def State.qpState (s : State) (q : Nat) : Nat := s.get R.RDMA_QP_STATE 0 0 q
def State.qp (s : State) (q : Nat) : QP := ngetD s.qps q {}
def State.putQp (s : State) (q : Nat) (x : QP) : State := { s with qps := nset q x s.qps }

def QP.kind (x : QP) : Nat := fieldAt x.entry 0 1
def QP.owner (x : QP) : Nat := fieldAt x.entry 1 1
def QP.ctx (x : QP) : Nat := fieldAt x.entry 2 1
def QP.pmtu (x : QP) : Nat := 128 * 2 ^ fieldAt x.entry 3 1
def QP.rkey (x : QP) : Nat := fieldAt x.entry 0x24 4
def QP.base (x : QP) : Nat := fieldAt x.entry 0x28 6
def QP.size (x : QP) : Nat := fieldAt x.entry 0x30 8
def QP.retry (x : QP) : Nat := fieldAt x.entry 0x39 1

/-- R371: does an entry hold a reserved value, a nonzero reserved byte or an OWNER outside the cut? -/
def State.qpBad (s : State) (e : List Byte) : Bool :=
  let kind := fieldAt e 0 1
  let own := fieldAt e 1 1
  let ctx := fieldAt e 2 1
  decide (kind > 3) ||
  (if kind = 1 then decide (own > 1) else decide (s.parts ≤ own)) ||
  (if kind = 2 then decide (63 < ctx) && ctx != 0xFF else ctx != 0xFF) ||
  fieldAt e 3 1 == 0 || decide (fieldAt e 3 1 > 5) || fieldAt e 7 1 != 0 ||
  decide (fieldAt e 0x22 1 > 7) || (kind == 2 && fieldAt e 0x2E 2 != 0) || (kind == 3 && fieldAt e 0x30 8 != 0) ||
  fieldAt e 0x38 1 == 0 || decide (fieldAt e 0x38 1 > 20) || decide (fieldAt e 0x39 1 > 7) || fieldAt e 0x3A 6 != 0

/-- Where a RESERVOIR queue pair's chunks go. -/
def QP.hub (x : QP) : Nat := x.owner

/-- A message in progress of a queue pair ends: its context holds it no more, and a chunk that has not arrived whole is not
kept (R183, R185). -/
def State.qpCut (s : State) (q : Nat) : State :=
  let x := s.qp q
  if !x.inMsg then s
  else if x.kind = 2 ∧ x.ctx < 64 then s.ctxRelease x.ctx
  else if x.kind = 1 then s.resvAbort x.hub q
  else s

/-- The queue pair enters ERROR with a cause. -/
def State.qpFail (s : State) (q cause : Nat) : State :=
  let s := s.qpCut q
  let s := s.putQp q { s.qp q with inMsg := false }
  (s.put R.RDMA_QP_STATE qpError 0 0 q).put R.RDMA_QP_CAUSE cause 0 0 q

/-- QP_LOAD: load entry q from the table. -/
def qpLoadEff (q : Nat) (s : State) : State :=
  if q ≥ 4096 ∨ s.qpState q ≠ qpReset then s
  else
    let bad (s : State) : State := s.put R.RDMA_QP_CAUSE 1 0 0 q
    match s.load { die := 0, part := none } (s.get R.RDMA_QPT_BASE 0 + 64 * q) 64 with
    | (s, .error _) => bad s
    | (s, .ok e) =>
      if fieldAt e 0 1 = 0 then s
      else if s.qpBad e then bad s
      else
        let s := s.putQp q { entry := e, sq := fieldAt e 8 3, rq := fieldAt e 0xC 3 }
        (s.put R.RDMA_QP_STATE qpReady 0 0 q).put R.RDMA_QP_CAUSE 0 0 0 q

/-- QP_TO_ERROR: a command. -/
def qpToErrorEff (q : Nat) (s : State) : State :=
  if q ≥ 4096 then s
  else
    let s := s.qpCut q
    (s.putQp q { s.qp q with inMsg := false }).put R.RDMA_QP_STATE qpError 0 0 q

/-- QP_TO_RESET: a command. -/
def qpToResetEff (q : Nat) (s : State) : State :=
  if q ≥ 4096 then s
  else
    let s := s.qpCut q
    { s with qps := nerase q s.qps }.put R.RDMA_QP_STATE qpReset 0 0 q

/-! ### Packets (R370 to R373) -/

def nakSequence : Nat := 0
def nakInvalid : Nat := 1
def nakAccess : Nat := 2

def State.rdmaTx (s : State) (kind : Nat) (f : List Nat) (b : List Byte) (pkts : Nat := 1) : State :=
  (s.send (.eth kind f b)).count R.RDMA_TX_PKTS_COUNT pkts 0

def State.rdmaAck (s : State) (q psn : Nat) : State := s.rdmaTx 5 [q, psn] []
def State.rdmaNak (s : State) (q psn code : Nat) : State :=
  (s.rdmaTx 6 [q, psn, code] []).count R.RDMA_NAKS_TX_COUNT 1 0

/-- R370, R372: refuse a request: a NAK, and the queue pair enters ERROR. -/
def State.rdmaRefuse (s : State) (q psn code cause : Nat) : State := (s.rdmaNak q psn code).qpFail q cause

/-- R373: MGMT counts in 50 µs. -/
def cnpGap : Nat := 20000

/-- Have 50 µs passed since the count noted for a queue pair? -/
def State.cnpDue (s : State) (m : List (Nat × Nat)) (q : Nat) : Bool :=
  match nfind q m with
  | some t => decide (cnpGap ≤ (s.mgmt + 2 ^ 64 - t) % 2 ^ 64)
  | none => true

/-- R373: a packet marked CE is answered with a CNP, at most once every 50 µs. -/
def State.rdmaCe (s : State) (p : RdmaPkt) : State :=
  if p.ce && s.cnpDue s.cnpSent p.qp then
    let s : State := { s with cnpSent := nset p.qp s.mgmt s.cnpSent }
    (s.rdmaTx 7 [p.qp] []).count R.RDMA_CNP_TX_COUNT 1 0
  else s

/-- What is wrong with the place of a packet in its queue pair's sequence: 0 nothing, 1 a duplicate, 2 ahead. -/
def QP.place (x : QP) (psn : Nat) : Nat :=
  let d := (psn + 2 ^ 24 - x.rq) % 2 ^ 24
  if d = 0 then 0 else if d ≥ 2 ^ 23 then 1 else 2

/-- A packet out of its place is acknowledged again, or refused with a sequence NAK. -/
def State.rdmaOut (s : State) (x : QP) (p : RdmaPkt) : State :=
  if x.place p.psn = 1 then s.rdmaAck p.qp p.psn else s.rdmaNak p.qp p.psn nakSequence

/-- R374: a request to a queue pair in ERROR is answered with a NAK (the spec names none: a free value). -/
def State.rdmaErr (s : State) (p : RdmaPkt) : State :=
  let (k, s) := s.tick
  s.rdmaNak p.qp p.psn (Config.free k 0 % 8)

/-- RESERVOIR_PACKET: a SEND packet for a reservoir (R183, R185, R187, R372). One that begins a message within a message, belongs to
none, or makes its message too long ends in an error of the queue pair. -/
def State.reservoirRx (s : State) (p : RdmaPkt) : State :=
  let x := s.qp p.qp
  if x.place p.psn ≠ 0 then s.rdmaOut x p
  else if p.op ≠ 0 then s.rdmaRefuse p.qp p.psn nakInvalid 4
  else if s.inReset x.hub then s.rdmaRefuse p.qp p.psn nakAccess 5
  else if !s.linkedTo 0 [x.hub * 2 ^ 44, (match s.resvCarve x.hub with | some c => c.base | none => 0)] then s
  else if p.first = x.inMsg then s.rdmaRefuse p.qp p.psn nakInvalid 4
  else
    match s.resvPacket x.hub p.qp p.first p.last p.data with
    | (s, .noRoom) => s
    | (s, .lands) =>
      (s.putQp p.qp { x with rq := (x.rq + 1) % 2 ^ 24, inMsg := !p.last }).rdmaAck p.qp p.psn
    | (s, _) => (s.putQp p.qp { x with inMsg := true }).rdmaRefuse p.qp p.psn nakInvalid 4

def reservoirPacketEff (p : RdmaPkt) (s : State) : State :=
  let s := s.count R.RDMA_RX_PKTS_COUNT 1 0
  if p.qp ≥ 4096 ∨ s.qpState p.qp = qpReset then s
  else if (s.qp p.qp).kind ≠ 1 then s
  else
    let s := s.rdmaCe p
    if s.qpState p.qp = qpError then s.rdmaErr p else s.reservoirRx p

/-- RESERVOIR_CHUNK_COMPLETE: the last packet of a SEND has arrived. -/
def reservoirChunkCompleteEff (q : Nat) (s : State) : State :=
  let x := s.qp q
  if x.kind = 1 then (s.resvComplete x.hub q).1 else s

/-- R171, R372: may a MEMORY queue pair's message reach the span? 0, or the fault kind; 0xF where the die, or the unit whose
scratchpad it is, is in dusk or reset (R426). -/
def State.rdmaJudge (s : State) (x : QP) (a n : Nat) : Nat :=
  if (isDie (addrDie a) && s.inReset (addrDie a)) || s.spadReset a n then 0xF else s.judge { die := 0, part := some x.owner } a n

/-- A message of a MEMORY queue pair is refused for its access (R372, R385). -/
def State.rdmaFault (s : State) (x : QP) (p : RdmaPkt) (kind a : Nat) : State :=
  let s := if kind = 0xF ∨ kind = 0 then s else s.hubFault 0 0x52 p.qp (if x.ctx < 64 then x.ctx else 0) kind a
  s.rdmaRefuse p.qp p.psn nakAccess 5

/-- R372: one packet of a WRITE. -/
def State.rdmaWrite (s : State) (x : QP) (p : RdmaPkt) : State :=
  let a := if p.first then x.base + p.va else x.wrAddr
  let left := if p.first then p.len else x.wrLeft
  if p.data.length > left ∨ (p.last ∧ p.data.length ≠ left) ∨ (!p.first ∧ !x.inMsg) then s.rdmaRefuse p.qp p.psn nakInvalid 4
  else
    match s.store { die := 0, part := some x.owner } a p.data with
    | (s, 0) =>
      let s := if x.ctx < 64 then
          (if p.first && !p.last then s.ctxHold x.ctx else if !p.first && p.last then s.ctxRelease x.ctx else s)
        else s
      (s.putQp p.qp { x with rq := (x.rq + 1) % 2 ^ 24, inMsg := !p.last,
                             wrAddr := a + p.data.length, wrLeft := left - p.data.length }).rdmaAck p.qp p.psn
    | (s, k) => s.rdmaFault x p k a

/-- R372: a READ: the response carries the bytes. -/
def State.rdmaRead (s : State) (x : QP) (p : RdmaPkt) : State :=
  let a := x.base + p.va
  match s.load { die := 0, part := some x.owner } a p.len with
  | (s, .ok b) =>
    let n := max 1 (ceilDiv p.len x.pmtu)
    (s.putQp p.qp { x with rq := (x.rq + n) % 2 ^ 24 }).rdmaTx 8 [p.qp, p.psn] b n
  | (s, .error k) => s.rdmaFault x p k a

/-- RDMA_PACKET_RX: a request for a MEMORY queue pair, or for one that takes none (R372). -/
def rdmaPacketRxEff (p : RdmaPkt) (s : State) : State :=
  let s := s.count R.RDMA_RX_PKTS_COUNT 1 0
  if p.qp ≥ 4096 ∨ s.qpState p.qp = qpReset then s
  else
    let x := s.qp p.qp
    if x.kind = 1 then s
    else
      let s := s.rdmaCe p
      if s.qpState p.qp = qpError then s.rdmaErr p
      else if x.place p.psn ≠ 0 then s.rdmaOut x p
      else if x.kind ≠ 2 ∨ (p.op ≠ 1 ∧ p.op ≠ 2) then s.rdmaRefuse p.qp p.psn nakInvalid 4
      else if p.first || p.op == 2 then
        if x.ctx < 64 && !s.ctxOpen x.ctx then s.rdmaRefuse p.qp p.psn nakAccess 6
        else if p.rkey ≠ x.rkey ∨ p.va + p.len > x.size then s.rdmaFault x p 0 0
        else
          let k := s.rdmaJudge x (x.base + p.va) p.len
          if k ≠ 0 then s.rdmaFault x p k (x.base + p.va)
          else if isDie (addrDie (x.base + p.va)) && !s.reach (addrDie (x.base + p.va)) then s
          else if p.op = 1 then s.rdmaWrite x p else s.rdmaRead x p
      else if !s.linkedTo 0 [x.wrAddr] then s
      else s.rdmaWrite x p

/-! ### Rates, retries (R373, R374) -/

/-- RDMA_CNP_RX: the queue pair's rate falls to 7/8, at most once every 50 µs. -/
def rdmaCnpRxEff (q : Nat) (s : State) : State :=
  if q ≥ 4096 ∨ s.qpState q = qpReset then s
  else
    let s := s.count R.RDMA_CNP_RX_COUNT 1 0
    if s.cnpDue s.cnpCut q then
      let x := s.qp q
      let s : State := { s with cnpCut := nset q s.mgmt s.cnpCut }
      s.putQp q { x with rateNum := x.rateNum * 7, rateDen := x.rateDen * 8 }
    else s

/-- RDMA_RATE_RECOVER: 100 µs without a CNP: the rate rises by 1/16 of the line rate. -/
def rdmaRateRecoverEff (q : Nat) (s : State) : State :=
  if q ≥ 4096 ∨ s.qpState q = qpReset then s
  else
    let x := s.qp q
    let n := 16 * x.rateNum + x.rateDen
    let d := 16 * x.rateDen
    s.putQp q (if d ≤ n then { x with rateNum := 1, rateDen := 1 } else { x with rateNum := n, rateDen := d })

/-- Is a far-window access of the queue pair's partition outstanding? -/
def State.farBusy (s : State) (q : Nat) : Bool :=
  s.movers.any fun m =>
    match m.2.hand with
    | some d =>
      let p := (s.partOfDie (m.1 / 32)).getD 0
      isComp (m.1 / 32) && moveFar d.raw && s.flag R.RDMA_FAR_VALID 0 0 p && s.get R.RDMA_FAR_QPN 0 0 p == q
    | none => false

/-- RDMA_ACK_TIMEOUT: the queue pair retries, or enters ERROR when its retries are exhausted. -/
def rdmaAckTimeoutEff (q : Nat) (s : State) : State :=
  let x := s.qp q
  if s.qpState q ≠ qpReady ∨ x.kind ≠ 3 ∨ !s.farBusy q then s
  else if x.retries ≥ x.retry then s.qpFail q 2
  else (s.putQp q { x with retries := x.retries + 1 }).count R.RDMA_RETRIES_COUNT 1 0

/-- NAK_RECEIVED: the queue pair enters ERROR. -/
def nakReceivedEff (q : Nat) (s : State) : State :=
  if s.qpState q = qpReady ∧ (s.qp q).kind = 3 then s.qpFail q 3 else s

/-- R374: an acknowledgement ends the run of retries. -/
def State.farAcked (s : State) (die : Nat) : State :=
  let q := s.get R.RDMA_FAR_QPN 0 0 ((s.partOfDie die).getD 0)
  match nfind q s.qps with
  | some x => if x.retries = 0 then s else s.putQp q { x with retries := 0 }
  | none => s

end Sys2Proof.Machine
end

