-- ==== Sys2Proof/Machine/Clocks.lean ====
section
/-!
DEFINITION. Clocks: starting and stopping a domain, loss of a PLL's lock (R341) and of a reference (R342).
-/

namespace Sys2Proof.Machine

/-- R339, R354: is a die's clock domain, by local index, running? -/
def State.runs (s : State) (die k : Nat) : Bool := s.flag R.CLK_DOMAIN_RUNNING die 0 k

/-- R342: is the reference of a domain lost? -/
def State.refLost (s : State) (src : Nat) : Bool := if src = 0 then s.aon.lost100 else s.aon.lost156

/-- R339: the domain of an excluded stack, which never starts. -/
def State.domainOut (s : State) (die k : Nat) : Bool :=
  isComp die && (s.excluded die || (decide (4 ≤ k) && !(s.stacks die).contains (k - 4)))

/-- A domain's PLL locks and its clock starts; its count begins anew. -/
def State.startClock (s : State) (die k : Nat) : State :=
  match (clkDoms die)[k]? with
  | none => s
  | some d =>
    if s.refLost d.src || s.domainOut die k then s
    else ((s.put R.CLK_DOMAIN_LOCKED 1 die 0 k).put R.CLK_DOMAIN_RUNNING 1 die 0 k).put R.CLK_COUNT_COUNT 0 die 0 k

/-- A domain's clock stops. -/
def State.stopClock (s : State) (die k : Nat) : State :=
  (s.put R.CLK_DOMAIN_LOCKED 0 die 0 k).put R.CLK_DOMAIN_RUNNING 0 die 0 k

/-- The local indices of a die's domains. -/
def clkIdx (die : Nat) : List Nat := List.range (clkDoms die).length

/-- R340, R354: the references a die sees. -/
def State.showRefs (s : State) (die : Nat) : State :=
  (s.put R.CLK_STATUS_REF100 (b2n (!s.aon.lost100)) die).put R.CLK_STATUS_REF156 (b2n (isHub die && !s.aon.lost156)) die

/-- R341: the part that sends a die's fault notices runs: MGMT on hub AM, SVC on hub PM. -/
def State.sender (s : State) (die : Nat) : Bool := !s.aon.lost100 && (if hubOf die = 0 then s.runs 0 5 else s.runs 1 4)

/-- R341: a domain's PLL loses lock: its output stops, LOCK_LOST is set and the fault notice is sent. -/
def State.lockLost (s : State) (die k : Nat) : State :=
  let s := (s.stopClock die k).set1 R.CLK_DOMAIN_LOCK_LOST die 0 k
  if s.sender die then s.faultNotice 4 die 0xFF 2 0 k 0xFF 0 (s.get R.CLK_DOMAIN_NUMBER die 0 k) 0 else s

/-- PLL_LOCK_LOST. AON has no PLL (R340). -/
def pllLockLostEff (die k : Nat) (s : State) : State :=
  if s.runs die k && !(die == 0 && k == clkAON) then s.lockLost die k else s

/-- R342: a peer port goes down with its clock. -/
def State.portDark (s : State) (port : Nat) : State :=
  let h := port / 8
  if s.flag R.PEER_STATUS_UP h port then
    let s := (s.put R.PEER_STATUS_UP 0 h port).put R.PEER_STATUS_VERSION 0 h port
    ((s.put R.PEER_STATUS_LANE_RATE 0 h port).put R.PEER_STATUS_LANES_UP 0 h port).set1 R.PEER_ERROR_LINK_DOWN h port
  else s

/-- R342: every PLL fed by an oscillator loses lock. -/
def State.srcLost (s : State) (src : Nat) : State :=
  liveDies.foldl (fun (s : State) die =>
    (clkIdx die).foldl (fun (s : State) k =>
      match (clkDoms die)[k]? with
      | some d => if d.src = src ∧ s.runs die k then (if die = 0 ∧ k = clkAON then s.stopClock die k else s.lockLost die k) else s
      | none => s) s) s

/-- REFERENCE_LOST (R342): 0 the 100 MHz oscillator, 1 the 156.25 MHz oscillator. With the first, nothing of the module
answers; with the second, REF_LOST is set on the dies that J20 can still reach. -/
def referenceLostEff (osc : Nat) (s : State) : State :=
  if osc = 0 then
    if s.aon.lost100 || !s.aon.powered then s
    else
      let s := State.srcLost { s with aon := { s.aon with lost100 := true } } 0
      liveDies.foldl (fun (s : State) d => s.put R.CLK_STATUS_REF100 0 d) s
  else if s.aon.lost156 || !s.aon.powered then s
  else
    let s := hubs.foldl (fun (s : State) h => if s.isHeld h then s else s.seamDown h) s
    let s := (List.range 16).foldl (fun (s : State) j => s.portDark j) s
    let s := (ethLinkLossEff s).srcLost 1
    let s : State := { s with aon := { s.aon with lost156 := true }, eth := { s.eth with trying := 0 } }
    let s := hubs.foldl (fun (s : State) d => s.put R.CLK_STATUS_REF156 0 d) s
    liveDies.foldl (fun (s : State) d => if s.reach d then s.set1 R.CLK_STATUS_REF_LOST d else s) s

end Sys2Proof.Machine
end

