-- ==== Sys2Proof/Machine/Stream.lean ====
section
/-!
DEFINITION. The structure stream: its layout (R38 to R40), records and their rules (R41 to R59, R451), and
validation in the order of R68 with the failures of R73 and R74. The rules of the other chapters that
validation applies: R137, R180 to R203, R220 (ingest graphs), R247 (routes), R316 (arbiters), R338 (clocks), R421.
-/

namespace Sys2Proof.Machine

/-- A validation failure as STREAM_ERROR shows it: status (R74), region, record index, offset in the stream (R73). -/
structure SFail where
  status : Nat
  region : Nat
  index : Nat
  off : Nat
  deriving DecidableEq, Repr

/-- A failure at a byte of a record's header or payload (payload from 8). -/
def SRec.fail (r : SRec) (status at' : Nat) : SFail := ⟨status, r.region, min r.idx 0xFFFE, r.off + at'⟩

/-- A failure of the header or digest. -/
def hdrFail (status off : Nat) : SFail := ⟨status, 0, 0xFFFF, off⟩

/-- A failure tied to no record or byte. -/
def looseFail (status region : Nat) : SFail := ⟨status, region, 0xFFFF, 0xFFFFFFFF⟩

/-- The first test that fails. -/
def firstBad {α : Type} (l : List (Bool × α)) : Option α := (l.find? (·.1)).map (·.2)

/-- Does a failure's record stand before another's? Records from 65,534 on share one index and are told apart by their
offset (R73). -/
def SFail.before (g f : SFail) : Bool :=
  decide (g.index < f.index) || (g.index == f.index && f.index == 0xFFFE && decide (g.off < f.off))

/-- The failure whose record stands first in the stream. -/
def earliest : List SFail → Option SFail
  | [] => none
  | f :: t =>
    match earliest t with
    | some g => if g.before f then some g else some f
    | none => some f

/-- R73: a rule between two records fails at the later of them, each with its failing field. -/
def laterFail (status : Nat) (r : SRec) (off : Nat) (other : Option (SRec × Nat)) : SFail :=
  match other with
  | some (q, o) => if r.idx < q.idx then q.fail status o else r.fail status off
  | none => r.fail status off

/-- A once-only GLOBAL record of the stream that a rule is judged by, and its field concerned (type, offset); none where the
active stream's settings are used (R68). -/
def globalRec (gl : List SRec) (f : Nat × Nat) : Option (SRec × Nat) :=
  (gl.find? (fun r => r.type == f.1)).map (fun r => (r, f.2))

/-- R65: the stream staging buffer. -/
def stagingBase : Nat := 0x17000000
def stagingSize : Nat := 0x1000000

/-! ### The header (R38, R39, R54, R68 step 1) -/

/-- R68, step 1: the header, against the bytes at hand; `full`: a full stream is needed. -/
def headerFail (b : List Byte) (full : Bool) : Option SFail :=
  let stepMin := fieldAt b 0x12 1
  firstBad [
    (b.length < 96, hdrFail 4 0x08),
    (fieldAt b 0 4 != 0x534F5A55, hdrFail 1 0),
    (fieldAt b 4 2 != 2 && fieldAt b 4 2 != 3, hdrFail 2 4),
    (fieldAt b 0x10 2 != 0x41, hdrFail 3 0x10),
    (stepMin != 0 && liveDies.any (fun d => decide (Config.stepping d % 256 < stepMin)), hdrFail 3 0x12),
    (fieldAt b 6 2 != 96, hdrFail 4 6),
    (decide (0x1000000 < fieldAt b 8 4), hdrFail 5 8),
    (decide (fieldAt b 8 4 < 96) || decide (b.length < fieldAt b 8 4), hdrFail 4 8),
    (fieldAt b 0x13 1 / 2 != 0, hdrFail 0xA 0x13),
    (fieldAt b 0x18 24 != 0, hdrFail 0xA 0x18),
    (full && bit (fieldAt b 0x13 1) 0, hdrFail 0xC 0x13)]

/-- R39: the digest of a stream, its DIGEST field taken as zero. -/
def streamDigest (b : List Byte) : List Byte := sha384 (b.take 0x30 ++ List.replicate 48 0 ++ b.drop 0x60)

/-! ### One record (R40, R43, R55, R56, R68 step 3) -/

def regionKnown (c : Nat) : Bool := regionCodes.contains c
def isDieRegion (c : Nat) : Bool := 4 ≤ c && c ≤ 7
def isHalfRegion (c : Nat) : Bool := c == 1 || c == 2

/-- R41: does a record type belong to the region? None: the type is unknown. -/
def typeIn (type region : Nat) : Option Bool :=
  if 1 ≤ type ∧ type ≤ 8 then some (region == 0)
  else match type with
  | 0x101 => some (isHalfRegion region || isDieRegion region)
  | 0x102 => some (isHalfRegion region)
  | 0x201 | 0x202 | 0x203 => some (isDieRegion region)
  | 0x301 | 0x302 | 0x303 => some (region == 0x10 || region == 0x11)
  | 0x401 | 0x402 => some (decide (0x20 ≤ region) && decide (region ≤ 0x23))
  | _ => none

/-- R41: the die whose units a HALF or DIE region covers. -/
def regionDie (c : Nat) : Nat := if c < 4 then c - 1 else c

/-- R451: the version-1 payload length of a type (none for the three types whose length is their content's). -/
def v1Len (type : Nat) (p : List Byte) : Option Nat :=
  match type with
  | 1 => some 48 | 3 => some 32 | 4 => some 4 | 5 => some 32 | 6 => some 16 | 8 => some 8
  | 0x102 => some 16 | 0x201 => some 4 | 0x203 => some 8
  | 0x202 => some (8 + 16 * fieldAt p 5 1)
  | 0x301 => some (8 + fieldAt p 3 1)
  | 0x302 => some 8 | 0x303 => some 16 | 0x401 => some 16 | 0x402 => some 16
  | _ => none

/-- R43: is LENGTH right for a version-1 record? -/
def lenOk (type len : Nat) (p : List Byte) : Bool :=
  let entries (size most : Nat) : Bool := len % size == 0 && decide (1 ≤ len / size) && decide (len / size ≤ most)
  match type with
  | 2 => entries 4 60
  | 7 => entries 4 64
  | 0x101 => entries 8 1024
  | _ => decide (8 ≤ len ∨ type ≠ 0x202 ∧ type ≠ 0x301) && v1Len type p == some len

/-- R44, R48: reserved fields of a payload, as (offset, bytes, lowest bit). -/
def reservedOf (type : Nat) (p : List Byte) : List (Nat × Nat × Nat) :=
  match type with
  | 1 => [(1, 3, 0), (0x20, 8, 33), (0x28, 8, 33)]
  | 3 => [(0, 1, 4), (1, 3, 0), (0xA, 6, 0)]
  | 4 => [(0, 4, 4)]
  | 5 => [(3, 5, 0), (8, 8, 48), (0x18, 8, 0)]
  | 6 => [(3, 1, 0), (8, 8, 0)]
  | 7 => (List.range (p.length / 4)).map (fun i => (4 * i + 3, 1, 0))
  | 8 => [(1, 7, 0)]
  | 0x101 => (List.range (p.length / 8)).flatMap (fun i => [(8 * i + 3, 1, 3), (8 * i + 6, 2, 0)])
  | 0x102 => (List.range 8).map (fun i => (2 * i, 2, 3))
  | 0x201 => [(0, 4, 16)]
  | 0x202 => (6, 2, 0) :: ((List.range (fieldAt p 5 1)).flatMap fun i => [(8 + 16 * i + 9, 1, 0), (8 + 16 * i + 12, 4, 0)])
  | 0x203 => [(0, 8, 13)]
  | 0x301 => [(4, 4, 0)]
  | 0x302 => [(4, 4, 4)]
  | 0x401 => [(1, 1, 0), (0xA, 6, 0)]
  | 0x402 => [(1, 1, 4), (3, 1, 0), (7, 1, 0), (0xB, 1, 0), (0xC, 4, 0)]
  | _ => []

/-- Reserved bits inside a field that the table above cannot name by its top part. -/
def reservedMid (type : Nat) (p : List Byte) : Option Nat :=
  match type with
  | 0x203 => if bits (fieldAt p 0 1) 6 2 != 0 then some 0 else none
  | 0x302 => if bits (fieldAt p 0 4) 12 4 != 0 then some 1 else if bits (fieldAt p 0 4) 28 4 != 0 then some 3 else none
  | _ => none

/-- R56: the first reserved payload field that is not zero. -/
def reservedBad (type : Nat) (p : List Byte) : Option Nat :=
  match (reservedOf type p).find? (fun x => fieldAt p x.1 x.2.1 >>> x.2.2 != 0) with
  | some x => some x.1
  | none => reservedMid type p

/-! ### Field values of one record (R44, R45, R48 to R51, R57, R58, R141, R316, R338) -/

/-- R44, R45: PART_CUT. -/
def partCutBad (p : List Byte) : Option Nat :=
  let n := cutParts (fieldAt p 0 1)
  let valid := fieldAt p 8 8
  let part := fieldAt p 0x10 16
  firstBad [
    (n == 0, 0),
    ((List.range 4).any (fun i => decide (1 < fieldAt p (4 + i) 1) || (decide (n ≤ i) && fieldAt p (4 + i) 1 != 0)), 4),
    (n == 1 && valid != 0, 8),
    ((n == 1 && part != 0) || (List.range 64).any (fun c =>
      let x := bits part (2 * c) 2
      if bit valid c then decide (n ≤ x) else x != 0), 0x10),
    (decide (n ≤ 2) && fieldAt p 0x20 8 != 0, 0x20),
    (decide (n ≤ 2) && fieldAt p 0x28 8 != 0, 0x28)]

/-- R338: a CLOCK_SET entry. -/
def clockEntryBad (e : List Byte) : Bool :=
  let f := fieldAt e 1 3
  match domainPlace (fieldAt e 0 1) with
  | none => true
  | some (die, i) =>
    match (clkDoms die)[i]? with
    | none => true
    | some d =>
      f != 0 && (if d.lo = d.dflt then f != d.dflt
                 else f % 25000 != 0 || decide (f < d.lo) || decide (d.dflt < f))

/-- The index of the first entry that fails, times its size. -/
def entryOff (size : Nat) (p : List Byte) (bad : List Byte → Bool) : Option Nat :=
  ((chunks size (p.length / size) p).findIdx? bad).map (· * size)

/-- R421: instances of a block with engine reset, on the kind of die it stands on (0 for the others). -/
def engineCount (die block : Nat) : Nat :=
  if isComp die then (match block with | 0x10 => 32 | 0x62 => 1 | _ => 0)
  else if isHub die then
    (match block with | 0x30 => 2 | 0x31 => 12 | 0x32 => 4 | 0x33 => 6 | 0x34 => 4 | 0x35 => 1 | 0x36 => 4 | _ => 0)
  else 0

/-- R57: instances that a resource's scope can name, and its owner codes. -/
def claimScopes (res : Nat) : List Nat := if res = 1 ∨ res = 2 then hubs else if res = 3 ∨ res = 4 then compDies else []
def claimOwners (res : Nat) : List Nat :=
  match res with | 1 => [1, 2] | 2 => [1, 3] | 3 => [4, 5] | 4 => [6, 7] | _ => []

/-- R48, R51, R316: an ARB_CLASS entry. -/
def arbEntryBad (die : Nat) (e : List Byte) : Bool :=
  let aging := fieldAt e 4 2
  match arbType die (fieldAt e 0 2) with
  | none => true
  | some t =>
    match (arbReqs t)[fieldAt e 2 1]? with
    | none => true
    | some q => q.kind == 0 || bits (fieldAt e 3 1) 0 2 == 0 || (bit (fieldAt e 3 1) 2 && q.kind != 2) ||
        (decide (1 ≤ aging) && decide (aging ≤ 15))

/-- R48, R132, R133, R141: an operation-table entry. -/
def vxEntryBad (e : List Byte) : Bool :=
  let w := fieldAt e 0 8
  decide (0x1C ≤ bits w 0 6) || decide (0xE ≤ bits w 8 4) || decide (0xE ≤ bits w 12 4) || decide (0xE ≤ bits w 16 4) ||
  decide (0xB ≤ bits w 24 4) || bits w 28 2 == 3

/-- Bits at and above a place of an 8-byte field. -/
def above (p : List Byte) (off k : Nat) : Bool := fieldAt p off 8 >>> k != 0

/-- R178, R190 to R203, R220: PARAMS of a node that involve nothing but themselves, as offsets in PARAMS (1 to
mark PARAM_LEN). -/
def paramsBad (hub block : Nat) (q : List Byte) : Option Nat :=
  let g (off n : Nat) : Nat := fieldAt q off n
  let size (n : Nat) : Bool × Nat := (q.length != n, 1)
  let work : List (Bool × Nat) :=
    [(decide (q.length < 16), 1),
     (g 0 8 / 2 ^ 44 != hub || g 0 8 % 0x10000 != 0 || decide (0x18000000 < g 0 8 % 2 ^ 44 + g 8 4 * 0x10000), 0),
     (g 8 4 == 0, 8), (decide (1 < g 0xC 4), 0xC)]
  match block with
  | 0x30 =>
    let n := g 0x19 1
    let sel (i : Nat) : Nat := g (0x20 + 8 * i) 8
    firstBad (work ++ [
      (decide (16 < n), 0x19), size (0x20 + 8 * n),
      (decide (g 0x12 2 < g 0x10 2), 0x12), (decide (15 < g 0x16 1), 0x16),
      (g 0x17 1 == 0 || decide (0xB < g 0x17 1), 0x17),
      (g 0x18 1 == 0 || decide (4 < g 0x18 1), 0x18), (g 0x1A 6 != 0, 0x1A)] ++
      (List.range n).map (fun i =>
        (decide (4 < bits (sel i) 0 4) || bits (sel i) 21 3 != 0 || bits (sel i) 52 12 != 0 ||
         decide (16 < i + bits (sel i) 48 4 + 1) ||
         (List.range i).any (fun j => overlap j (bits (sel j) 48 4 + 1) i (bits (sel i) 48 4 + 1)), 0x20 + 8 * i)))
  | 0x31 => firstBad (work ++ [size 32, (decide (0xB < g 0x12 1), 0x12), (g 0x13 1 != 0, 0x13), (g 0x16 2 != 0, 0x16),
      (g 0x1C 4 != 0, 0x1C)])
  | 0x32 =>
    firstBad (work ++ [size 24, (decide (1 < g 0x10 1), 0x10), (g 0x16 2 != 0, 0x16)] ++
      (if g 0x10 1 = 0 then
        [(decide (4 < g 0x11 1), 0x11), (decide (2 < g 0x12 1), 0x12), (decide (2 < g 0x13 1), 0x13),
         (g 0x14 2 != 0 && (decide (g 0x14 2 < 256) || decide (8192 < g 0x14 2)), 0x14)]
       else
        [(decide (15 < g 0x11 1), 0x11), (decide (63 < g 0x12 1), 0x12), (decide (1 < g 0x13 1), 0x13),
         (g 0x14 2 != 0 && (decide (g 0x14 2 < 0x100) || decide (0x8FF < g 0x14 2)), 0x14)]))
  | 0x33 => firstBad (work ++ [size 40, (decide (2 < g 0x10 1), 0x10), (decide (15 < g 0x11 1), 0x11),
      (decide (1 < g 0x12 1), 0x12), (decide (g 0x1C 2 < 16) || decide (4096 < g 0x1C 2), 0x1C),
      (decide (g 0x1E 2 < 16) || decide (2304 < g 0x1E 2), 0x1E), (g 0x23 5 != 0, 0x23)])
  | 0x34 =>
    let audio := g 0x10 1 == 1
    let t := g 0x16 1
    firstBad (work ++ [size 56, (decide (1 < g 0x10 1), 0x10), (!([1, 2, 3, 4, 8].contains (g 0x11 1)), 0x11),
      (g 0x12 1 != 0 && !(g 0x12 1 == 2 && [3, 4, 8].contains (g 0x11 1)), 0x12), (decide (1 < g 0x13 1), 0x13),
      (if audio then g 0x14 2 == 0 || decide (4096 < g 0x14 2)
       else g 0x14 2 % 2 != 0 || decide (g 0x14 2 < 4) || decide (32 < g 0x14 2), 0x14),
      (if audio then t != 1 else !([1, 2, 4, 8].contains t), 0x16),
      (if audio then g 0x17 1 != 0 else g 0x17 1 != 1 && g 0x17 1 != 3, 0x17),
      (t != 0 && g 0x18 4 % t != 0, 0x18), (g 0x1C 4 != 0, 0x1C)])
  | 0x35 => firstBad (work ++ [size 80, (g 0x18 8 == 0 || decide (2 ^ 40 < g 0x18 8), 0x18), (above q 0x28 40, 0x28),
      (above q 0x30 40, 0x30), (g 0x3C 2 == 0 || decide (4096 < g 0x3C 2), 0x3C), (decide (4096 < g 0x40 2), 0x40),
      (g 0x42 2 != 0, 0x42), (g 0x48 8 != 0, 0x48)])
  | 0x36 =>
    let op := g 0x10 1
    firstBad (work ++ [size 48, (op == 0 || decide (6 < op), 0x10), (g 0x11 1 % 4 == 3 || decide (7 < g 0x11 1), 0x11),
      (op == 6 && (g 0x12 2 == 0 || decide (256 < g 0x12 2)), 0x12), (g 0x14 4 != 0, 0x14),
      (op == 4 && (g 0x20 8 % 16 != 0 || above q 0x20 48), 0x20), (op == 4 && g 0x28 4 == 0, 0x28), (g 0x2C 4 != 0, 0x2C)])
  | _ => firstBad [size 40, (g 0 8 % 64 != 0 || above q 0 48, 0), (g 8 4 % 64 != 0, 8),
      (g 0xC 4 == 0 || decide (65536 < g 0xC 4), 0xC), (g 0x10 8 % 8 != 0 || above q 0x10 48, 0x10),
      (g 0x18 8 % 8 != 0 || above q 0x18 48, 0x18), (above q 0x20 14, 0x20)]

/-- R48: INGEST_NODE. -/
def nodeBad (hub : Nat) (p : List Byte) : Option Nat :=
  let block := fieldAt p 1 1
  let inst := fieldAt p 2 1
  let len := fieldAt p 3 1
  match firstBad [
    (decide (63 < fieldAt p 0 1), 0),
    (block != 0xFE && (decide (block < 0x30) || decide (0x36 < block)), 1),
    (if block = 0xFE then false else decide (engineCount hub block ≤ inst), 2),
    (len % 8 != 0 || decide (248 < len), 3)] with
  | some o => some o
  | none =>
    match paramsBad hub block ((p.drop 8).take len) with
    | some 1 => some 3
    | some o => some (8 + o)
    | none => none

/-- R48, R49, R247: RED_ROUTE, as far as it involves only itself. -/
def routeBad (g : Nat) (p : List Byte) : Option Nat :=
  let m := fieldAt p 2 2
  let hop (o : Nat) : Bool := decide (0x12 < fieldAt p o 1) || ((fieldAt p o 1 == 0x12) != (m == 1))
  firstBad [
    (fieldAt p 0 1 / 8 != g, 0), (m == 0 || decide (1024 < m), 2), (decide (m ≤ fieldAt p 4 2), 4),
    (hop 6, 6), (hop 7, 7), (decide (31 < fieldAt p 8 1), 8), (decide (31 < fieldAt p 9 1), 9)]

/-- R68, step 3: the first field of a record whose value breaks a rule of its own, as an offset in the payload. -/
def fieldBad (r : SRec) : Option Nat :=
  let p := r.payload
  match r.type with
  | 1 => partCutBad p
  | 2 => entryOff 4 p clockEntryBad
  | 5 => firstBad [(fieldAt p 0 1 == 0 || decide (6 < fieldAt p 0 1), 0), (decide (3 < fieldAt p 1 1), 1),
      (fieldAt p 2 1 != 0xFF && !regionKnown (fieldAt p 2 1), 2), (fieldAt p 0x10 8 == 0, 0x10)]
  | 6 =>
    let n := engineCount (fieldAt p 1 1) (fieldAt p 2 1)
    firstBad [(decide (31 < fieldAt p 0 1), 0),
      (n == 0 && (fieldAt p 2 1 == 0x10 || fieldAt p 2 1 == 0x62 ||
        (decide (0x30 ≤ fieldAt p 2 1) && decide (fieldAt p 2 1 ≤ 0x36))), 1),
      (n == 0, 2), (fieldAt p 4 4 >>> n != 0, 4)]
  | 7 => entryOff 4 p fun e =>
      !((claimOwners (fieldAt e 0 1)).contains (fieldAt e 2 1)) ||
      (fieldAt e 1 1 != 0xFF && !((claimScopes (fieldAt e 0 1)).contains (fieldAt e 1 1)))
  | 8 => if [64, 48, 32, 16, 8].contains (fieldAt p 0 1) then none else some 0
  | 0x101 => entryOff 8 p (arbEntryBad (regionDie r.region))
  | 0x102 => entryOff 2 p (fun e => bits (fieldAt e 0 2) 1 2 == 0 || bits (fieldAt e 0 2) 1 2 == 3)
  | 0x201 => if (List.range 8).any (fun q => bits (fieldAt p 0 2) (2 * q) 2 == 3) then some 0 else none
  | 0x202 =>
    match firstBad [(decide (63 < fieldAt p 4 1), 4),
        (fieldAt p 5 1 == 0 || decide (64 < fieldAt p 4 1 + fieldAt p 5 1), 5)] with
    | some o => some o
    | none => (entryOff 16 (p.drop 8) vxEntryBad).map (· + 8)
  | 0x301 => nodeBad (r.region - 0x10) p
  | 0x302 => if fieldAt p 4 1 < 2 ∨ 10 < fieldAt p 4 1 then some 4 else none
  | 0x303 => if fieldAt p 0 8 ≤ fieldAt p 8 8 then some 8 else none
  | 0x401 => routeBad (r.region - 0x20) p
  | 0x402 => firstBad [(fieldAt p 0 1 / 8 != r.region - 0x20, 0), (decide (4 < fieldAt p 2 1), 2)]
  | _ => none

/-- R68, step 3 for one record, from its bytes: its failure (status, offset in the record), or the record as read (none where it
is skipped, R55: DEDUCED (log 71), also with VERSION 0). Field values are judged for the regions in `judged`. -/
def readRec (fmt idx off : Nat) (judged : Nat → Bool) (raw : List Byte) : Except (Nat × Nat) (Option SRec) :=
  let type := fieldAt raw 0 2
  let len := fieldAt raw 2 2
  let ver := fieldAt raw 4 1
  let region := fieldAt raw 5 1
  let skipIt := fmt == 3 && bit (fieldAt raw 6 1) 0
  let tail := fmt == 3 && bit (fieldAt raw 6 1) 1
  let hdrRes := fieldAt raw 6 2 / 4 != 0
  let p := (raw.drop 8).take len
  let skipped : Except (Nat × Nat) (Option SRec) := if hdrRes then .error (0xA, 6) else .ok none
  if crc32c (raw.take (raw.length - 4)) ≠ fieldAt raw (raw.length - 4) 4 then .error (7, raw.length - 4)
  else if !regionKnown region then (if skipIt then skipped else .error (0xB, 5))
  else
    match typeIn type region with
    | none => if skipIt then skipped else .error (8, 0)
    | some false => .error (0xB, 5)
    | some true =>
      let newer := decide (1 < ver)
      if ver = 0 ∨ newer && !(tail && (v1Len type p).isSome) then .error (9, 4)
      else if fmt = 2 ∧ fieldAt raw 6 1 % 4 ≠ 0 then .error (0xA, 6)
      else if hdrRes then .error (0xA, 6)
      else
        let want := (v1Len type p).getD 0
        let lenBad := if newer then decide (len < want) || (len < 8 && (type == 0x202 || type == 0x301))
          else !lenOk type len p
        if lenBad then .error (4, 2)
        else
          let p := if newer then p.take want else p
          match reservedBad type p with
          | some o => .error (0xA, 8 + o)
          | none =>
            if !newer && fieldAt raw (8 + len) (raw.length - 12 - len) != 0 then .error (0xA, 8 + len)
            else
              let r : SRec := ⟨idx, off, type, ver, region, fieldAt raw 6 1, p, raw⟩
              if judged region then
                match fieldBad r with
                | some o => .error (0xC, 8 + o)
                | none => .ok (some r)
              else .ok (some r)

/-- R40: records from an offset to the stream's end: those read, and how many there are. -/
def readRecs (fmt : Nat) (judged : Nat → Bool) : Nat → Nat → Nat → Nat → List Byte → Except SFail (List SRec × Nat)
  | 0, idx, _, _, _ => .ok ([], idx)
  | k + 1, idx, off, left, b =>
    if left = 0 then .ok ([], idx)
    else
      let total := 12 + roundUp (fieldAt b 2 2) 4
      let here (status at' : Nat) : SFail := ⟨status, fieldAt b 5 1, min idx 0xFFFE, off + at'⟩
      if left < 12 ∨ left < total then .error (here 4 2)
      else
        match readRec fmt idx off judged (b.take total) with
        | .error e => .error (here e.1 e.2)
        | .ok r =>
          match readRecs fmt judged k (idx + 1) (off + total) (left - total) (b.drop total) with
          | .error e => .error e
          | .ok (l, n) => .ok ((match r with | some r => r :: l | none => l), n)

/-! ### Rules across records (R68 step 4) -/

/-- Every record with those that stand before it in the stream. -/
def withEarlier : List SRec → List SRec → List (SRec × List SRec)
  | _, [] => []
  | before, r :: t => (r, before) :: withEarlier (before ++ [r]) t

/-- R43: the most records of a type that a region may hold. -/
def mostOf (type : Nat) : Option Nat :=
  match type with
  | 1 | 2 | 3 | 4 | 7 | 8 | 0x102 | 0x201 | 0x203 | 0x303 => some 1
  | 5 | 6 => some 256
  | 0x301 => some 64
  | 0x302 => some 128
  | _ => none

/-- Step 4.1: occurrence limits and duplicates (R43, R53, R338). -/
def dupFails (rs : List SRec) : List SFail :=
  (withEarlier [] rs).flatMap fun x =>
    let r := x.1
    let p := r.payload
    let same := x.2.filter (fun q => q.type == r.type && q.region == r.region)
    (match mostOf r.type with
     | some n => if n ≤ same.length then [r.fail 0xD 0] else []
     | none => []) ++
    (if (r.type == 0x401 || r.type == 0x402) && same.any (fun q => fieldAt q.payload 0 1 == fieldAt p 0 1) then
      [r.fail 0xD 8] else []) ++
    (if r.type == 0x202 && same.any (fun q =>
        (fieldAt q.payload 0 4) &&& (fieldAt p 0 4) != 0 &&
        overlap (fieldAt q.payload 4 1) (fieldAt q.payload 5 1) (fieldAt p 4 1) (fieldAt p 5 1)) then
      [r.fail 0xD 8] else []) ++
    (if r.type = 2 then
      let es := (chunks 4 (p.length / 4) p).map (fun e => fieldAt e 0 1)
      match (List.range es.length).find? (fun i => (es.take i).contains (nth es i 0)) with
      | some i => [r.fail 0xD (8 + 4 * i)]
      | none => []
     else [])

/-- Is a matrix core, stack or peer port in service? -/
def State.coreIn (s : State) (die m : Nat) : Bool := bit (s.get R.ID_UNITS_MC_PRESENT die) m
def State.stackIn (s : State) (die i : Nat) : Bool := bit (s.get R.ID_UNITS_STACK_PRESENT die) i
def State.portIn (s : State) (j : Nat) : Bool := bit (s.get R.ID_UNITS_PEER_PRESENT (j / 8)) (j % 8)

/-- The cores that a FUSION mode fuses. -/
def fusedCores (mode : Nat) : List Nat := (List.range 32).filter (fun m => bits mode (2 * (m / 4)) 2 != 0)

/-- The first entry of a payload for which `bad` answers, as the offset of the entry in its record, with the answer. -/
def entryHit (size : Nat) (p : List Byte) (bad : List Byte → Option Nat) : Option (Nat × Nat) :=
  (List.range (p.length / size)).findSome? fun i => (bad ((p.drop (size * i)).take size)).map (fun x => (8 + size * i, x))

/-- Offsets in the EXCLUDE record of its four masks. -/
def dieMask : Nat := 8
def stackMask : Nat := 0xC
def peerMask : Nat := 0x10
def mcMask : Nat := 0x18

/-- A test whose failure lies with a field. -/
def hit (bad : Bool) (x : Nat) : Option Nat := if bad then some x else none

/-- Step 4.3: the offset in a record at which it names or configures an excluded unit (R51, R70, R316, R338), under the
exclusions of `g`, with the offset of the mask in EXCLUDE that excludes it. -/
def excludedAt (g : State) (r : SRec) : Option (Nat × Nat) :=
  let p := r.payload
  if isDieRegion r.region && g.excluded r.region then some (5, dieMask)
  else match r.type with
  | 2 => entryHit 4 p fun e =>
      match domainPlace (fieldAt e 0 1) with
      | some (die, i) =>
        (hit (g.excluded die) dieMask).or (hit (isComp die && decide (4 ≤ i) && !g.stackIn die (i - 4)) stackMask)
      | none => none
  | 4 => (hit ((List.range 4).any fun n => bit (fieldAt p 0 4) n && g.excluded (4 + n)) dieMask).map (fun m => (8, m))
  | 6 =>
    let d := fieldAt p 1 1
    if g.excluded d then some (9, dieMask)
    else if fieldAt p 2 1 = 0x10 ∧ (List.range 32).any (fun m => bit (fieldAt p 4 4) m && !g.coreIn d m) then some (12, mcMask)
    else none
  | 7 => entryHit 4 p fun e => hit (g.excluded (fieldAt e 1 1)) dieMask
  | 0x101 => entryHit 8 p fun e =>
      let d := regionDie r.region
      let a := fieldAt e 0 2
      match arbType d a with
      | some 0 => hit (!g.coreIn d (a / 32)) mcMask
      | some 1 => hit (!g.stackIn d ((a - 0x400) / 32)) stackMask
      | some 5 => hit (!g.portIn (8 * d + a - 0x50)) peerMask
      | _ => none
  | 0x102 => ((List.range 8).find? fun i =>
      bit (fieldAt p (2 * i) 2) 0 && !g.portIn (8 * (r.region - 1) + i)).map (fun i => (8 + 2 * i, peerMask))
  | 0x201 => (hit ((fusedCores (fieldAt p 0 2)).any (fun m => !g.coreIn r.region m)) mcMask).map (fun m => (8, m))
  | 0x202 => (hit ((List.range 32).any (fun m => bit (fieldAt p 0 4) m && !g.coreIn r.region m)) mcMask).map (fun m => (8, m))
  | 0x401 => ([6, 7].find? fun o => decide (fieldAt p o 1 < 16) && !g.portIn (fieldAt p o 1)).map (fun o => (o + 8, peerMask))
  | _ => none

/-- Step 4.3: a record that configures an excluded unit, at the later of it and EXCLUDE (R73), and a partition without a die. -/
def exclusionFails (g : State) (gl rs : List SRec) : List SFail :=
  (rs.filterMap fun r => (excludedAt g r).map fun x => laterFail 0xF r x.1 (globalRec gl (3, x.2))) ++
  (if (List.range g.parts).any (fun p => (g.partDies p).isEmpty) then
    (rs.filter (fun r => r.type == 3)).map (fun r => r.fail 0xF dieMask) else [])

/-- Step 4.4: reset groups (R47). -/
def groupFails (rs : List SRec) : List SFail :=
  (withEarlier [] rs).flatMap fun x =>
    let p := x.1.payload
    if x.1.type ≠ 6 then []
    else
      let before := x.2.filter (fun q => q.type == 6)
      (if before.any (fun q => fieldAt q.payload 0 1 == fieldAt p 0 1 && fieldAt q.payload 1 1 != fieldAt p 1 1) then
        [x.1.fail 0xC 9] else []) ++
      (if before.any (fun q => fieldAt q.payload 0 1 != fieldAt p 0 1 && fieldAt q.payload 1 2 == fieldAt p 1 2 &&
          (fieldAt q.payload 4 4) &&& (fieldAt p 4 4) != 0) then [x.1.fail 0xC 12] else [])

/-- The ARB_CLASS entries of a record: arbiter, AGING, offset of the entry in the record. -/
def agings (r : SRec) : List (Nat × Nat × Nat) :=
  (List.range (r.payload.length / 8)).map fun i => (fieldAt r.payload (8 * i) 2, fieldAt r.payload (8 * i + 4) 2, 8 + 8 * i)

/-- Step 4.5: AGING agreement within each arbiter (R51). -/
def agingFails (rs : List SRec) : List SFail :=
  (withEarlier [] rs).flatMap fun x =>
    if x.1.type ≠ 0x101 then []
    else
      let old := (x.2.filter (fun q => q.type == 0x101 && q.region == x.1.region)).flatMap agings
      let own := agings x.1
      match (List.range own.length).find? (fun i =>
        let e := nth own i (0, 0, 0)
        e.2.1 != 0 && (old ++ own.take i).any (fun o => o.1 == e.1 && o.2.1 != 0 && o.2.1 != e.2.1)) with
      | some i => [x.1.fail 0xC (nth own i (0, 0, 0)).2.2]
      | none => []

/-- R246: the home hub of a channel with a route's IN_HOP, under a cut. -/
def homeOf (g : State) (ch inHop : Nat) : Nat :=
  match g.cut with
  | 1 => if inHop < 16 then inHop / 8 else 0
  | 2 => ch / 16
  | _ => ch / 16

/-- Step 4.6: routes (R49, R247). A hop that the cut does not allow fails at the later of the route and PART_CUT. -/
def routeFails (g : State) (gl rs : List SRec) : List SFail :=
  let of (t : Nat) : List SRec := rs.filter (fun r => r.type == t)
  let ch (r : SRec) : Nat := fieldAt r.payload 0 1
  ((of 0x401).flatMap fun r =>
    let p := r.payload
    let i := fieldAt p 6 1
    let o := fieldAt p 7 1
    let hop (h : Nat) : Bool :=
      (decide (h < 16) && g.partOfPort h != g.partOfChan (ch r)) || (h == 0x11 && g.cut != 3) ||
      (g.cut == 1 && (h == 0x10 || h == 0x11))
    (if hop i then [laterFail 0xC r 14 (globalRec gl (1, 8))]
     else if hop o || (g.cut == 1 && decide (i < 16) && decide (o < 16) && i / 8 != o / 8) then
       [laterFail 0xC r 15 (globalRec gl (1, 8))]
     else []) ++
    (if decide (1 < fieldAt p 2 2) && !(g.carves.any fun c =>
        c.kind == 3 && c.owner == r.region && addrDie c.base == homeOf g (ch r) i && decide (0x100000 ≤ c.size)) then
      [r.fail 0xC 10] else [])) ++
  ((of 0x401).filter (fun r => (of 0x402).all (fun q => ch q != ch r))).map (fun r => r.fail 0xC 8) ++
  ((of 0x402).filter (fun r => (of 0x401).all (fun q => ch q != ch r))).map (fun r => r.fail 0xC 8)

/-! ### Ingest graphs (R50, R178, R180, R182, R189, R203) -/

/-- R178, R220: the kinds an output port produces; none where the port does not exist. A PERM node's port 0
passes on what enters its port 0, given as `through`. -/
def outKinds (n : NodeCfg) (port : Nat) (through : List Nat) : Option (List Nat) :=
  match n.block, port with
  | 0x30, k => if k < 16 then some [1] else none
  | 0x31, 0 => some [2] | 0x31, 1 => some [3] | 0x31, 2 => some [4]
  | 0x32, 0 => some [if n.par 0x10 1 = 0 then 5 else 6]
  | 0x33, 0 => some [2]
  | 0x34, 0 => some [7]
  | 0x35, 0 => some through
  | 0x35, 1 => some [8]
  | 0x36, 0 => some [8] | 0x36, 1 => some [0xA] | 0x36, 2 => some [9]
  | _, _ => none

/-- R178, R216, R220: the kinds an input port accepts; none where the port does not exist. -/
def inKinds (n : NodeCfg) (port : Nat) : Option (List Nat) :=
  let any := [1, 2, 3, 4, 5, 6, 7, 8, 9, 0xA]
  match n.block, port with
  | 0x31, 0 => some [1]
  | 0x32, k => if n.par 0x10 1 = 0 then (if k = 0 then some [1] else none) else if k < 16 then some [1, 4] else none
  | 0x33, 0 => some [2]
  | 0x34, 0 => some [2, 5]
  | 0x35, 0 => some any
  | 0x36, 0 => some [8]
  | 0x36, 1 => if n.par 0x10 1 = 2 then some [8] else none
  | 0xFE, k => if k < 16 then some any else none
  | _, _ => none

/-- The GLOBAL field that decides that an address may not be reached, by the kind of the access fault (R37, R171): EXCLUDE's
masks for an excluded unit or a home DRAM made smaller, PART_CUT's COUNT for another partition's memory. -/
def faultRule (g : State) (kind a : Nat) : Option (Nat × Nat) :=
  match kind with
  | 3 => some (3, if g.excluded (addrDie a) then dieMask else mcMask)
  | 4 => some (1, 8)
  | 1 => if isComp (addrDie a) && decide (addrOff a < 0x8000000000) then some (3, stackMask) else none
  | _ => none

/-- Does a path of edges lead from one node to another? (`fuel` edges at most.) -/
def leadsTo (es : List Edge) : Nat → List Nat → Nat → Bool
  | 0, from', goal => from'.contains goal
  | k + 1, from', goal =>
    from'.contains goal ||
    leadsTo es k ((from' ++ (es.filter (fun e => from'.contains e.src)).map (·.dst)).eraseDups) goal

/-- R92, R203: the fields of a delivery node that name memory, a die and a token: the first that breaks a rule, as an offset in
PARAMS, with the GLOBAL field it breaks the rule with, if any. -/
def deliveryBad (g : State) (hub : Nat) (n : NodeCfg) : Option (Nat × Option (Nat × Nat)) :=
  let a := n.par 0 8
  let d := addrDie a
  let part := nodePart g hub n
  let dest := g.kindAt { die := hub, part } a
  let within (x : Nat) : Nat := g.judge { die := hub, part } x 8
  let sig := n.par 0x20 8
  let sigDie := bits sig 10 4
  let sigCore := bits sig 5 5
  firstBad [
    (!isComp d || decide (2 ^ 44 < addrOff a + n.par 0xC 4 * n.par 8 4), 0, none),
    (g.excluded d, 0, some (3, dieMask)),
    (part.isNone || g.partOfDie d != part, 0, some (1, 8)),
    (dest != 0, 0, faultRule g dest a),
    (within (n.par 0x10 8) != 0, 0x10, faultRule g (within (n.par 0x10 8)) (n.par 0x10 8)),
    (within (n.par 0x18 8) != 0, 0x18, faultRule g (within (n.par 0x18 8)) (n.par 0x18 8)),
    (bit sig 0 && !isComp sigDie, 0x20, none),
    (bit sig 0 && g.excluded sigDie, 0x20, some (3, dieMask)),
    (bit sig 0 && g.partOfDie sigDie != part, 0x20, some (1, 8)),
    (bit sig 0 && !g.coreIn sigDie sigCore, 0x20, some (3, mcMask))]

/-- R57, R59: a claim's entry in the stream's CLAIMS record, as the record and the entry's offset. -/
def claimRec (gl : List SRec) (resource die : Nat) : Option (SRec × Nat) :=
  (gl.find? (fun r => r.type == 7)).bind fun r =>
    (entryHit 4 r.payload fun e =>
      hit (fieldAt e 0 1 == resource && (fieldAt e 1 1 == die || fieldAt e 1 1 == 0xFF)) 0).map (fun x => (r, x.1))

/-- Step 4.7 for one region's records: R50, R180, R189, R203, R220, and INGEST_WATER. -/
def graphFails (g : State) (region : Nat) (gl rs : List SRec) : List SFail :=
  let hub := region - 0x10
  let here := rs.filter (fun r => r.region == region)
  let nodes := (here.filter (fun r => r.type == 0x301)).map (fun r => (r, nodeOfPayload r.payload))
  let node (k : Nat) : Option (SRec × NodeCfg) := nodes.find? (fun x => x.2.node == k)
  let edges := (here.filter (fun r => r.type == 0x302)).map (fun r => (r, edgeOfPayload r.payload))
  let through (perm : Nat) : List Nat :=
    match edges.find? (fun e => e.2.dst == perm && e.2.dport == 0) with
    | some e =>
      match node e.2.src with
      | some n => (outKinds n.2 e.2.sport []).getD []
      | none => []
    | none => []
  ((withEarlier [] here).flatMap fun x =>
    let r := x.1
    let p := r.payload
    match r.type with
    | 0x301 =>
      let n := nodeOfPayload p
      let before := (x.2.filter (fun q => q.type == 0x301)).map (fun q => nodeOfPayload q.payload)
      (if before.any (fun q => q.node == n.node) then [r.fail 0xC 8] else []) ++
      (if before.any (fun q => q.block == n.block && q.inst == n.inst) then
        [r.fail (if n.block = 0xFE then 0xC else 0xD) 10] else []) ++
      (if n.block = 0xFE ∧ 7 < n.inst then [r.fail 0xC 10] else []) ++
      (if (n.block = 0x35 ∧ g.claim 2 hub ≠ 1) ∨ (n.block = 0x36 ∧ n.inst = 3 ∧ g.claim 1 hub ≠ 1) then
        [laterFail 0x12 r 10 (claimRec gl (if n.block = 0x35 then 2 else 1) hub)] else []) ++
      (if n.block = 0x30 ∧ before.any (fun q => q.block == 0x30 &&
          decide (q.par 0x10 2 ≤ n.par 0x12 2) && decide (n.par 0x10 2 ≤ q.par 0x12 2)) then [r.fail 0xC 0x20] else []) ++
      (if n.block = 0xFE then
        match deliveryBad g hub n with
        | some o => [laterFail 0xC r (16 + o.1) (o.2.bind (globalRec gl))]
        | none => []
       else []) ++
      (let k := g.judge { die := hub, part := nodePart g hub n } (n.par 0x20 8) (16 * n.par 0x28 4)
       if n.block = 0x36 ∧ n.par 0x10 1 = 4 ∧ k ≠ 0 then
         [laterFail 0xC r 0x30 ((faultRule g k (n.par 0x20 8)).bind (globalRec gl))] else [])
    | 0x302 =>
      let e := edgeOfPayload p
      let before := (x.2.filter (fun q => q.type == 0x302)).map (fun q => edgeOfPayload q.payload)
      (if before.any (fun q => q.dst == e.dst && q.dport == e.dport) then [r.fail 0xD 10] else []) ++
      (if before.any (fun q => q.src == e.src && q.sport == e.sport) then [r.fail 0xC 8] else []) ++
      (if leadsTo before 64 [e.dst] e.src then [r.fail 0xC 8] else []) ++
      (if 8192 < (before.map (·.depth)).foldl (· + ·) e.depth then [r.fail 0xC 12] else []) ++
      (match node e.src, node e.dst with
       | some a, some b =>
         let late : SRec := if r.idx < max a.1.idx b.1.idx then (if a.1.idx < b.1.idx then b.1 else a.1) else r
         let at' : Nat := if late.idx = r.idx then 8 else 9
         match outKinds a.2 e.sport (through e.src), inKinds b.2 e.dport with
         | some ks, some js => (if ks.all (fun k => js.contains k) then [] else [late.fail 0xC at']) ++
             (if g.cut = 3 ∧ nodePart g hub a.2 ≠ nodePart g hub b.2 then
               [laterFail 0xC late at' (globalRec gl (1, 0x28 + 8 * hub))] else [])
         | _, _ => [late.fail 0xC at']
       | none, _ => [r.fail 0xC 8]
       | some _, none => [r.fail 0xC 10])
    | 0x303 =>
      match g.carves.find? (fun c => c.kind == 1 && c.owner == region) with
      | some c =>
        if c.size < fieldAt p 0 8 then
          [laterFail 0xC r 8 ((gl.find? (fun q => q.type == 5 && carveOfPayload q.payload == c)).map (fun q => (q, 24)))]
        else []
      | none => [r.fail 0xC 8]
    | _ => [])

/-- Step 4.7: the graphs of both hubs, and where spill carve-outs lie (R182). -/
def ingestFails (g : State) (gl rs : List SRec) : List SFail :=
  graphFails g 0x10 gl rs ++ graphFails g 0x11 gl rs ++
  (rs.filter (fun r => r.type == 5)).flatMap fun r =>
    let c := carveOfPayload r.payload
    if c.kind = 2 ∧ (c.owner = 0x10 ∨ c.owner = 0x11) ∧
       !((halfDies (c.owner - 0x10)).contains (addrDie c.base) && decide (addrOff c.base < 0x0F0000000000)) then
      [r.fail 0xC 16] else []

/-! ### Carve-outs and work areas (R46, R181, R225) -/

/-- R46: the offset in a CARVE record at which it breaks a rule other than overlap, with the GLOBAL field it breaks the rule
with, if any. DEDUCED (log 70): all of them are judged in step 4.8, but for SIZE 0 (step 3). -/
def carveBad (g : State) (c : Carve) : Option (Nat × Option (Nat × Nat)) :=
  let d := addrDie c.base
  let o := addrOff c.base
  if g.parts ≤ c.part then some (9, some (1, 8))
  else if c.size = 0 then some (24, none)
  else match c.kind with
  | 6 => firstBad [(c.base != 0xE00000000000, 16, none), (decide (2 ^ 44 < c.size), 24, none)]
  | 3 => firstBad [(!isHub d || o % 0x10000 != 0, 16, none), (!((g.partHubs c.part).contains d), 16, some (1, 8)),
      (c.size % 0x10000 != 0 || decide (0x18000000 < o + c.size), 24, none)]
  | _ => firstBad [(!isComp d || o % 0x200000 != 0, 16, none), (g.excluded d, 16, some (3, dieMask)),
      (g.partOfDie d != some c.part, 16, some (1, 8)),
      (c.size % 0x200000 != 0 || decide (0x8000000000 < o + c.size), 24, none),
      (decide (g.homeSize d < o + c.size), 24, some (3, stackMask))]

/-- Step 4.8: carve-out rules, and overlaps of carve-outs, work areas and SETE_QWORK. No record sets SETE_QWORK: it stands at 0
blocks once its region is loaded, and a REGION_LOAD is judged by the area in force (DEDUCED, log 37). -/
def carveFails (g : State) (load : Option Nat) (gl rs : List SRec) : List SFail :=
  let inStream := (rs.filter (fun r => r.type == 5)).map (fun r => (r, carveOfPayload r.payload))
  let redBufs : List (Nat × Nat × Nat) :=
    if inStream.isEmpty then (g.carves.filter (fun c => c.kind == 3)).map (fun c => (0, c.base, c.size))
    else (inStream.filter (fun x => x.2.kind == 3)).map (fun x => (x.1.idx, x.2.base, x.2.size))
  let qworks : List (Nat × Nat) :=
    match load with
    | some c => if c = 0x10 ∨ c = 0x11 then [g.qworkArea (c - 0x10)] else []
    | none => []
  (inStream.flatMap fun x =>
    match carveBad g x.2 with
    | some o => [laterFail 0xC x.1 o.1 (o.2.bind (globalRec gl))]
    | none =>
      if overlap stagingBase stagingSize x.2.base x.2.size ||
         inStream.any (fun y => decide (y.1.idx < x.1.idx) && overlap y.2.base y.2.size x.2.base x.2.size) then
        [x.1.fail 0x10 16] else []) ++
  (let areas := (rs.filter (fun r => r.type == 0x301 && fieldAt r.payload 1 1 != 0xFE)).map fun r =>
     let n := nodeOfPayload r.payload
     (r, n.par 0 8, n.par 8 4 * 0x10000)
   areas.flatMap fun x =>
     if overlap stagingBase stagingSize x.2.1 x.2.2 || qworks.any (fun q => overlap q.1 q.2 x.2.1 x.2.2) ||
        areas.any (fun y => decide (y.1.idx < x.1.idx) && overlap y.2.1 y.2.2 x.2.1 x.2.2) then [x.1.fail 0x10 16]
     else
       match redBufs.find? (fun b => overlap b.2.1 b.2.2 x.2.1 x.2.2) with
       | some b =>
         if b.1 ≤ x.1.idx then [x.1.fail 0x10 16]
         else (inStream.filter (fun y => y.1.idx == b.1)).map (fun y => y.1.fail 0x10 16)
       | none => [])

/-- Step 4.9: claims (R58, R59). -/
def claimFails (g : State) (gl rs : List SRec) : List SFail :=
  rs.flatMap fun r =>
    let p := r.payload
    match r.type with
    | 7 =>
      let es := chunks 4 (p.length / 4) p
      let cover (e : List Byte) (f : List Byte) : Bool :=
        fieldAt e 0 1 == fieldAt f 0 1 && (fieldAt e 1 1 == 0xFF || fieldAt f 1 1 == 0xFF || fieldAt e 1 1 == fieldAt f 1 1)
      match (List.range es.length).find? (fun i => (es.take i).any (cover (nth es i []))) with
      | some i => [r.fail 0x11 (8 + 4 * i)]
      | none => []
    | 5 =>
      let c := carveOfPayload p
      if c.kind = 5 ∧ g.claim 4 (addrDie c.base) ≠ 6 then [laterFail 0x12 r 8 (claimRec gl 4 (addrDie c.base))] else []
    | _ => []

/-- R52, R262: is a deadline ratio broken? -/
def ratioBad (straggler watchdog : Bool) (window limit : Nat) : Bool :=
  straggler && watchdog && decide (max limit 1 < 8 * max window 1)

/-- Step 4.10: the deadline ratio (R52). -/
def ratioFails (rs : List SRec) : List SFail :=
  (rs.filter (fun r => r.type == 0x402 &&
    ratioBad (bit (fieldAt r.payload 1 1) 2) (bit (fieldAt r.payload 1 1) 3) (fieldAt r.payload 4 3) (fieldAt r.payload 8 3))).map
    (fun r => r.fail 0x13 16)

/-- Step 4.11: the GLOBAL equality of R67, for REGION_LOAD. DESIGN CHOICE (log 69): a record skipped under IGNORABLE_RECORD is
no GLOBAL record here, whatever its REGION says. -/
def globalFail (g : State) (partial' : Bool) (rs : List SRec) : Option SFail :=
  let new := rs.filter (fun r => r.region == 0)
  let old := ngetD g.recs 0 []
  if partial' then new.head?.map (fun r => r.fail 0x14 0)
  else
    let nthOf (l : List SRec) (t n : Nat) : Option (List Byte) := ((l.filter (fun r => r.type == t))[n]?).map (·.raw)
    match (withEarlier [] new).find? (fun x =>
      nthOf old x.1.type ((x.2.filter (fun q => q.type == x.1.type)).length) != some x.1.raw) with
    | some x => some (x.1.fail 0x14 0)
    | none => if new.length < old.length then some (looseFail 0x14 0) else none

/-! ### A stream -/

/-- A stream that has been validated: format, KIND (partial), STREAM_ID, bytes, and the records read. -/
structure Loaded where
  format : Nat
  isPartial : Bool
  id : Nat
  bytes : List Byte
  recs : List SRec
  deriving DecidableEq, Repr

def Loaded.of (l : Loaded) (region : Nat) : List SRec := l.recs.filter (fun r => r.region == region)

/-- R24, R33, R34: the fields of ID_DIE and ID_UNITS that GLOBAL records set, and those records in force. DESIGN CHOICE
(log 67): PARTITION of an excluded die, which belongs to none, reads 0. -/
def State.applyIds (s : State) (recs : List SRec) : State :=
  let s : State := { s with recs := nset 0 recs s.recs }
  let cut := match s.recOf 0 1 with | some p => fieldAt p 0 1 | none => 0
  let ex := (s.recOf 0 3).getD (List.replicate 32 0)
  let s := compDies.foldl (fun (s : State) d =>
    let out := bit (fieldAt ex 0 1) (d - 4)
    let s := s.put R.ID_DIE_EXCLUDED (b2n out) d
    let s := s.put R.ID_DIE_PARTITION (if out then 0 else cutPartOf cut d) d
    let s := s.put R.ID_UNITS_MC_PRESENT (if out then 0 else 0xFFFFFFFF - fieldAt ex (0x10 + 4 * (d - 4)) 4) d
    s.put R.ID_UNITS_STACK_PRESENT (if out then 0 else 0xFF - fieldAt ex (d) 1) d) s
  let s := hubs.foldl (fun (s : State) h =>
    (s.put R.ID_DIE_PARTITION (match cut with | 2 => h | 3 => 2 * h | _ => 0) h).put
      R.ID_UNITS_PEER_PRESENT (0xFF - fieldAt ex (8 + h) 1) h) s
  liveDies.foldl (fun (s : State) d =>
    (s.put R.ID_DIE_PARTITION_VALID 1 d).put R.ID_DIE_PARTITION_COUNT cut d) s

/-- R68: validate a stream, for Daybreak and INSTALL_STREAM (`load` none), or for REGION_LOAD of a region. -/
def State.validate (s : State) (b : List Byte) (load : Option Nat) : Except SFail Loaded :=
  match headerFail b load.isNone with
  | some f => .error f
  | none =>
    let len := fieldAt b 8 4
    let b := b.take len
    if streamDigest b ≠ (b.drop 0x30).take 48 then .error (hdrFail 6 0x30)
    else
      let judged (c : Nat) : Bool := match load with | some n => c == 0 || c == n | none => true
      match readRecs (fieldAt b 4 2) judged (len / 12 + 1) 0 96 (len - 96) (b.drop 96) with
      | .error f => .error f
      | .ok (all, n) =>
        if n ≠ fieldAt b 0xC 4 then .error (hdrFail 4 0xC)
        else
          let isPart := bit (fieldAt b 0x13 1) 0
          let l : Loaded := ⟨fieldAt b 4 2, isPart, fieldAt b 0x14 4, b, all⟩
          let rs := all.filter (fun r => judged r.region)
          let g := if load.isNone then s.applyIds (l.of 0) else s
          let gl := if load.isNone then l.of 0 else []
          let missing := !isPart && !(all.any (fun r => r.type == 1) && all.any (fun r => r.type == 4))
          let steps : List (Option SFail) :=
            [earliest (dupFails rs),
             (if missing then some (looseFail 0xE 0) else none),
             (match load with
              | some c => if (l.of c).isEmpty then some (looseFail 0x15 c) else none
              | none => none),
             earliest (exclusionFails g gl rs), earliest (groupFails rs), earliest (agingFails rs),
             earliest (routeFails g gl rs), earliest (ingestFails g gl rs), earliest (carveFails g load gl rs),
             earliest (claimFails g gl rs), earliest (ratioFails rs),
             (if load.isSome then globalFail s isPart rs else none)]
          match steps.findSome? id with
          | some f => .error f
          | none => .ok l

/-- R65: the stream in the staging buffer: as many bytes as its STREAM_LEN gives (a header alone where that is too long). -/
def State.staged (s : State) : List Byte :=
  let n := leVal (s.mem.read (stagingBase + 8) 4)
  s.mem.read stagingBase (if stagingSize < n then 96 else max n 96)

end Sys2Proof.Machine
end

