-- ==== Sys2Proof/Machine/Update.lean ====
section
/-!
DEFINITION. The update engines: the layer table and its checks (R274 to R279), the rules MOMENTUM, ADAMW, TRUST
and KRON (R281 to R287), copies (R288), frozen layers (R289), and faults in COMMIT (R291).
-/

namespace Sys2Proof.Machine

def State.updSt (s : State) (die : Nat) : UpdSt := ngetD s.upds die {}
def State.putUpd (s : State) (die : Nat) (u : UpdSt) : State := { s with upds := nset die u s.upds }

/-! ### Entries and hyper sets (R274 to R276) -/

def leRule (e : List Byte) : Nat := bits (fieldAt e 0 4) 0 2
def leFrozen (e : List Byte) : Bool := bit (fieldAt e 0 4) 2
def leStrict (e : List Byte) : Bool := bit (fieldAt e 0 4) 3
def leValid (e : List Byte) : Bool := bit (fieldAt e 0 4) 4
def leCopyEn (e : List Byte) : Bool := bit (fieldAt e 0 4) 5
def leCopyScale (e : List Byte) : Nat := bits (fieldAt e 0 4) 6 2
def leCopyFmt (e : List Byte) : Nat := bits (fieldAt e 0 4) 8 4
def leHset (e : List Byte) : Nat := bits (fieldAt e 0 4) 12 4
def leBlockLog (e : List Byte) : Nat := bits (fieldAt e 0 4) 16 4
def leLrMul (e : List Byte) : W32 := BitVec.ofNat 32 (fieldAt e 4 4)
def leRows (e : List Byte) : Nat := fieldAt e 8 4
def leCols (e : List Byte) : Nat := fieldAt e 0xC 4
def leMaster (e : List Byte) : Nat := fieldAt e 0x10 6
def leGrad (e : List Byte) : Nat := fieldAt e 0x18 6
def leMom1 (e : List Byte) : Nat := fieldAt e 0x20 6
def leMom2 (e : List Byte) : Nat := fieldAt e 0x28 6
def leCopy (e : List Byte) : Nat := fieldAt e 0x30 6
def leKstate (e : List Byte) : Nat := fieldAt e 0x38 6
def leElems (e : List Byte) : Nat := leRows e * leCols e

def leUsesMom2 (e : List Byte) : Bool := leRule e == 1 || leRule e == 2
def leKron (e : List Byte) : Bool := leRule e == 3
/-- R284: the side B of a KRON block, and the blocks of the layer. -/
def leB (e : List Byte) : Nat := 2 ^ leBlockLog e
def leBlocks (e : List Byte) : Nat := ceilDiv (leRows e) (leB e) * ceilDiv (leCols e) (leB e)

/-- R275: bytes of a row of COPY, and of a row of its scale array. -/
def copyRow (e : List Byte) : Nat := roundUp (leCols e * fmtWidth (leCopyFmt e) / 8) 64
def copyScaleRow (e : List Byte) : Nat := if leCopyScale e = 2 then roundUp (ceilDiv (leCols e) 32) 64 else 0

/-- R290: the regions of an entry, as (address, bytes): GRAD second. -/
def leRegions (e : List Byte) : List (Nat × Nat) :=
  let n := 4 * leElems e
  [(leMaster e, n), (leGrad e, n), (leMom1 e, n)] ++ (if leUsesMom2 e then [(leMom2 e, n)] else []) ++
  (if leCopyEn e then [(leCopy e, leRows e * (copyRow e + copyScaleRow e))] else []) ++
  (if leKron e then [(leKstate e, 64 + 16 * leB e * leB e * leBlocks e)] else [])

/-- The regions that the entry's rule writes. -/
def leWritten (e : List Byte) : List (Nat × Nat) := (leRegions e).take 1 ++ (leRegions e).drop 2

def hyp (h : List Byte) (off : Nat) : W32 := BitVec.ofNat 32 (fieldAt h off 4)
def hLr (h : List Byte) : W32 := hyp h 0
def hBeta1 (h : List Byte) : W32 := hyp h 4
def hBeta2 (h : List Byte) : W32 := hyp h 8
def hEps (h : List Byte) : W32 := hyp h 0xC
def hWd (h : List Byte) : W32 := hyp h 0x10
def hGradMul (h : List Byte) : W32 := hyp h 0x14
def hClip (h : List Byte) : W32 := hyp h 0x18
def hTrustMax (h : List Byte) : W32 := hyp h 0x1C
def hKronEps (h : List Byte) : W32 := hyp h 0x20
def hKronDecay (h : List Byte) : W32 := hyp h 0x24
def hBc1 (h : List Byte) : W32 := hyp h 0x28
def hBc2 (h : List Byte) : W32 := hyp h 0x2C
def hInterval (h : List Byte) : Nat := max 1 (fieldAt h 0x30 4)
def hIters (h : List Byte) : Nat := fieldAt h 0x34 1
def hNesterov (h : List Byte) : Bool := bit (fieldAt h 0x34 4) 8
def hTol (h : List Byte) : W32 := hyp h 0x38

/-- R276: does a hyper set keep the rules of its slots? -/
def hyperOk (h : List Byte) : Bool :=
  ([0, 4, 8, 0xC, 0x10, 0x14, 0x18, 0x1C, 0x20, 0x24, 0x28, 0x2C, 0x38].all fun o => !f32NonFinite (hyp h o)) &&
  decide (1 ≤ hIters h) && decide (hIters h ≤ 32) && fieldAt h 0x34 4 >>> 9 == 0 && fieldAt h 0x3C 4 == 0

/-! ### Latching and checking (R277, R278) -/

/-- The engine's accesses: at its die, for its die's partition. -/
def State.updWho (s : State) (die : Nat) : Who := { die := die, part := s.partOfDie die }

/-- Bytes in the die's mapped home DRAM (R161)? -/
def State.inHome (s : State) (die a n : Nat) : Bool :=
  decide (a + n ≤ 2 ^ 48) && addrDie a == die && decide (addrOff a + n ≤ s.homeSize die)

/-- R277: the engine latches its registers, its table, its hyper table and the loss scale. -/
def State.updLatch (s : State) (p die : Nat) : State :=
  let table := s.rd R.UPD_TABLE die 0 0
  let hyper := s.get R.UPD_HYPER_BASE die
  let base := bits table 0 48
  let count := bits table 48 13
  let u : UpdSt := { table := table, hyper := hyper, work := s.get R.UPD_KRON_WORK_BASE die, latched := true,
                     cores := Nat.land (s.get R.UPD_CFG_KRON_CORES die) (s.get R.ID_UNITS_MC_PRESENT die),
                     scale := if s.lscaleRuns p then ngetD s.latScale p f32One else f32One }
  let s := s.put R.UPD_STATUS_STATE 1 die
  if count = 0 ∨ count > 4096 then s.putUpd die u
  else if base % 64 ≠ 0 ∨ hyper % 64 ≠ 0 ∨ !s.inHome die base (64 * count) ∨ !s.inHome die hyper 1024 then
    s.putUpd die { u with fault := true }
  else
    match s.load (s.updWho die) base (64 * count) with
    | (s, .error k) => (s.dieFault die 0x40 0 k base).putUpd die { u with fault := true }
    | (s, .ok b) =>
      match s.load (s.updWho die) hyper 1024 with
      | (s, .error k) => (s.dieFault die 0x40 0 k hyper).putUpd die { u with fault := true }
      | (s, .ok hb) =>
        (s.count R.UPD_BYTES_COUNT (64 * count + 1024) die).putUpd die
          { u with entries := chunks 64 count b, hypers := hb }

/-- R278 step 4. -/
def entryBad (e : List Byte) : Bool :=
  let flags := fieldAt e 0 4
  bits flags 20 12 != 0 || ([0x16, 0x1E, 0x26, 0x2E, 0x36, 0x3E].any fun o => fieldAt e o 2 != 0) ||
  (if leCopyEn e then !(decide (1 ≤ leCopyFmt e) && decide (leCopyFmt e ≤ 4)) else leCopyFmt e != 0) ||
  leCopyScale e % 2 == 1 || (leCopyScale e == 2 && (leCopyFmt e == 1 || leCopyFmt e == 2)) ||
  (if leKron e then !(decide (7 ≤ leBlockLog e) && decide (leBlockLog e ≤ 10)) else leBlockLog e != 0) ||
  leMaster e == 0 || leGrad e == 0 || leMom1 e == 0 || (leMom2 e != 0) != leUsesMom2 e ||
  (leCopy e != 0) != leCopyEn e || (leKstate e != 0) != leKron e || f32NonFinite (leLrMul e)

/-- R286: bytes of the KRON work area for the table's largest block. -/
def kronWork (es : List (List Byte)) : Nat :=
  let b := (es.filter (fun e => leValid e && leKron e)).foldl (fun n e => max n (leB e)) 0
  16 * b * b

/-- R278: steps 4 to 8 on one entry: its status, or 0. -/
def State.entryCheck (s : State) (die : Nat) (u : UpdSt) (e : List Byte) : Nat :=
  if entryBad e then 1
  else if !hyperOk ((u.hypers.drop (64 * leHset e)).take 64) then 5
  else if leRows e = 0 ∨ leCols e = 0 ∨ (leRegions e).any (fun r => decide (r.1 + r.2 > 2 ^ 48)) then 4
  else if (leRegions e).any (fun r => r.1 % 64 != 0 || !s.inHome die r.1 r.2) then 2
  else if leKron e ∧ (u.cores = 0 ∨ u.work % 64 ≠ 0 ∨ !s.inHome die u.work (kronWork u.entries)) then 8
  else 0

/-- The first entry that fails, in index order. -/
def State.entriesCheck (s : State) (die : Nat) (u : UpdSt) : Nat → List (List Byte) → Nat × Nat
  | _, [] => (0, 0)
  | i, e :: t =>
    let st := if leValid e then s.entryCheck die u e else 0
    if st ≠ 0 then (st, i) else s.entriesCheck die u (i + 1) t

/-- Every region of the table's VALID entries, with its entry's index, and the KRON work area (R290). -/
def tableRegions (u : UpdSt) : List (Nat × Nat × Nat) :=
  let rs := ((List.range u.entries.length).zip u.entries).flatMap fun x =>
    if leValid x.2 then (leRegions x.2).map (fun r => (r.1, r.2, x.1)) else []
  if kronWork u.entries = 0 then rs else rs ++ [(u.work, kronWork u.entries, 0x1FFF)]

/-- R290: the index recorded for the first region that meets an earlier one. -/
def overlapIndex (seen : List (Nat × Nat × Nat)) : List (Nat × Nat × Nat) → Option Nat
  | [] => none
  | r :: t =>
    if seen.any (fun x => overlap x.1 x.2.1 r.1 r.2.1) then some r.2.2 else overlapIndex (seen ++ [r]) t

/-- R278: the result of the checks: status and index. -/
def State.tableCheck (s : State) (die : Nat) (u : UpdSt) : Nat × Nat :=
  let count := bits u.table 48 13
  if count > 4096 then (7, 0x1FFF)
  else if u.fault then (6, 0x1FFF)
  else if !s.running die then (9, 0x1FFF)
  else
    match s.entriesCheck die u 0 u.entries with
    | (0, _) => match overlapIndex [] (tableRegions u) with | some i => (3, i) | none => (0, 0)
    | r => r

/-- UPD_TABLE_REPORT: the engine has checked its latched table and reports (R277 to R279), once its die is reached (R17). -/
def updTableReportEff (die : Nat) (s : State) : State :=
  match s.partOfDie die with
  | none => s
  | some p =>
    let u := s.updSt die
    let t := s.stepSt p
    if !u.latched || s.phase p != phAwait || t.reports.contains die || !s.linked 0 die then s
    else
      let (st, idx) := s.tableCheck die u
      let s := ((s.put R.UPD_TABLE_STATUS_STATUS st die).put R.UPD_TABLE_STATUS_INDEX idx die)
      let s := s.putStep p { t with reports := die :: t.reports, refused := t.refused || st != 0 }
      if st = 0 then s.putUpd die { u with accepted := true }
      else
        (((s.set1 R.UPD_ERROR_TABLE_FAULT die).set1 R.STEP_ERROR_TABLE_FAULT 0 0 p).put R.UPD_STATUS_STATE 0 die).putUpd
          die { u with accepted := false }

/-! ### Reading and writing in COMMIT -/

/-- The engine's run on an entry: the state, or the address at which it met a fault (R291). -/
abbrev UpdM := Except (State × Nat) State

def State.updLoad (s : State) (die a n : Nat) : Except (State × Nat) (State × List Byte) :=
  match s.load (s.updWho die) a n with
  | (s, .ok b) => .ok (s.count R.UPD_BYTES_COUNT n die, b)
  | (s, .error k) => .error (s.dieFault die 0x40 0 k a, a)

def State.updStore (s : State) (die a : Nat) (b : List Byte) : UpdM :=
  match s.store (s.updWho die) a b with
  | (s, 0) => .ok (s.count R.UPD_BYTES_COUNT b.length die)
  | (s, k) => .error (s.dieFault die 0x40 0 k a, a)

/-- R281: non-finite values that the rule writes are counted. -/
def State.updNonfinite (s : State) (die : Nat) (l : List W32) : State :=
  let n := (l.filter f32NonFinite).length
  if n = 0 then s else (s.count R.UPD_NONFINITE_COUNT n die).set1 R.UPD_ERROR_NONFINITE die

/-! ### The element rules (R281 to R283) -/

/-- R281: the working gradient of an element. -/
def workGrad (h : List Byte) (scale g : W32) : W32 :=
  let x := f32Mul (f32Mul g (hGradMul h)) (f32Div f32One scale)
  if f32Lt 0 (hClip h) then f32Min (f32Max x (f32Neg (hClip h))) (hClip h) else x

def stepSize (e h : List Byte) : W32 := f32Mul (hLr h) (leLrMul e)

/-- R282, momentum: (w, m) from (g, w, m). -/
def momentumElem (h : List Byte) (lr g w m : W32) : W32 × W32 :=
  let g := f32Add g (f32Mul (hWd h) w)
  let m := f32Add (f32Mul (hBeta1 h) m) g
  let d := if hNesterov h then f32Add g (f32Mul (hBeta1 h) m) else m
  (f32Sub w (f32Mul lr d), m)

/-- R282, adamw: the new moments. -/
def adamMoments (h : List Byte) (g m v : W32) : W32 × W32 :=
  (f32Add (f32Mul (hBeta1 h) m) (f32Mul (f32Sub f32One (hBeta1 h)) g),
   f32Add (f32Mul (hBeta2 h) v) (f32Mul (f32Mul (f32Sub f32One (hBeta2 h)) g) g))

/-- R282, adamw: u. -/
def adamU (h : List Byte) (w m v : W32) : W32 :=
  f32Add (f32Div (f32Mul m (hBc1 h)) (f32Add (f32Sqrt (f32Mul v (hBc2 h))) (hEps h))) (f32Mul (hWd h) w)

/-- R283: a sum in FP32 in element order within chunks of 1,024, the chunk sums in chunk order. -/
def chunkSum (l : List W32) : W32 :=
  (chunks 1024 (ceilDiv l.length 1024) l).foldl (fun acc c => f32Add acc (c.foldl f32Add 0)) 0

/-- R283: the trust ratio. -/
def trustRatio (h : List Byte) (w u : List W32) : W32 :=
  let sw := chunkSum (w.map (fun x => f32Mul x x))
  let su := chunkSum (u.map (fun x => f32Mul x x))
  let r := if f32Lt 0 sw && f32Lt 0 su then f32Div (f32Sqrt sw) (f32Sqrt su) else f32One
  f32Min r (hTrustMax h)

/-- R283, second pass: the new weights, with u computed once more from w, m and v as read again. -/
def trustWeights (e h : List Byte) (r : W32) (w m v : List W32) : List W32 :=
  let k := f32Mul (stepSize e h) r
  let u := (w.zip (m.zip v)).map (fun x => adamU h x.1 x.2.1 x.2.2)
  (w.zip u).map (fun x => f32Sub x.1 (f32Mul k x.2))

/-- R282, R283: the new weights and moments of a layer under MOMENTUM, ADAMW or TRUST. -/
def elementRule (e h : List Byte) (scale : W32) (G w m v : List W32) : List W32 × List W32 × List W32 :=
  let g := G.map (workGrad h scale)
  let lr := stepSize e h
  if leRule e = 0 then
    let r := (g.zip (w.zip m)).map (fun x => momentumElem h lr x.1 x.2.1 x.2.2)
    (r.map (·.1), r.map (·.2), v)
  else
    let mv := (g.zip (m.zip v)).map (fun x => adamMoments h x.1 x.2.1 x.2.2)
    let u := (w.zip mv).map (fun x => adamU h x.1 x.2.1 x.2.2)
    let k := if leRule e = 2 then f32Mul lr (trustRatio h w u) else lr
    ((w.zip u).map (fun x => f32Sub x.1 (f32Mul k x.2)), mv.map (·.1), mv.map (·.2))

/-! ### KRON (R284 to R287) -/

/-- An r x c matrix of FP32 elements, row-major. -/
structure Mat where
  r : Nat
  c : Nat
  x : List W32
  deriving DecidableEq, Repr

def matAt (a : Mat) (i j : Nat) : W32 := a.x.getD (i * a.c + j) 0
def matMap (f : W32 → W32) (a : Mat) : Mat := { a with x := a.x.map f }
def matZip (f : W32 → W32 → W32) (a b : Mat) : Mat := { a with x := List.zipWith f a.x b.x }
def matT (a : Mat) : Mat :=
  { r := a.c, c := a.r, x := (List.range (a.r * a.c)).map (fun k => matAt a (k % a.r) (k / a.r)) }
/-- R286: a product as FP32 tile descriptors form it, with the three-product split of R113. -/
def matMul (a b : Mat) : Mat :=
  { r := a.r, c := b.c, x := (List.range (a.r * b.c)).map fun k =>
      accumulate 1 a.c (fun i => splitProduct (matAt a (k / b.c) i) (matAt b i (k % b.c))) 0 }
def matI (n : Nat) (v : W32) : Mat :=
  { r := n, c := n, x := (List.range (n * n)).map (fun k => if k / n = k % n then v else 0) }

def f32Five : W32 := 0x40A00000#32
def f32Four : W32 := 0x40800000#32

/-- The greatest magnitude of mm - I. -/
def offUnit (mm : Mat) : W32 :=
  let l := (matZip f32Sub mm (matI mm.r f32One)).x
  if l.any f32IsNan then f32Nan else l.foldl (fun a x => f32Max a (f32Abs x)) 0

/-- R286: the coupled Newton iterations left: (x, mm). -/
def newton (tol : W32) : Nat → Mat → Mat → Mat × Mat
  | 0, x, mm => (x, mm)
  | k + 1, x, mm =>
    let t := matMap (fun v => f32Div v f32Four) (matZip f32Sub (matI mm.r f32Five) mm)
    let x := matMul x t
    let t2 := matMul t t
    let mm := matMul (matMul t2 t2) mm
    if !f32Lt tol (offUnit mm) && !f32IsNan (offUnit mm) then (x, mm) else newton tol k x mm

/-- A sum of FP32 values, two at a time in an order that is left open (key k), each sum rounded to nearest. -/
def treeSum (k : Nat) : Nat → List W32 → W32
  | n + 1, x :: y :: t =>
    let l := x :: y :: t
    let i := Config.free k (2 * n + 2) % l.length
    let rest := l.eraseIdx i
    let j := Config.free k (2 * n + 3) % rest.length
    treeSum k n (f32Add (l.getD i 0) (rest.getD j 0) :: rest.eraseIdx j)
  | _, x :: _ => x
  | _, [] => 0

/-- x⁴ · c against 1: is it no more? -/
def quarterLe (c : FV) (x : Nat) : Bool :=
  let v := ofF32 (BitVec.ofNat 32 x)
  !(FV.fin false 1 0).lt (((v.mul v).mul (v.mul v)).mul c)

/-- The greatest FP32 value, as bits, that is no more than c to the power -1/4. -/
def quarterFloor (c : FV) : Nat → Nat → Nat
  | 0, x => x
  | i + 1, x => quarterFloor c i (if x + 2 ^ i < 0x7F800000 ∧ quarterLe c (x + 2 ^ i) then x + 2 ^ i else x)

/-- R286: pow(c, -0.25) of a finite c above 0: the FP32 value below the exact power or the one above it, since the spec does
not say how pow rounds (log 42). -/
def powQuarter (k : Nat) (c : W32) : W32 :=
  let lo := quarterFloor (ofF32 c) 31 0
  let v := ofF32 (BitVec.ofNat 32 lo)
  let exact := !((((v.mul v).mul (v.mul v)).mul (ofF32 c)).lt (.fin false 1 0))
  BitVec.ofNat 32 (if exact then lo else lo + Config.free k 0 % 2)

/-- R286: the inverse fourth root of a factor, or none where the computation fails. The norm is formed in FP32, its order of
summing left open (log 42). -/
def kronRoot (h : List Byte) (k : Nat) (f : Mat) : Option Mat :=
  let a := matZip f32Add f (matI f.r (hKronEps h))
  let c : W32 := f32Sqrt (treeSum k a.x.length (a.x.map (fun x => f32Mul x x)))
  if f32IsZero c || f32NonFinite c then none
  else
    let x := matI f.r (powQuarter k c)
    let (x, mm) := newton (hTol h) (hIters h) x (matMap (fun v => f32Div v c) a)
    if f32Lt (hTol h) (offUnit mm) || f32IsNan (offUnit mm) || x.x.any f32NonFinite then none else some x

/-- R284: the place of block k of a layer: first row, first column, rows, columns. -/
def blockPlace (e : List Byte) (k : Nat) : Nat × Nat × Nat × Nat :=
  let nb := ceilDiv (leCols e) (leB e)
  let i := k / nb * leB e
  let j := k % nb * leB e
  (i, j, min (leB e) (leRows e - i), min (leB e) (leCols e - j))

/-- The block of g. -/
def blockOf (e : List Byte) (g : List W32) (k : Nat) : Mat :=
  let (i, j, br, bc) := blockPlace e k
  { r := br, c := bc, x := (List.range br).flatMap (fun y => (g.drop ((i + y) * leCols e + j)).take bc) }

/-- R284: a b x b matrix held in the top-left corner of a B x B one. -/
def State.updLoadMat (s : State) (die e0 B b : Nat) : Except (State × Nat) (State × Mat) :=
  ((List.range b).foldl (fun (acc : Except (State × Nat) (State × List W32)) y =>
    match acc with
    | .error x => .error x
    | .ok (s, l) =>
      match s.updLoad die (e0 + 4 * B * y) (4 * b) with
      | .ok (s, bs) => .ok (s, l ++ wordsOf bs)
      | .error x => .error x) (.ok (s, []))).map (fun x => (x.1, { r := b, c := b, x := x.2 }))

def State.updStoreMat (s : State) (die e0 B : Nat) (m : Mat) : UpdM :=
  (List.range m.r).foldl (fun (acc : UpdM) y =>
    match acc with
    | .error x => .error x
    | .ok s => s.updStore die (e0 + 4 * B * y) (bytesOf ((m.x.drop (y * m.c)).take m.c))) (.ok s)

/-- R285: one factor: f = decay * f + (1 - decay) * product. -/
def kronFactor (h : List Byte) (f gb gt : Mat) : Mat :=
  matZip f32Add (matMap (f32Mul (hKronDecay h)) f) (matMul (matMap (f32Mul (f32Sub f32One (hKronDecay h))) gb) gt)

/-- R285 to R287: a factor's root, where roots are computed: the new root, the old one where it fails and roots
are valid, else I. -/
def State.kronRootStep (s : State) (die : Nat) (h : List Byte) (valid : Bool) (f old : Mat) : State × Mat :=
  let (k, s) := s.tick
  let s := s.count R.UPD_ROOTS_COUNT 1 die
  match kronRoot h k f with
  | some x => (s, x)
  | none =>
    ((s.count R.UPD_ROOT_FAILS_COUNT 1 die).set1 R.UPD_ERROR_ROOT_FAIL die, if valid then old else matI f.r f32One)

/-- R285: one block: factors, roots where they fall due, and the preconditioned gradient. -/
def State.kronBlock (s : State) (die : Nat) (e h : List Byte) (g : List W32) (due valid : Bool) (k : Nat) :
    Except (State × Nat) (State × List W32) := do
  let B := leB e
  let base := leKstate e + 64 + 16 * B * B * k
  let gb := blockOf e g k
  let (s, l) ← s.updLoadMat die base B gb.r
  let (s, r) ← s.updLoadMat die (base + 4 * B * B) B gb.c
  let (s, lr) ← s.updLoadMat die (base + 8 * B * B) B gb.r
  let (s, rr) ← s.updLoadMat die (base + 12 * B * B) B gb.c
  let l := kronFactor h l gb (matT gb)
  let r := kronFactor h r (matT gb) gb
  let (s, lr) := if due then s.kronRootStep die h valid l lr else (s, lr)
  let (s, rr) := if due then s.kronRootStep die h valid r rr else (s, rr)
  let s := s.updNonfinite die (l.x ++ r.x)
  let s ← s.updStoreMat die base B l
  let s ← s.updStoreMat die (base + 4 * B * B) B r
  let s ← if due then s.updStoreMat die (base + 8 * B * B) B lr else .ok s
  let s ← if due then s.updStoreMat die (base + 12 * B * B) B rr else .ok s
  pure (s, (matMul (matMul lr gb) rr).x)

/-- R285: the layer's preconditioned gradient, put together from its blocks. -/
def gatherBlocks (e : List Byte) (ds : List (List W32)) : List W32 :=
  let nb := ceilDiv (leCols e) (leB e)
  (List.range (leElems e)).map fun i =>
    let y := i / leCols e
    let x := i % leCols e
    let k := y / leB e * nb + x / leB e
    let (i0, j0, _, bc) := blockPlace e k
    (ds.getD k []).getD ((y - i0) * bc + (x - j0)) 0

/-- R285: KRON on a layer: the new weights and momentum. -/
def State.kronRule (s : State) (die : Nat) (u : UpdSt) (e h : List Byte) (G w m : List W32) :
    Except (State × Nat) (State × List W32 × List W32) := do
  let g := G.map (workGrad h u.scale)
  let lr := stepSize e h
  let (s, hd) ← s.updLoad die (leKstate e) 64
  let age := fieldAt hd 0 4
  let valid := bit (fieldAt hd 4 4) 0
  let due := !valid || decide (hInterval h ≤ age)
  let s := if due then s.put R.UPD_STATUS_STATE 3 die else s
  let (s, ds) ← (List.range (leBlocks e)).foldlM (fun (a : State × List (List W32)) k => do
    let (s, d) ← a.1.kronBlock die e h g due valid k
    pure (s, a.2 ++ [d])) (s, [])
  let d := gatherBlocks e ds
  let m := (m.zip d).map (fun x => f32Add (f32Mul (hBeta1 h) x.1) x.2)
  let w := (w.zip m).map (fun x => f32Sub x.1 (f32Mul lr (f32Add x.2 (f32Mul (hWd h) x.1))))
  let age := ((if due then 0 else age) + 1) % 2 ^ 32
  let flags := if due then setBits (fieldAt hd 4 4) 0 1 1 else fieldAt hd 4 4
  let s ← s.updStore die (leKstate e) (leBytes 4 age ++ leBytes 4 flags)
  pure (s.put R.UPD_STATUS_STATE 2 die, w, m)

/-! ### Copies (R288) -/

/-- R288: one row of the copy, and its row of scales. -/
def copyRowBytes (e : List Byte) (row : List W32) : List Byte × List Byte :=
  let pad (n : Nat) (l : List Byte) : List Byte := l ++ List.replicate (n - l.length) 0
  let fmt := leCopyFmt e
  if leCopyScale e = 2 then
    let bl := (chunks 32 (ceilDiv row.length 32) row).map (fun g => mxEncode fmt (g.map (fun x => (ofF32 x, Rounding.rne))))
    (pad (copyRow e) (packRow (fmtWidth fmt) (bl.flatMap (·.2.1))),
     pad (copyScaleRow e) (bl.map (fun b => BitVec.ofNat 8 b.1)))
  else (pad (copyRow e) (packRow (fmtWidth fmt) (row.map (fun x => (convertElem fmt 0 .rne (ofF32 x)).1))), [])

def State.updCopy (s : State) (die : Nat) (e : List Byte) (w : List W32) : UpdM :=
  if !leCopyEn e then .ok s
  else
    let rows := (chunks (leCols e) (leRows e) w).map (copyRowBytes e)
    s.updStore die (leCopy e) (rows.flatMap (·.1) ++ rows.flatMap (·.2))

/-! ### Applying the table (R280, R289, R291) -/

/-- R283: TRUST: the first pass writes m and v, the second reads m, v and w again and gives the new weights. -/
def State.trustPasses (s : State) (die : Nat) (u : UpdSt) (e h : List Byte) (G w m v : List W32) :
    Except (State × Nat) (State × List W32 × List W32 × List W32) := do
  let n := 4 * leElems e
  let mv := ((G.map (workGrad h u.scale)).zip (m.zip v)).map (fun x => adamMoments h x.1 x.2.1 x.2.2)
  let r := trustRatio h w ((w.zip mv).map (fun x => adamU h x.1 x.2.1 x.2.2))
  let s ← s.updStore die (leMom1 e) (bytesOf (mv.map (·.1)))
  let s ← s.updStore die (leMom2 e) (bytesOf (mv.map (·.2)))
  let (s, m) ← s.updLoad die (leMom1 e) n
  let (s, v) ← s.updLoad die (leMom2 e) n
  let (s, w) ← s.updLoad die (leMaster e) n
  pure (s, trustWeights e h r (wordsOf w) (wordsOf m) (wordsOf v), wordsOf m, wordsOf v)

/-- One entry applied completely. -/
def State.updEntry (s : State) (die : Nat) (u : UpdSt) (e : List Byte) : UpdM := do
  let h := (u.hypers.drop (64 * leHset e)).take 64
  let n := 4 * leElems e
  let (s, G) ← s.updLoad die (leGrad e) n
  let (s, w) ← s.updLoad die (leMaster e) n
  let (s, m) ← s.updLoad die (leMom1 e) n
  let (s, v) ← if leUsesMom2 e then s.updLoad die (leMom2 e) n else .ok (s, [])
  let (s, w, m, v) ←
    if leKron e then do
      let (s, w, m) ← s.kronRule die u e h (wordsOf G) (wordsOf w) (wordsOf m)
      pure (s, w, m, [])
    else if leRule e = 2 then s.trustPasses die u e h (wordsOf G) (wordsOf w) (wordsOf m) (wordsOf v)
    else
      let r := elementRule e h u.scale (wordsOf G) (wordsOf w) (wordsOf m) (wordsOf v)
      pure (s, r.1, r.2.1, r.2.2)
  let s := s.updNonfinite die (w ++ m ++ v)
  let s ← s.updStore die (leMaster e) (bytesOf w)
  let s ← if leRule e = 2 then .ok s else s.updStore die (leMom1 e) (bytesOf m)
  let s ← if leRule e = 1 then s.updStore die (leMom2 e) (bytesOf v) else .ok s
  let s ← s.updCopy die e w
  pure (s.count R.UPD_ENTRIES_COUNT 1 die)

/-- R289: a frozen entry is skipped; the step sequence notes (as 16 + die) that the die's first strict skip of this
COMMIT is recorded. -/
def State.updFrozen (s : State) (p die i : Nat) (e : List Byte) : State :=
  let s := s.count R.UPD_FROZEN_SKIPS_COUNT 1 die
  if !leStrict e then s
  else
    let s := if (s.stepSt p).applied.contains (16 + die) then s
      else (s.put R.UPD_TABLE_STATUS_STRICT_INDEX i die).putStep p { s.stepSt p with applied := (16 + die) :: (s.stepSt p).applied }
    (s.set1 R.UPD_ERROR_STRICT_SKIP die).eventNotice 1 die p (s.stepNumber p) i 0

/-- The entries from index i on, in index order; on a fault, the index of the entry in hand (R291). -/
def State.updRun (s : State) (p die : Nat) (u : UpdSt) : Nat → List (List Byte) → Except (State × Nat × List Byte) State
  | _, [] => .ok s
  | i, e :: t =>
    if !leValid e then s.updRun p die u (i + 1) t
    else if leFrozen e then (s.updFrozen p die i e).updRun p die u (i + 1) t
    else
      match (s.put R.UPD_STATUS_ENTRY i die).updEntry die u e with
      | .ok s => s.updRun p die u (i + 1) t
      | .error (s, a) => .error (s, a, e)

/-- R286: a KRON table's products run as tile descriptors on the named cores: how many, and of how many beats, is left open
(log 97), and the upper half of each core's scratchpad and the work area are left undefined. -/
def State.kronScratch (s : State) (die : Nat) (u : UpdSt) : State :=
  if !(u.entries.any (fun e => leValid e && leKron e && !leFrozen e)) then s
  else
    let cores := (List.range 32).filter (bit u.cores)
    let (k, s) := s.tick
    let s := cores.foldl (fun s m => 
      (s.count R.MXC_BEATS_COUNT (Config.free k m) die (s.lead die m)).count R.MXC_DESCS_COUNT (Config.free k (32 + m)) die (s.lead die m)) s
    s.forgetSpans (cores.map (fun m => (spadBase die m + 0x200000, 0x200000)) ++ [(u.work, kronWork u.entries)])

/-- R291: the engine's run ends with a fault: the entry in hand is undefined, and the partition enters HALT. -/
def State.updFault (s : State) (p die : Nat) (e : List Byte) (addr : Nat) : State :=
  let s := s.forgetSpans (leWritten e)
  let s := (s.set1 R.UPD_ERROR_COMMIT_FAULT die).put R.UPD_STATUS_STATE 0 die
  let s := (s.putUpd die {}).set1 R.STEP_ERROR_COMMIT_FAULT 0 0 p
  let s := s.halt p
  s.faultNotice 6 die p 0x62 0 0 0xFF 0 addr 0

/-- R280: at SKIP, ABORT or a reset the prefetch is discarded. -/
def State.updDiscard (s : State) (die : Nat) : State := (s.putUpd die {}).put R.UPD_STATUS_STATE 0 die

end Sys2Proof.Machine
end

