-- ==== Sys2Proof/Machine/TrainingStep.lean ====
section
/-!
DEFINITION. The step controller: BEGIN, ADVANCE, DISCARD_ACCUM and ABORT (R227, R228, R238), the closing reduction
and the verdict (R231 to R235), COMMIT and SKIP (R236, R237), the chooser and the loss scale (R121 to R125), and
the update engines' runs as COMMIT sees them (R280, R291).
-/

namespace Sys2Proof.Machine

/-- Does the partition exist under the loaded cut? -/
def State.partExists (s : State) (p : Nat) : Bool := decide (p < s.parts)

/-! ### BEGIN (R121, R125, R126, R228) -/

/-- R228 step 1: are the bases aligned, in memory of the partition, with their extents? -/
def State.basesOk (s : State) (p : Nat) : Bool :=
  let n := s.get R.STEP_FMT_CFG_LAYERS 0 0 p
  let fb := s.get R.STEP_FMT_BASE_BASE 0 0 p
  let mb := s.get R.STEP_MON_BASE_BASE 0 0 p
  let la := s.get R.STEP_LOSS_ADDR_ADDR 0 0 p
  fb % 64 == 0 && s.judge (stepWho p) fb (max 1 (8 * n)) == 0 &&
  (mb == 0 || (mb % 64 == 0 && s.judge (stepWho p) mb (max 1 (288 * n)) == 0)) &&
  la != 0 && la % 64 == 0 && (s.partDies p).any (fun d => s.inHome d la 16448)

/-- R228, R300: the status of a BEGIN in IDLE: 0, or the first that refuses it. -/
def State.beginCheck (s : State) (p : Nat) : Nat :=
  let c := s.chanBase p
  if s.permuting p then 7
  else if s.flag R.STEP_STATE_DISCARD_PENDING 0 0 p then 3
  else if !s.basesOk p then 4
  else if s.members? c = 0 then 5
  else if !s.running (redRegion c) then 6
  else 0

/-- R121: copy the format table to every compute die of the partition. -/
def State.copyFormats (s : State) (p base layers : Nat) : State :=
  let (s, r) := s.load (stepWho p) base (8 * layers)
  let (s, entry) : State × (Nat → Nat) :=
    match r with
    | .ok b => (s, fun l => fieldAt b (8 * l) 8)
    | .error _ => let (k, s) := s.tick; (s, fun l => Config.free k l % 2 ^ 64)
  { s with fmtCopy := (s.partDies p).foldl (fun m d =>
      (List.range layers).foldl (fun m l => nset (d * 4096 + l) (entry l) m) m) s.fmtCopy }

/-- The step enters FORWARD of micro-batch 0: what R120, R121, R125, R126, R228 and R244 latch and clear. -/
def State.beginStep (s : State) (p : Nat) : State :=
  let fmtCfg := s.rd R.STEP_FMT_CFG 0 0 p
  let base := s.get R.STEP_FMT_BASE_BASE 0 0 p
  let layers := bits fmtCfg 0 13
  let t : StepSt :=
    { cfg := s.rd R.STEP_CFG 0 0 p, fmtCfg := fmtCfg, fmtBase := base, monBase := s.get R.STEP_MON_BASE_BASE 0 0 p,
      lscaleCfg := s.rd R.STEP_LSCALE_CFG 0 0 p, start := s.mgmt, mark := s.mgmt,
      badTrailer := (s.stepSt p).badTrailer, epochRej := (s.stepSt p).epochRej, cmds := (s.stepSt p).cmds }
  let s := (s.putStep p t).clearMons p
  let s := s.copyFormats p base layers
  let scale : W32 := BitVec.ofNat 32 (s.get R.STEP_LSCALE_SCALE 0 0 p)
  let s : State := { s with latLayers := nset p layers s.latLayers,
                            latScale := nset p (if s.lscaleRuns p then scale else f32One) s.latScale }
  let s := (s.partDies p).foldl (fun s d => s.put R.TEL_UPD_BUSY_COUNT 0 d) s
  let s := hubs.foldl (fun s h =>
    ((s.put R.TEL_INGEST_STALL_COUNT 0 h 0 p).put R.TEL_SEAM_STALL_COUNT 0 h 0 p).put R.TEL_PEER_STALL_COUNT 0 h 0 p) s
  ((s.put R.STEP_STATE_PHASE phForward 0 0 p).put R.STEP_STATE_MB_INDEX 0 0 0 p).put R.STEP_STATE_CLOSING 0 0 0 p

/-- R227: a command's outcome: its status in LAST_STATUS, and CMD_REFUSED where it is refused. -/
def State.stepStatus (s : State) (p st : Nat) : State :=
  let s := s.put R.STEP_STATE_LAST_STATUS st 0 0 p
  if st = 0 then s else s.set1 R.STEP_ERROR_CMD_REFUSED 0 0 p

/-- BEGIN, carried out (R227, R228). -/
def State.stepBegin (s : State) (p : Nat) : State :=
  if s.phase p ≠ phIdle then s.stepStatus p 2
  else
    let st := s.beginCheck p
    if st = 0 then (s.beginStep p).stepStatus p 0
    else (if st = 4 then s.set1 R.STEP_ERROR_BASE_FAULT 0 0 p else s).stepStatus p st

/-! ### ADVANCE (R227, R229, R277) -/

/-- R120, R231, R277: entry to AWAIT_VERDICT: the monitors are collected and every engine latches. -/
def State.enterAwait (s : State) (p : Nat) : State :=
  let s := s.putStep p { s.stepSt p with hist := s.mons, gathered := none, reports := [], applied := [] }
  let s := s.collectMons p
  let s := (s.partDies p).foldl (fun s d => s.updLatch p d) s
  s.put R.STEP_STATE_PHASE phAwait 0 0 p

/-- The phase in hand ends: its MGMT counts go to FORWARD or BACKWARD (R241). -/
def State.closePhase (s : State) (p : Nat) : State :=
  let t := s.stepSt p
  let d := s.sinceMark p
  s.putStep p (if s.phase p = phForward then { t with fwd := t.fwd + d, mark := s.mgmt }
    else { t with bwd := t.bwd + d, mark := s.mgmt })

/-- ADVANCE, carried out (R227, R229). -/
def State.stepAdvance (s : State) (p : Nat) : State :=
  if s.phase p = phForward then
    ((s.closePhase p).put R.STEP_STATE_PHASE phBackward 0 0 p).stepStatus p 0
  else if s.phase p = phBackward then
    let last := s.lastBackward p
    let s := s.closePhase p
    if last then (s.enterAwait p).stepStatus p 0
    else
      ((s.put R.STEP_STATE_MB_INDEX (s.get R.STEP_STATE_MB_INDEX 0 0 p + 1) 0 0 p).put
        R.STEP_STATE_PHASE phForward 0 0 p).stepStatus p 0
  else s.stepStatus p 2

/-! ### DISCARD_ACCUM (R238) -/

/-- Do the partition's cores take no descriptors because of a DISCARD_ACCUM? -/
def State.discardingDie (s : State) (die : Nat) : Bool :=
  match s.partOfDie die with
  | some p => (s.stepSt p).discarding
  | none => false

/-- DISCARD_ACCUM: accepted in IDLE; the cores take no further descriptors. -/
def State.stepDiscard (s : State) (p : Nat) : State :=
  if s.phase p ≠ phIdle then s.stepStatus p 2
  else (s.putStep p { s.stepSt p with discarding := true }).stepStatus p 0

/-- The leads of a die's units, excluded cores apart. -/
def State.unitLeads (s : State) (die : Nat) : List Nat :=
  (List.range 32).filter (fun m => s.lead die m == m && s.coreOk die m)

/-- R61, R238: a unit's tiles to +0, its holds released and its alternation restarted. -/
def State.clearUnit (s : State) (die lead : Nat) : State :=
  let s := if (s.unit die lead).lock.isSome then s.breakLock die lead else s
  let s := (s.members die lead).foldl (fun s m => (s.putTile die m.1 0 {}).putTile die m.1 1 {}) s
  (s.putMx die lead { s.unit die lead with alt := 0, lock := none, prevTile := none, prevCont := false,
                                           carriedTo := none, work := [] }).showLock die lead

/-! ### ABORT, and commands in order -/

/-- R234, R263: reductions still outstanding as a step is aborted run on, and tell no later step anything. -/
def State.orphan (s : State) (p : Nat) : State :=
  (s.partChans p).foldl (fun s c =>
    let h := s.chan c
    s.putChan c { h with head := h.head.map (fun x => { x with stale := true }), closing := none, olds := h.olds ++ h.closing.toList }) s

/-- ABORT, carried out: HALT ends in IDLE with DISCARD_PENDING set; carry buffers and prefetches are cleared (R227, R261,
R280). -/
def State.stepAbort (s : State) (p : Nat) : State :=
  if s.phase p ≠ phHalt then s.stepStatus p 2
  else
    let s := ((s.clearCarry p).orphan p).stepOver p (s.stepNumber p)
    let s := (s.partDies p).foldl (fun s d => s.updDiscard d) s
    (((s.put R.STEP_STATE_PHASE phIdle 0 0 p).set1 R.STEP_STATE_DISCARD_PENDING 0 0 p)).stepStatus p 0

/-- A command carried out at once (R227): a reserved CMD is refused with BAD_COMMAND. -/
def State.stepNow (s : State) (p cmd : Nat) : State :=
  match cmd with
  | 1 => s.stepBegin p
  | 2 => s.stepAdvance p
  | 3 => s.stepDiscard p
  | 4 => s.stepAbort p
  | _ => s.stepStatus p 1

/-- The step controller's command register (R227): commands are carried out one at a time, in order of arrival; a
DISCARD_ACCUM under way holds those that follow. -/
def State.stepCmd (s : State) (p cmd : Nat) : State :=
  let t := s.stepSt p
  if !s.partExists p then s
  else if t.discarding then s.putStep p { t with cmds := t.cmds ++ [cmd] }
  else s.stepNow p cmd

def stepBeginEff (p : Nat) (s : State) : State := s.stepCmd p 1
def stepAdvanceEff (p : Nat) (s : State) : State := s.stepCmd p 2
def discardAccumEff (p : Nat) (s : State) : State := s.stepCmd p 3
def stepAbortEff (p : Nat) (s : State) : State := s.stepCmd p 4

/-- DISCARD_ACCUM_DONE: every descriptor taken has completed: the tiles clear and the cores resume (R238); the commands
that waited are carried out (R227). -/
def discardAccumDoneEff (p : Nat) (s : State) : State :=
  let t := s.stepSt p
  let units := (s.partDies p).flatMap (fun d => (s.unitLeads d).map (fun m => (d, m)))
  if !t.discarding || !(units.all fun u => (s.unit u.1 u.2).inHand.isEmpty) then s
  else
    let s := units.foldl (fun s u => s.clearUnit u.1 u.2) s
    let s := (s.putStep p { t with discarding := false, cmds := [] }).put R.STEP_STATE_DISCARD_PENDING 0 0 0 p
    t.cmds.foldl (fun s c => s.stepCmd p c) s

/-! ### The closing reduction (R231 to R233) -/

/-- R232, R298: does the local check fail, beside the loss and its weight? -/
def State.localFails (s : State) (p : Nat) : Bool :=
  let t := s.stepSt p
  let n := s.stepNumber p
  t.badTrailer.contains n || t.epochRej.contains n || t.dieReset || t.refused || s.monNonfinite p || s.tainted p

/-- R233: the elements that member r contributes. -/
def closingVals (r : Nat) (loss weight check : W32) : List W32 :=
  (List.range segElems).map fun i =>
    if i = 0 then loss else if i = 1 then weight else if i = 2 then check else if i = 3 then f32One
    else if i = 8 + r then loss else if i = 1032 + r then check else 0

/-- CLOSING_REDUCTION_ISSUE (R231, R233, R277). -/
def closingReductionIssueEff (p : Nat) (s : State) : State :=
  let t := s.stepSt p
  let reported := (s.partDies p).all (fun d => t.reports.contains d || !(s.updSt d).latched)
  if !s.partExists p || s.phase p != phAwait || s.flag R.STEP_STATE_CLOSING 0 0 p ||
      s.get R.STEP_STATE_OUTSTANDING 0 0 p != 0 || !reported || !s.linkedTo 0 [s.get R.STEP_LOSS_ADDR_ADDR 0 0 p] then s
  else
    let c := s.chanBase p
    let (s, b) := s.load (stepWho p) (s.get R.STEP_LOSS_ADDR_ADDR 0 0 p) 8
    let (s, loss, weight) : State × W32 × W32 :=
      match b with
      | .ok b => (s, BitVec.ofNat 32 (fieldAt b 0 4), BitVec.ofNat 32 (fieldAt b 4 4))
      | .error _ => let (k, s) := s.tick; (s, BitVec.ofNat 32 (Config.free k 0), BitVec.ofNat 32 (Config.free k 1))
    let check : W32 := if s.localFails p || f32NonFinite loss || f32NonFinite weight then f32One else 0
    let s := s.putStep p { s.stepSt p with redWait := t.redWait + s.sinceMark p, mark := s.mgmt, gathered := none }
    let s := s.set1 R.STEP_STATE_CLOSING 0 0 p
    let s := s.putChan c { s.chan c with closing := some (closingVals (s.red R.RED_CH_ROUTE_RANK c) loss weight check) }
    if (s.chan c).hung then
      (s.putChan c { s.chan c with closing := none }).verdictLost p
    else s.chanPump c

/-! ### The chooser and the loss scale (R122, R125) -/

def formatRank (f : Nat × Nat) : Nat := if f = (3, 2) then 0 else if f = (4, 2) then 1 else 2

/-- R122: the chooser on one entry, from its histogram: the new entry, and whether FMT changed by the narrowing
path or at once. -/
def chooseEntry (d4 d5 tl narrowAfter e : Nat) (h : Nat → Nat) : Nat × Bool × Bool :=
  let sum (a b : Nat) : Nat := ((List.range 33).filter (fun i => decide (a ≤ i) && decide (i ≤ b))).foldl (fun n i => n + h i) 0
  let cur : Nat × Nat := (bits e 0 4, bits e 4 2)
  let cand : Nat × Nat := (bits e 16 4, bits e 20 2)
  let agree := bits e 8 8
  let nz := sum 0 32
  let choice : Nat × Nat :=
    if h 34 > 0 then (1, 0)
    else if nz = 0 then cur
    else if sum d5 32 <<< tl > nz then (1, 0)
    else if sum d4 32 <<< tl > nz then (4, 2)
    else (3, 2)
  let put (cur : Nat × Nat) (agree : Nat) (cand : Nat × Nat) : Nat :=
    setBits (setBits (setBits (setBits (setBits e 0 4 cur.1) 4 2 cur.2) 8 8 agree) 16 4 cand.1) 20 2 cand.2
  let changed := choice.1 != cur.1
  if formatRank choice ≥ formatRank cur then (put choice 0 cand, false, changed)
  else if choice = cand then
    let agree := min (agree + 1) 255
    if agree ≥ narrowAfter then (put choice 0 cand, changed, false) else (put cur agree cand, false, false)
  else if narrowAfter ≤ 1 then (put choice 0 choice, changed, false)
  else (put cur 1 choice, false, false)

/-- R122: the chooser at COMMIT. A fault in reading an entry is treated as one in writing it back (DESIGN CHOICE, log 77). -/
def State.choose (s : State) (p : Nat) : State :=
  let t := s.stepSt p
  if s.compat16 p || !t.chooseEn then s
  else
    let dies := s.partDies p
    (List.range t.layers).foldl (fun s l =>
      let a := t.fmtBase + 8 * l
      match s.load (stepWho p) a 8 with
      | (s, .error _) => s.set1 R.STEP_ERROR_WRITE_FAULT 0 0 p
      | (s, .ok b) =>
        let e := leVal b
        if bit e 6 then s
        else
          let h (w : Nat) : Nat := dies.foldl (fun n d => n + ngetD t.hist (monKey d l 0 w) 0) 0
          let (e', narrowed, widened) :=
            chooseEntry (bits t.fmtCfg 16 5) (bits t.fmtCfg 21 5) (bits t.fmtCfg 26 4) (max 1 (bits t.fmtCfg 32 8)) e h
          match s.store (stepWho p) a (leBytes 8 e') with
          | (s, 0) =>
            (s.countSat R.STEP_FMT_CHANGES_NARROWED (b2n narrowed) 0 0 p).countSat R.STEP_FMT_CHANGES_WIDENED (b2n widened) 0 0 p
          | (s, _) => s.set1 R.STEP_ERROR_WRITE_FAULT 0 0 p) s

/-- R125: the loss scale at the end of a step: an update of the register as it then stands (DESIGN CHOICE, log 78). -/
def State.lscaleEnd (s : State) (p : Nat) (commit : Bool) : State :=
  let t := s.stepSt p
  if !s.lscaleRuns p then s
  else
    let x : W32 := BitVec.ofNat 32 (s.get R.STEP_LSCALE_SCALE 0 0 p)
    let bound (lo : Nat) : W32 := pow2F (toInt 8 (bits t.lscaleCfg lo 8))
    if commit then
      let n := s.get R.STEP_LSCALE_RUN_COMMITS 0 0 p + 1
      let g := bits t.lscaleCfg 16 32
      if g ≠ 0 ∧ n ≥ g then
        (s.put R.STEP_LSCALE_SCALE (f32Min (f32Add x x) (bound 8)).toNat 0 0 p).put R.STEP_LSCALE_RUN_COMMITS 0 0 0 p
      else s.put R.STEP_LSCALE_RUN_COMMITS n 0 0 p
    else
      (s.put R.STEP_LSCALE_SCALE (f32Max (f32Mul x f32Half) (bound 0)).toNat 0 0 p).put R.STEP_LSCALE_RUN_COMMITS 0 0 0 p

/-! ### The verdict, COMMIT and SKIP (R234, R236, R237) -/

/-- R234: is the verdict true? -/
def verdictTrue (g : List W32) (members : Nat) (badTrailer : Bool) : Bool :=
  g.all (fun x => !f32NonFinite x) && f32IsZero (g.getD 2 f32Nan) &&
  g.getD 3 f32Nan == toF32 (FV.ofInt members) && !badTrailer

/-- R236 steps 2 to 6, once every engine has finished. -/
def State.commitEnd (s : State) (p : Nat) : State :=
  let s := (s.choose p).lscaleEnd p true
  let s := s.put R.STEP_SKIPS_RUN 0 0 0 p
  let n := s.stepNumber p
  let s := s.expireCarry p n
  let s := s.put R.STEP_NUMBER_NUMBER ((n + 1) % 2 ^ 32) 0 0 p
  let t := s.stepSt p
  let s := s.putStep p { t with upd := t.upd + s.sinceMark p, mark := s.mgmt }
  let s := (s.telemetry p n 1).stepOver p n
  let s := (s.partDies p).foldl (fun s d => s.putUpd d {}) s
  s.put R.STEP_STATE_PHASE phIdle 0 0 p

/-- R237: the refusal of the step's update. -/
def State.skipStep (s : State) (p : Nat) : State :=
  let s := s.lscaleEnd p false
  let s := (s.countSat R.STEP_SKIPS_TOTAL 1 0 0 p).count R.STEP_SKIPS_RUN 1 0 0 p
  let s := s.clearCarry p
  let s := (s.partDies p).foldl (fun s d => s.updDiscard d) s
  let s := (s.telemetry p (s.stepNumber p) 2).stepOver p (s.stepNumber p)
  (s.put R.STEP_STATE_PHASE phIdle 0 0 p).set1 R.STEP_STATE_DISCARD_PENDING 0 0 p

/-- VERDICT: the closing all-gather has completed: GATHERED is written and the verdict taken (R233, R234). Of a closing frame
that was rejected nothing is written (log 91). A true verdict after the reset of a die of the partition ends in HALT
(R236, R239, log 92). -/
def verdictEff (p : Nat) (s : State) : State :=
  let t := s.stepSt p
  match t.gathered with
  | none => s
  | some (g, bad) =>
    if !s.partExists p || s.phase p != phAwait || !s.flag R.STEP_STATE_CLOSING 0 0 p ||
        !s.linkedTo 0 [s.get R.STEP_LOSS_ADDR_ADDR 0 0 p] then s
    else
      let a := s.get R.STEP_LOSS_ADDR_ADDR 0 0 p
      let s := (s.store (stepWho p) (a + 0x10) (List.replicate 48 0 ++ g)).1
      let ok := verdictTrue (wordsOf g) (s.members? (s.chanBase p)) bad
      let s := s.putStep p { s.stepSt p with verdictWait := t.verdictWait + s.sinceMark p, mark := s.mgmt }
      let s := (s.put R.STEP_STATE_VERDICT (b2n ok) 0 0 p).set1 R.STEP_STATE_VERDICT_VALID 0 0 p
      if ok then
        let s := s.put R.STEP_STATE_PHASE phCommit 0 0 p
        if t.dieReset then s.stepDieReset p
        else (s.partDies p).foldl (fun s d => s.put R.UPD_STATUS_STATE 2 d) s
      else s.skipStep p

/-- VERDICT_TIMEOUT: STEP_VERDICT_LIMIT has passed without the closing all-gather (R235). -/
def verdictTimeoutEff (p : Nat) (s : State) : State :=
  if s.partExists p && s.phase p == phAwait && (s.stepSt p).gathered.isNone then s.verdictLost p else s

/-- Has the die still to apply its table in this COMMIT, and can it report (R17)? -/
def State.applying (s : State) (die : Nat) : Option Nat :=
  match s.partOfDie die with
  | some p => if s.linked 0 die && s.phase p == phCommit && !(s.stepSt p).applied.contains die then some p else none
  | none => none

/-- UPD_APPLY_DONE: the engine has applied its entries, with its writes visible, and reports; the last report ends
COMMIT (R236, R280). A fault met on the way ends in HALT (R291). -/
def updApplyDoneEff (die : Nat) (s : State) : State :=
  match s.applying die with
  | none => s
  | some p =>
    let u := s.updSt die
    let run := if u.accepted then s.updRun p die u 0 u.entries else .ok s
    match run with
    | .error (s, a, e) => (s.kronScratch die u).updFault p die e a
    | .ok s =>
      let s := (s.kronScratch die u).put R.UPD_STATUS_STATE 0 die
      let t := s.stepSt p
      let s := s.putStep p { t with applied := die :: t.applied }
      if (s.partDies p).all (fun d => (s.stepSt p).applied.contains d) then s.commitEnd p else s

/-- UPD_COMMIT_FAULT: a fault ends the engine's run in the entry at an index, at an address (R291). -/
def updCommitFaultEff (die entry addr : Nat) (s : State) : State :=
  match s.applying die with
  | none => s
  | some p =>
    let u := s.updSt die
    match u.entries[entry]? with
    | none => s
    | some e =>
      if !u.accepted || !leValid e || leFrozen e then s
      else
        match s.updRun p die u 0 (u.entries.take entry) with
        | .error (s, a, e) => (s.kronScratch die u).updFault p die e a
        | .ok s => ((s.kronScratch die u).put R.UPD_STATUS_ENTRY entry die).updFault p die e addr

/-! ### Resets (R239, R424) -/

/-- R239: a reset of hub AM returns every step sequence to IDLE. -/
def State.stepReset (s : State) : State :=
  { (List.range s.parts).foldl (fun s p => s.orphan p) s with steps := [] }

/-- R236, R239: a compute die is reset. -/
def State.stepOnDieReset (s : State) (die : Nat) : State :=
  let s := match s.partOfDie die with
    | none => s
    | some p =>
      let u := s.updSt die
      let s := if s.phase p == phCommit && !(s.stepSt p).applied.contains die then
          s.forgetSpans ((u.entries.filter (fun e => leValid e && !leFrozen e)).flatMap leWritten)
        else s
      s.stepDieReset p
  s.putUpd die {}

end Sys2Proof.Machine
end

