-- ==== Sys2Proof/Machine/Regions.lean ====
section
/-!
DEFINITION. Regions: what applying a region's records sets (R41, R42, R66, R425), and the stop-load-start
procedure (R60 to R64, R73).
-/

namespace Sys2Proof.Machine

/-! ### Registers by address (R5, R31) -/

/-- The register at a control-register address, with its index, if one exists there (R8, R31). -/
def regAt (a : Nat) : Option (RegDef × Nat) :=
  let die := csrDie a
  let block := csrBlock a
  let inst := csrInst a
  if a % 8 ≠ 0 ∨ 2 ^ 40 ≤ a ∨ !blockHas die block inst then none
  else
    (R.blockRegs block).findSome? fun r =>
      if r.site.on die && (r.inst.isNone || r.inst == some inst) then (r.index? (csrOff a)).map (fun i => (r, i)) else none

/-- R66: the RWL fields of a register's value at their reset values. -/
def rwlAtReset (r : RegDef) (reset v : Nat) : Nat :=
  (r.fields.filter (fun f => f.acc == .rwl)).foldl (fun v f => setBits v f.lo f.width (bits reset f.lo f.width)) v

/-- R66: the RWL fields of a region at their reset values, on the dies given. -/
def State.rwlReset (s : State) (c : Nat) (dies : List Nat) : State :=
  { s with csr := s.csr.map fun e =>
      let die := csrDie e.1
      let block := csrBlock e.1
      let inst := csrInst e.1
      if regionOf die block inst == some c && dies.contains die then
        match regAt e.1 with
        | some (r, i) => (e.1, BitVec.ofNat 64 (rwlAtReset r (regResetNat r die inst i) e.2.toNat))
        | none => e
      else e }

/-! ### Applying records (R42, R44, R48) -/

/-- ARB_CLASS: a requester's class and PREEMPT, and the arbiter's AGING. -/
def State.applyArb (s : State) (die : Nat) (p : List Byte) : State :=
  (chunks 8 (p.length / 8) p).foldl (fun (s : State) e =>
    let a := fieldAt e 0 2
    let q := fieldAt e 2 1
    let s := (s.put R.ARB_REQ_CFG_CLASS (bits (fieldAt e 3 1) 0 2) die a q).put R.ARB_REQ_CFG_PREEMPT
      (bits (fieldAt e 3 1) 2 1) die a q
    if fieldAt e 4 2 = 0 then s else s.put R.ARB_CFG_AGING (fieldAt e 4 2) die a) s

/-- R24, R246: the home hub of each channel of a group. -/
def State.showHomes (s : State) (g : Nat) : State :=
  ((List.range 8).map (· + 8 * g)).foldl (fun (s : State) r =>
    let home := if s.cut = 1 then homeOf s r (s.get R.RED_CH_ROUTE_IN_HOP 0 r) else r / 16
    (s.put R.RED_CH_STATUS_HOME (b2n (home == 0)) 0 r).put R.RED_CH_STATUS_HOME (b2n (home == 1)) 1 r) s

/-- R81, R104: UNIT and LEAD of every core of a die. -/
def State.showUnits (s : State) (die : Nat) : State :=
  (List.range 32).foldl (fun (s : State) m =>
    (s.put R.MXC_STATUS_UNIT (s.unitMode die m) die m).put R.MXC_STATUS_LEAD (s.lead die m) die m) s

/-- A record's settings on the registers of a HALF, DIE or RED group region. -/
def State.applyRec (s : State) (r : SRec) (dies : List Nat) : State :=
  let p := r.payload
  match r.type with
  | 0x101 => s.applyArb (regionDie r.region) p
  | 0x102 => (List.range 8).foldl (fun (s : State) i =>
      let j := 8 * (r.region - 1) + i
      (s.put R.PEER_CFG_ENABLE (bits (fieldAt p (2 * i) 2) 0 1) (r.region - 1) j).put R.PEER_CFG_OPP_MAX
        (bits (fieldAt p (2 * i) 2) 1 2) (r.region - 1) j) s
  | 0x202 => ((List.range 32).filter (fun m => bit (fieldAt p 0 4) m)).foldl (fun (s : State) m =>
      (List.range (fieldAt p 5 1)).foldl (fun (s : State) i =>
        (s.put R.VEC_OP_LO_ENTRY (fieldAt p (8 + 16 * i) 8) r.region m (fieldAt p 4 1 + i)).put R.VEC_OP_HI_ENTRY
          (fieldAt p (16 + 16 * i) 8) r.region m (fieldAt p 4 1 + i)) s) s
  | 0x401 => (hubs.filter dies.contains).foldl (fun (s : State) h =>
      let c := fieldAt p 0 1
      let s := (s.put R.RED_CH_ROUTE_MEMBERS (fieldAt p 2 2) h c).put R.RED_CH_ROUTE_RANK (fieldAt p 4 2) h c
      let s := (s.put R.RED_CH_ROUTE_IN_HOP (fieldAt p 6 1) h c).put R.RED_CH_ROUTE_OUT_HOP (fieldAt p 7 1) h c
      (s.put R.RED_CH_ROUTE_PREV_CH (fieldAt p 8 1) h c).put R.RED_CH_ROUTE_NEXT_CH (fieldAt p 9 1) h c) s
  | 0x402 => (hubs.filter dies.contains).foldl (fun (s : State) h =>
      let c := fieldAt p 0 1
      let f := fieldAt p 1 1
      let s := (s.put R.RED_CH_TIMING_POLICY (bits f 0 1) h c).put R.RED_CH_TIMING_WIRE (bits f 1 1) h c
      let s := (s.put R.RED_CH_TIMING_STRAGGLER_EN (bits f 2 1) h c).put R.RED_CH_TIMING_WATCHDOG_EN (bits f 3 1) h c
      let s := s.put R.RED_CH_TIMING_HEADROOM (fieldAt p 2 1) h c
      (s.put R.RED_CH_TIMING_WINDOW (fieldAt p 4 3) h c).put R.RED_CH_TIMING_WATCHDOG (fieldAt p 8 3) h c) s
  | _ => s

/-- The GLOBAL settings, on the dies given (R24, R33, R44, R57, R339, R425). -/
def State.applyGlobal (s : State) (recs : List SRec) (dies : List Nat) : State :=
  let s := s.applyIds recs
  let s := (s.recsOf 0 2).foldl (fun (s : State) r =>
    (chunks 4 (r.payload.length / 4) r.payload).foldl (fun (s : State) e =>
      match domainPlace (fieldAt e 0 1) with
      | some (die, i) =>
        let d := (clkDoms die)[i]?
        let f := if fieldAt e 1 3 = 0 then (match d with | some d => d.dflt | none => 0) else fieldAt e 1 3
        if dies.contains die then s.put R.CLK_DOMAIN_FREQ f die 0 i else s
      | none => s) s) s
  let s := if dies.contains 0 then
      (List.range 4).foldl (fun (s : State) p =>
        s.put R.STEP_CFG_POLICY (match s.recOf 0 1 with | some q => fieldAt q (4 + p) 1 | none => 0) 0 0 p) s
    else s
  let s := (hubs.filter dies.contains).foldl (fun (s : State) h =>
    match s.recOf 0 8 with
    | some p => s.put R.SEAM_CFG_MAX_WIDTH (fieldAt p 0 1) h
    | none => s) s
  (compDies.filter dies.contains).foldl (fun (s : State) d =>
    let cached := match s.recOf 0 4 with | some p => bit (fieldAt p 0 4) (d - 4) | none => false
    let s := s.put R.RLC_STATUS_CACHED (b2n cached) d
    (List.range 8).foldl (fun (s : State) i =>
      (s.put R.HBMC_STATUS_EXCLUDED (b2n (!s.stackIn d i)) d i).put R.NMA_STATUS_OWNER (b2n (s.claim 4 d == 7)) d i) s) s

/-- R66, R425: give a region's units on the dies named the settings of its records, and reset values where none sets them. -/
def State.applyRegion (s : State) (c : Nat) (recs : List SRec) (dies : List Nat) : State :=
  let s := s.rwlReset c dies
  if c = 0 then s.applyGlobal recs dies
  else
    let s : State := { s with recs := nset c recs s.recs, fog := s.fog.filter (· != c) }
    let s := recs.foldl (fun (s : State) r => s.applyRec r dies) s
    let s := if isDieRegion c then s.showUnits c else s
    if 0x20 ≤ c then s.showHomes (c - 0x20) else s

/-! ### What loading and starting a region does to its units -/

/-- R207, R210, R214, R220: REGION_LOAD of an INGEST region: item contexts, spill blocks, delivery counts and faults, the
generator's place, and what the reservoir's registers show. -/
def State.ingestLoad (s : State) (hub : Nat) : State :=
  let s : State := { s with
    inodes := s.inodes.filter (fun e => e.1 / 256 != hub)
    stageQ := s.stageQ.filter (fun e => e.1 / 4096 != hub)
    bodies := s.bodies.filter (fun b => b.1 / 256 != hub) }
  let s := (List.range 8).foldl (fun (s : State) i => s.rst R.DEMUX_DELIV hub 0 i) s
  let s :=
    match s.nodeOf hub 0x35 0 with
    | some c => (s.put R.PERM_GEN_EPOCH (c.par 0x20 4) hub).put R.PERM_GEN_BLOCKS 0 hub
    | none => s.rst R.PERM_GEN hub 0 0
  s.resvUpdate hub (s.reservoir hub)

/-- R61, R261, R263, R297, R303: REGION_LOAD of a RED group: carry buffers, HUNG, EPOCH and TAINTED. -/
def State.redLoadGroup (s : State) (g : Nat) : State :=
  ((List.range 8).map (· + 8 * g)).foldl (fun (s : State) c =>
    let h := ngetD s.chans c {}
    let s : State := { s with chans := nset c { h with carry := [], hung := false } s.chans }
    hubs.foldl (fun (s : State) d => s.rst R.RED_CH_EPOCH d c 0) s) s

/-- R60, R66: what a REGION_LOAD does to the units of a region, beside their settings. -/
def State.loadUnits (s : State) (c : Nat) : State :=
  if c = 0x10 ∨ c = 0x11 then s.ingestLoad (c - 0x10)
  else if 0x20 ≤ c then s.redLoadGroup (c - 0x20)
  else s

/-- R97, R127: a compute die's tiles and tile buffers to +0, holds released, the alternation begun anew. -/
def State.clearDie (s : State) (die : Nat) : State :=
  let s := (s.unitLeads die).foldl (fun (s : State) m => s.clearUnit die m) s
  { s with tbs := s.tbs.filter (fun e => e.1 / 256 != die) }

/-- R204, R216, R220: an INGEST region starts: PRODUCED is 0 in memory and in the nodes, and JOIN tables are scanned. -/
def State.ingestStart (s : State) (hub : Nat) : State :=
  let s := (s.nodes hub).foldl (fun (s : State) c =>
    let n := s.inode hub c.node
    if c.block = 0xFE then
      let (s, k) := s.store (s.engWho hub c) (c.par 0x10 8 % 2 ^ 48) (leBytes 8 0)
      let s := if k = 0 then s else s.hubFault hub 0xFE c.inst 0 k (c.par 0x10 8 % 2 ^ 48)
      let s := (s.put R.DEMUX_DELIV_PRODUCED 0 hub 0 c.inst).put R.DEMUX_DELIV_FULL 0 hub 0 c.inst
      s.putNode hub c.node { n with n := 0, cons := 0 }
    else if c.block = 0x35 then s.putNode hub c.node { n with emitted := 0 }
    else s) s
  s.joinScan hub

/-- R269, R351: a RED group starts: RING_VER is 1 and the fences' counts begin anew. -/
def State.redStart (s : State) (g : Nat) : State :=
  ((List.range 8).map (· + 8 * g)).foldl (fun (s : State) c =>
    let s := s.put R.RED_CH_STATUS_RING_VER 1 (s.chanHome c) c
    let k := qKey 0x61 (s.chanHome c) c 0
    { s with qcnt := nset k { ngetD s.qcnt k {} with done := 0 } s.qcnt }) s

/-- R60: the units of a region are initialised. -/
def State.startUnits (s : State) (c : Nat) : State :=
  if isDieRegion c then s.clearDie c
  else if c = 0x10 ∨ c = 0x11 then s.ingestStart (c - 0x10)
  else if 0x20 ≤ c then s.redStart (c - 0x20)
  else s

/-! ### Region states (R60 to R64, R73) -/

/-- R73: set a region's state, in STREAM_REGION and in the STREAM_LOCAL that mirrors it. -/
def State.setRegion (s : State) (c st : Nat) : State :=
  let s := s.put R.STREAM_REGION_STATE st 0 0 c
  if isDieRegion c then s.put R.STREAM_LOCAL_STATE_A st c
  else if c = 2 then s.put R.STREAM_LOCAL_STATE_A st 1
  else if c = 0x11 then s.put R.STREAM_LOCAL_STATE_B st 1
  else s

/-- R73: a region was loaded from a stream. -/
def State.noteLoad (s : State) (c id : Nat) (isPartial : Bool) : State :=
  let s := (s.put R.STREAM_REGION_MODIFIED 0 0 0 c).put R.STREAM_REGION_FROM_PARTIAL (b2n isPartial) 0 0 c
  let s := (s.put R.STREAM_REGION_LOAD_ID id 0 0 c).count R.STREAM_REGION_LOAD_COUNT 1 0 0 c
  if isDieRegion c then s.put R.STREAM_LOCAL_STREAM_ID id c
  else if c = 2 then s.put R.STREAM_LOCAL_STREAM_ID id 1
  else s

/-- R73: STREAM_ERROR. -/
def State.streamError (s : State) (f : SFail) : State :=
  (((s.put R.STREAM_ERROR_STATUS f.status 0).put R.STREAM_ERROR_REGION f.region 0).put
    R.STREAM_ERROR_RECORD_INDEX f.index 0).put R.STREAM_ERROR_BYTE_OFFSET f.off 0

/-- R73: LAST_STATUS of a region, for a code that has a register. -/
def State.lastStatus (s : State) (c st : Nat) : State :=
  if regionKnown c then s.put R.STREAM_REGION_LAST_STATUS st 0 0 c else s

/-- R63, R64, R73: a region command is refused. -/
def State.regionRefuse (s : State) (q : OctReq) (st : Nat) : State :=
  let c := q.hdr.target
  ((s.streamError (looseFail st (c % 256))).lastStatus c st).octResult q 1 st

/-- Answer a region command that has run. -/
def State.regionAnswer (s : State) (q : OctReq) (st : Nat) : State := (s.lastStatus q.hdr.target st).octResult q 1 st

/-- R63: regions that must be STOPPED or FAILED before REGION_STOP of a HALF region. -/
def halfDeps (c : Nat) : List Nat :=
  if c = 1 then [4, 5, 0x10, 0x20, 0x21, 0x22, 0x23] else if c = 2 then [6, 7, 0x11, 0x20, 0x21, 0x22, 0x23] else []

/-- R63: is the HALF region (both, for a RED group) that a region hangs on RUNNING? -/
def State.parentOk (s : State) (c : Nat) : Bool :=
  if 0x20 ≤ c then s.running 1 && s.running 2
  else if c = 4 ∨ c = 5 ∨ c = 0x10 then s.running 1
  else if c = 6 ∨ c = 7 ∨ c = 0x11 then s.running 2
  else true

/-- REGION_STOP (R60, R63, R64). -/
def State.regionStopReq (s : State) (q : OctReq) : State :=
  let c := q.hdr.target
  if c = 0 ∨ !regionKnown c then s.regionRefuse q 0xB
  else match s.region c with
  | 2 => s.regionAnswer q 0
  | 5 => s.octResult q 1 (s.get R.STREAM_REGION_LAST_STATUS 0 0 c)
  | 1 => { s with octWait := s.octWait ++ [(c, q)] }
  | 0 =>
    if (halfDeps c).any (fun d => s.region d != 2 && s.region d != 5) then s.regionRefuse q 0x18
    else
      -- a LOCK is broken as its DIE region leaves RUNNING (R86)
      let s := if isComp c then (s.unitLeads c).foldl (fun (s : State) m => s.breakLock c m) s else s
      { s.setRegion c 1 with octWait := s.octWait ++ [(c, q)] }
  | _ => s.regionRefuse q 0x16

/-- R64: the stops of a region are answered. -/
def State.answerStops (s : State) (c st : Nat) : State :=
  let s := s.lastStatus c st
  let due := s.octWait.filter (fun x => x.1 == c)
  due.foldl (fun (s : State) x => s.octResult x.2 1 st) { s with octWait := s.octWait.filter (fun x => x.1 != c) }

/-- R423: are a region's units held in reset? -/
def State.regionHeld (s : State) (c : Nat) : Bool :=
  s.isHeld (if isDieRegion c then c else if c = 2 ∨ c = 0x11 then 1 else 0) && decide (c < 0x20)

/-- R61: is a region drained? -/
def State.drained (s : State) (c : Nat) : Bool :=
  !s.regionHeld c &&
  if isHalfRegion c then
    let h := c - 1
    s.arbs.all (fun a => a.1 / 4096 != h || !a.2.begun.any (fun r => s.arbKind h (a.1 % 4096) r == 2)) &&
    s.waitTx.all (fun w => w.1 / 32 != h || w.1 % 32 ≥ 16 || w.2.isEmpty)
  else if isDieRegion c then
    (s.unitLeads c).all (fun m => (s.unit c m).inHand.isEmpty) &&
    s.get R.UPD_STATUS_STATE c == 0 &&
    s.movers.all (fun e => e.1 / 32 != c || (e.2.hand.isNone && e.2.held.isEmpty)) &&
    s.fills.all (fun f => f.die != c)
  else if c = 0x10 ∨ c = 0x11 then
    let h := c - 0x10
    s.inodes.all (fun n => n.1 / 256 != h || (n.2.held.isEmpty && n.2.chunk.isNone && n.2.unit.isNone && n.2.ready.isEmpty && n.2.buf.isEmpty &&
      n.2.items.all (fun i => i.last.isEmpty))) &&
    s.stageQ.all (fun q => q.1 / 4096 != h || q.2.isEmpty) &&
    s.movers.all (fun e => e.1 / 32 != h || (e.2.hand.isNone && e.2.held.isEmpty)) &&
    !s.flag R.PERM_HOST_CTRL_BUSY h
  else
    s.chans.all (fun e => e.1 / 8 != c - 0x20 ||
      (e.2.head.isNone && e.2.nxt.isNone && e.2.closing.isNone && e.2.olds.isEmpty))

/-- REGION_DRAINED: a STOPPING region with no work in flight is STOPPED (R60, R61). -/
def regionDrainedEff (c : Nat) (s : State) : State :=
  if regionKnown c && c != 0 && s.region c == 1 && s.drained c then (s.setRegion c 2).answerStops c 0 else s

/-- DRAIN_TIMEOUT (R60, R62). -/
def drainTimeoutEff (c : Nat) (s : State) : State :=
  if !(regionKnown c && c != 0 && s.region c == 1) then s
  else if s.drained c then (s.setRegion c 2).answerStops c 0
  else (s.setRegion c 5).answerStops c 0x1A

/-- REGION_LOAD (R60, R64 to R69): validation, and on success every record applied. `fault`: the hardware fails while
applying. -/
def State.regionLoadReq (s : State) (q : OctReq) : State :=
  let c := q.hdr.target
  if c = 0 ∨ !regionKnown c then s.regionRefuse q 0xB
  else if s.region c ≠ 2 then s.regionRefuse q 0x16
  else
    match s.validate s.staged (some c) with
    | .error f => (s.streamError f).regionAnswer q f.status
    | .ok l =>
      if q.aux ≠ 0 then { s.setRegion c 5 with fog := c :: s.fog }.regionAnswer q 0x1B
      else
        let s := (s.applyRegion c (l.of c) liveDies).loadUnits c
        let s := (s.noteLoad c l.id l.isPartial).put R.STREAM_STATUS_PARTIAL_LOADED 1 0
        s.regionAnswer q 0

/-- REGION_START (R60, R63, R64): the state after accepting it, and whether the command is still in progress. -/
def State.regionStartReq (s : State) (q : OctReq) : State :=
  let c := q.hdr.target
  if c = 0 ∨ !regionKnown c then s.regionRefuse q 0xB
  else match s.region c with
  | 0 => s.regionAnswer q 0
  | 2 => if s.parentOk c then { s.setRegion c 4 with octBusy := some q } else s.regionRefuse q 0x19
  | _ => s.regionRefuse q 0x16

/-- R60, R64: does a region command of OCT wait for its answer? -/
def State.octLoading (s : State) : Bool := match s.octBusy with | some q => q.op == 0x22 | none => false

/-- R60, R63, R64: the firmware's REGION_STARTs go on, one at a time, until one is in progress, with fuel. A region that is not
STOPPED stays as it is, and one refused keeps PARENT_STOPPED. -/
def State.startPump : Nat → State → State
  | 0, s => s
  | k + 1, s =>
    match s.starts with
    | [] => s
    | c :: t =>
      if s.octLoading || s.region c == 4 then s
      else if s.region c == 2 && s.parentOk c then s.setRegion c 4
      else
        let s := if s.region c = 2 then s.lastStatus c 0x19 else s
        State.startPump k { s with starts := t }

/-- R416, R431: the firmware issues REGION_START for regions, in order. -/
def State.issueStarts (s : State) (l : List Nat) : State :=
  State.startPump (s.starts.length + l.length) { s with starts := s.starts ++ l }

/-- REGION_UNITS_INITIALISED: a STARTING region runs, or fails (R60), and its command is answered: OCT's, or the firmware's. -/
def State.unitsInitialised (s : State) (c : Nat) (ok : Bool) : State :=
  let st := if ok then 0 else 0x1B
  let s := if ok then (s.startUnits c).setRegion c 0 else s.setRegion c 5
  match s.octBusy with
  | some q =>
    if q.op = 0x22 ∧ q.hdr.target = c then { s with octBusy := none }.regionAnswer q st
    else { s.lastStatus c st with starts := s.starts.filter (· != c) }
  | none => { s.lastStatus c st with starts := s.starts.filter (· != c) }

/-- R60, R74, R425: as a reset of a domain that contains it ends, a region is STOPPED with the settings last applied, MODIFIED is
clear, and commands in progress are answered ABANDONED. -/
def State.regionAfterReset (s : State) (c : Nat) : State :=
  let s :=
    match s.octBusy with
    | some q => if q.op = 0x22 ∧ q.hdr.target = c then { s with octBusy := none }.regionAnswer q 0x1C else s
    | none => s
  let s := if s.octWait.any (fun x => x.1 == c) then s.answerStops c 0x1C else s
  { (s.setRegion c 2).put R.STREAM_REGION_MODIFIED 0 0 0 c with starts := s.starts.filter (· != c) }

/-- R384: every context as Daybreak leaves it. -/
def State.initContexts (s : State) : State :=
  let p := (s.recOf 0 1).getD []
  (List.range 64).foldl (fun (s : State) c =>
    let on := s.cut == 1 || (s.cut != 0 && bit (fieldAt p 8 8) c)
    let part := if s.cut = 1 then 0 else bits (fieldAt p 0x10 16) (2 * c) 2
    let s := s.rst R.OCT_CTX 0 0 c
    if on then ((s.put R.OCT_CTX_STATE 1 0 0 c).put R.OCT_CTX_PARTITION part 0 0 c).set1 R.OCT_CTX_ASSIGNED 0 0 c
    else s) s

end Sys2Proof.Machine
end

