-- ==== Sys2Proof/Machine/Security.lean ====
section
/-!
DEFINITION. Firmware images and slots, LMS state, attestation (R393 to R406). A request is an OCT request taken by
the command engine; its LENGTH and COUNT have been judged.
-/

namespace Sys2Proof.Machine

/-! ### Statuses (R406) -/

def secBadOp : Nat := 0x1
def secBusy : Nat := 0x2
def secBadImage : Nat := 0x3
def secDigest : Nat := 0x4
def secKey : Nat := 0x5
def secEcdsa : Nat := 0x6
def secLms : Nat := 0x7
def secRollback : Nat := 0x8
def secActive : Nat := 0x9
def secStream : Nat := 0xA
def secFlash : Nat := 0xB
def secExhausted : Nat := 0xC
def secBadDest : Nat := 0xD

/-! ### Images (R395, R396) -/

def manifestLen : Nat := 0x4000
def imageMax : Nat := 16760832
def imgMagic : Nat := 0x5453464D
def imgLen (b : List Byte) : Nat := fieldAt b 0xC 4
def imgSvn (b : List Byte) : Nat := fieldAt b 8 4
def imgSigLen (b : List Byte) : Nat := fieldAt b 0x160 4
/-- M: the SHA-384 digest of the signed part. -/
def imgDigest (b : List Byte) : List Byte := sha384 (b.take 0x100)
def zeros (l : List Byte) : Bool := l.all (· == 0)
def piece (b : List Byte) (off n : Nat) : List Byte := (b.drop off).take n

/-- R396, step 1, with HSS_SIG_LEN in its range and the whole image there. -/
def imageForm (part : Nat) (b : List Byte) : Bool :=
  fieldAt b 0 4 == imgMagic && fieldAt b 4 2 == 1 && fieldAt b 6 2 == part &&
  decide (1 ≤ imgLen b) && decide (imgLen b ≤ imageMax) &&
  decide (1 ≤ imgSigLen b) && decide (imgSigLen b ≤ 16028) &&
  zeros (piece b 0xB1 15) && zeros (piece b 0xFC 4) &&
  zeros (piece b (0x164 + imgSigLen b) (manifestLen - (0x164 + imgSigLen b))) &&
  decide (manifestLen + imgLen b ≤ b.length)

/-- R396, steps 2 to 5: the first that fails, 0 for none. -/
def imageSigned (b : List Byte) : Nat :=
  let m := imgDigest b
  if sha384 (piece b 0x50 97) ≠ Config.device 0 ∨ sha384 (piece b 0xC0 60) ≠ Config.device 1 then secKey
  else if !Config.verify 0 (piece b 0x50 97) m (piece b 0x100 96) then secEcdsa
  else if !Config.verify 1 (piece b 0xC0 60) m (piece b 0x164 (imgSigLen b)) then secLms
  else if sha384 (piece b manifestLen (imgLen b)) ≠ piece b 0x20 48 then secDigest
  else 0

/-- R400: MIN_SVN is the count of fuses blown. -/
def State.minSvn (s : State) : Nat := s.flash.fuses

/-- R396: does an image verify? 0, or the status of the first failure. -/
def State.verifyImage (s : State) (b : List Byte) : Nat :=
  if !imageForm (s.get R.ID_PART_PART 0) b then secBadImage
  else if imageSigned b ≠ 0 then imageSigned b
  else if imgSvn b < s.minSvn then secRollback
  else 0

/-- R394: a firmware slot (1 A, 2 B). -/
def State.fwSlot (s : State) (slot : Nat) : List Byte := if slot = 2 then s.flash.fwB else s.flash.fwA
def State.putFwSlot (s : State) (slot : Nat) (b : List Byte) : State :=
  { s with flash := if slot = 2 then { s.flash with fwB := b } else { s.flash with fwA := b } }
def State.strSlot (s : State) (slot : Nat) : List Byte := if slot = 2 then s.flash.strB else s.flash.strA
def State.putStrSlot (s : State) (slot : Nat) (b : List Byte) : State :=
  { s with flash := if slot = 2 then { s.flash with strB := b } else { s.flash with strA := b } }

/-! ### Start-up (R397, R401) -/

/-- R397: the copy of the boot record that counts. -/
def State.bootRec (s : State) : Nat × Nat := if s.flash.boot0.2 < s.flash.boot1.2 then s.flash.boot1 else s.flash.boot0

/-- SEC_STATUS as the flash and the fuses give it. -/
def State.showSec (s : State) : State :=
  let b := s.bootRec
  let s := s.put R.SEC_STATUS_PREFERRED b.1 0
  let s := s.put R.SEC_STATUS_BOOT_COUNT b.2 0
  s.put R.SEC_STATUS_MIN_SVN s.minSvn 0

/-- R397: the ROM verifies the preferred slot, then the other; the slot booted, 0 for none. -/
def State.bootSlot (s : State) : Nat :=
  let p := if s.bootRec.1 = 2 then 2 else 1
  if s.verifyImage (s.fwSlot p) = 0 then p else if s.verifyImage (s.fwSlot (3 - p)) = 0 then 3 - p else 0

/-- R401: the LMS start-up write: the greater stored value and 1,024 more, to both copies. -/
def State.lmsStart (s : State) : State :=
  let n := max s.flash.lms0 s.flash.lms1 + 1024
  let s := if s.flash.lms0 ≠ s.flash.lms1 then s.set1 R.SEC_ERROR_LMS_COPY 0 else s
  { s with flash := { s.flash with lms0 := n, lms1 := n } }.put R.SEC_LMS_NEXT n 0

/-- R397: the firmware of a slot runs; BOOT_COUNT rises in both copies. -/
def State.bootFw (s : State) (slot : Nat) : State :=
  let b := s.bootRec
  let r : Nat × Nat := (b.1, (b.2 + 1) % 2 ^ 32)
  let img := s.fwSlot slot
  let s : State := { s with flash := { s.flash with boot0 := r, boot1 := r },
                            aon := { s.aon with fwSvn := imgSvn img, fwDigest := imgDigest img,
                                                kickAt := s.get R.CLK_COUNT_COUNT 0 0 clkAON } }
  let s := s.put R.SEC_STATUS_FW_SLOT slot 0
  let s := s.put R.SEC_STATUS_FALLBACK (b2n (slot != (if b.1 = 2 then 2 else 1))) 0
  s.showSec.lmsStart

/-! ### FW_UPDATE (R398 to R400) -/

/-- R380: a security refusal. -/
def State.secRefuse (s : State) (q : OctReq) (st : Nat) : State := s.octAnswer q octRefused 5 st

/-- The last operation's end in SEC_FW_STATUS. -/
def State.fwStatus (s : State) (st op slot last : Nat) : State :=
  let s := s.put R.SEC_FW_STATUS_STATE st 0
  let s := s.put R.SEC_FW_STATUS_OP op 0
  let s := s.put R.SEC_FW_STATUS_SLOT slot 0
  s.put R.SEC_FW_STATUS_LAST_STATUS last 0

/-- An operation refused at once ends there: SEC_FW_STATUS shows it, unless an install is in its background phase. -/
def State.fwRefuse (s : State) (q : OctReq) (st : Nat) : State :=
  let s := if s.install.isNone then s.fwStatus 0 q.hdr.target (fieldAt q.hdr.payload 0 1) st else s
  s.secRefuse q st

/-- The payload of FW_UPDATE: a slot and zeros; RAISE_SVN names none. -/
def fwPayloadOk (q : OctReq) : Bool :=
  let b := q.hdr.payload
  let slot := fieldAt b 0 1
  fieldAt b 1 7 == 0 && (q.hdr.target == 4 || slot == 1 || slot == 2)

/-- INSTALL_FW. -/
def State.installFwReq (s : State) (q : OctReq) : State :=
  let slot := fieldAt q.hdr.payload 0 1
  let b := s.mem.read stagingBase (manifestLen + min imageMax (leVal (s.mem.read (stagingBase + 0xC) 4)))
  if !fwPayloadOk q then s.fwRefuse q secBadOp
  else if s.install.isSome then s.secRefuse q secBusy
  else if slot = s.get R.SEC_STATUS_FW_SLOT 0 then s.fwRefuse q secActive
  else if !imageForm (s.get R.ID_PART_PART 0) b then s.fwRefuse q secBadImage
  else if imgSvn b < s.minSvn then s.fwRefuse q secRollback
  else
    let s : State := { s with install := some { op := 1, slot := slot, bytes := b } }
    ((s.fwStatus 1 1 slot (s.get R.SEC_FW_STATUS_LAST_STATUS 0)).put R.SEC_FW_STATUS_PROGRESS 0 0).octAnswer q octOk

/-- INSTALL_STREAM. -/
def State.installStreamReq (s : State) (q : OctReq) : State :=
  let slot := fieldAt q.hdr.payload 0 1
  if !fwPayloadOk q then s.fwRefuse q secBadOp
  else if s.install.isSome then s.secRefuse q secBusy
  else
    match s.validate s.staged none with
    | .error f => (s.streamError f).fwRefuse q secStream
    | .ok l =>
      let s : State := { s with install := some { op := 2, slot := slot, bytes := l.bytes } }
      ((s.fwStatus 2 2 slot (s.get R.SEC_FW_STATUS_LAST_STATUS 0)).put R.SEC_FW_STATUS_PROGRESS 0 0).octAnswer q octOk

/-- PREFER: both copies of the boot record name the slot. -/
def State.preferReq (s : State) (q : OctReq) : State :=
  let slot := fieldAt q.hdr.payload 0 1
  if !fwPayloadOk q then s.fwRefuse q secBadOp
  else if s.install.isSome then s.secRefuse q secBusy
  else if s.verifyImage (s.fwSlot slot) ≠ 0 then s.fwRefuse q secBadImage
  else
    let r : Nat × Nat := (slot, s.bootRec.2)
    let s : State := { s with flash := { s.flash with boot0 := r, boot1 := r } }
    ((s.put R.SEC_STATUS_PREFERRED slot 0).fwStatus 0 3 slot 0).octAnswer q octOk

/-- RAISE_SVN: fuses up to the running firmware's SVN, at most 64. -/
def State.raiseSvnReq (s : State) (q : OctReq) : State :=
  let want := min s.aon.fwSvn 64
  if !fwPayloadOk q then s.fwRefuse q secBadOp
  else if s.install.isSome then s.secRefuse q secBusy
  else if want ≤ s.minSvn then s.fwRefuse q secBadOp
  else
    let s : State := { s with flash := { s.flash with fuses := want } }
    ((s.put R.SEC_STATUS_MIN_SVN want 0).fwStatus 0 4 0 0).octAnswer q octOk

/-- R399, R400: the background phase of an install ends. `flashOk`: erase, program and read-back succeed. A failure
leaves the slot unbootable: its manifest, or header, is erased. -/
def installBackgroundDoneEff (flashOk : Bool) (s : State) : State :=
  match s.install with
  | none => s
  | some i =>
    let st := if i.op = 1 ∧ imageSigned i.bytes ≠ 0 then imageSigned i.bytes else if flashOk then 0 else secFlash
    let s : State := { s with install := none }
    let b := if st = 0 then i.bytes else []
    let s := if i.op = 1 then s.putFwSlot i.slot b else s.putStrSlot i.slot b
    let s := s.fwStatus 0 i.op i.slot st
    if st = 0 then
      (s.put R.SEC_FW_STATUS_PROGRESS (ceilDiv i.bytes.length 1024) 0).count R.SEC_INSTALLS_COUNT 1 0
    else
      let s := s.set1 R.SEC_ERROR_FW_FAIL 0
      if st = secFlash then s.set1 R.SEC_ERROR_FLASH_FAULT 0 else s

/-- R399: midnight or loss of power during an install leaves its slot unbootable once the erase has begun, and as it was
before: which is left open. -/
def State.installCut (s : State) : State :=
  match s.install with
  | none => s
  | some i =>
    let (k, s) := s.tick
    let s : State := { s with install := none }
    if Config.free k 0 % 2 = 0 then s
    else if i.op = 1 then s.putFwSlot i.slot [] else s.putStrSlot i.slot []

/-! ### Attestation (R401 to R404) -/

/-- Who writes the result: OCT, to which R27 does not apply. -/
def octWho : Who := { die := 0, part := none }

/-- May OCT write the range? The dies it lies on can be reached and the access is not a fault. -/
def State.octWritable (s : State) (a n : Nat) : Bool :=
  s.reach (addrDie a) && !s.inReset (addrDie a) && s.judge octWho a n == 0

def fit (n : Nat) (l : List Byte) : List Byte := (l ++ List.replicate n 0).take n

/-- R403: the body of a report. -/
def State.report (s : State) (nonce : List Byte) (q : Nat) : List Byte :=
  let step (d : Nat) : List Byte := leBytes 1 (if s.excluded d then 0 else s.get R.ID_PART_STEPPING d)
  let flags := s.get R.STREAM_STATUS_GLOBAL_APPLIED 0 + 2 * s.get R.STREAM_STATUS_PARTIAL_LOADED 0 +
    4 * s.get R.STREAM_STATUS_CSR_MODIFIED 0 + 8 * s.get R.PWR_INPUT_J20_MODE 0 +
    16 * s.get R.SEC_STATUS_FALLBACK 0 + 32 * b2n s.install.isSome
  leBytes 4 0x53545441 ++ leBytes 2 1 ++ leBytes 2 (s.get R.ID_PART_PART 0) ++ (liveDies.flatMap step) ++ leBytes 2 0 ++
  fit 32 nonce ++ leBytes 8 q ++ leBytes 4 (s.get R.SEC_STATUS_BOOT_COUNT 0) ++ leBytes 4 s.aon.fwSvn ++
  fit 48 s.aon.fwDigest ++ leBytes 1 (s.get R.SEC_STATUS_FW_SLOT 0) ++ leBytes 1 (s.get R.STREAM_STATUS_SOURCE 0) ++
  leBytes 2 flags ++ leBytes 4 (s.get R.STREAM_STATUS_STREAM_ID 0) ++ leBytes 4 s.minSvn ++ leBytes 4 0 ++
  ((List.range 6).flatMap fun k => leBytes 8 (s.get R.STREAM_DIGEST_DIGEST 0 0 k)) ++ leBytes 16 0 ++
  regionCodes.flatMap fun c =>
    leBytes 1 c ++ leBytes 1 (s.region c) ++
    leBytes 1 (s.get R.STREAM_REGION_MODIFIED 0 0 c + 2 * s.get R.STREAM_REGION_FROM_PARTIAL 0 0 c) ++ leBytes 1 0 ++
    leBytes 4 (s.get R.STREAM_REGION_LOAD_ID 0 0 c)

/-- Write an attestation result and answer with its length. -/
def State.attestWrite (s : State) (q : OctReq) (b : List Byte) : State :=
  let r := s.store octWho q.hdr.target b
  if r.2 = 0 then r.1.octAnswer q octOk 0 0 b.length else r.1.secRefuse q secBadDest

/-- ATTEST refused before anything is written: a reserved KIND or payload, TARGET, or no index left. -/
def State.attestBad (s : State) (q : OctReq) : Nat :=
  let kind := fieldAt q.hdr.payload 0 1
  if (kind ≠ 1 ∧ kind ≠ 2) ∨ fieldAt q.hdr.payload 1 7 ≠ 0 then secBadOp
  else if q.hdr.target % 64 ≠ 0 ∨ !s.octWritable q.hdr.target 8192 then secBadDest
  else if 2 ^ 40 ≤ s.flash.lms0 then secExhausted
  else 0

/-- R402: KIND 1, the identity record; KIND 2, a report (R403), signed with the next index once that index is spent. -/
def State.attestReq (s : State) (q : OctReq) : State :=
  if s.attestBad q ≠ 0 then s.secRefuse q (s.attestBad q)
  else if fieldAt q.hdr.payload 0 1 = 1 then s.attestWrite q ((Config.device 2).take 8192)
  else
    let n := s.flash.lms0
    let s : State := { s with flash := { s.flash with lms0 := n + 1, lms1 := n + 1 } }
    let s := s.put R.SEC_LMS_NEXT (n + 1) 0
    let body := s.report (q.hdr.payload.drop 8) n
    let s := s.count R.SEC_REPORTS_COUNT 1 0
    s.attestWrite q (body ++ fit 96 (Config.sign 0 n (sha384 body)) ++ fit 3604 (Config.sign 1 n body))

end Sys2Proof.Machine
end

