-- ==== Sys2Proof/Machine/Daybreak.lean ====
section
/-!
DEFINITION. Daybreak, the start-up sequence (R407 to R419), and what the release of a die brings with it.
-/

namespace Sys2Proof.Machine

/-! ### Memory written with zero (R408, step 7) -/

/-- What is left of an undefined span outside a range. -/
def trimSpan (lo n : Nat) (x : Nat × Nat × Nat) : List (Nat × Nat × Nat) :=
  let e := x.1 + x.2.1
  (if x.1 < lo then [(x.1, min e lo - x.1, x.2.2)] else []) ++
  (if lo + n < e then [(max x.1 (lo + n), e - max x.1 (lo + n), x.2.2)] else [])

/-- Write a range with zero and valid ECC. -/
def Mem.zero (m : Mem) (lo n : Nat) : Mem :=
  { cells := m.cells.filter (fun c => decide (c.1 < lo) || decide (lo + n ≤ c.1))
    undef := m.undef.flatMap (trimSpan lo n)
    bad := m.bad.filter (fun u => decide (u < lo) || decide (lo + n ≤ u)) }

/-! ### Failures (R413) -/

/-- R413: is a die's region FAILED? -/
def State.dieFailed (s : State) (die : Nat) : Bool := s.region (if die = 1 then 2 else die) == 5

/-- R413, R414: a region fails in Daybreak or at a reset's end. -/
def State.regionFail (s : State) (c : Nat) : State := (s.setRegion c 5).lastStatus c 0x1B

/-- R413: DEGRADED, and the first step at which a unit failed. -/
def State.degraded (s : State) (step : Nat) : State :=
  let s := s.set1 R.STREAM_DAYBREAK_DEGRADED 0
  if s.get R.STREAM_DAYBREAK_FIRST_FAIL 0 = 0 then s.put R.STREAM_DAYBREAK_FIRST_FAIL step 0 else s

/-- Hold a die in reset; its weave is held DOWN (R324). -/
def State.hold (s : State) (die : Nat) : State :=
  let s : State := if s.isHeld die then s else { s with held := s.held ++ [die] }
  if isComp die && s.get R.WEAVE_STATUS_STATE (hubOf die) (weaveInst die) != 0 then s.weaveHold die else s

/-- The die of a unit that has failed is held, with its region FAILED; hub PM takes its dies with it. -/
def State.failHeld (s : State) (die : Nat) : State :=
  if isComp die then (s.hold die).regionFail die
  else if die = 1 then
    let s := (s.hold 1).regionFail 2
    (halfDies 1).foldl (fun (s : State) d => (s.hold d).regionFail d) (s.regionFail 0x11)
  else s

def State.failDie (s : State) (die step : Nat) : State := (s.failHeld die).degraded step

/-! ### Release of a die (R340, R408) -/

/-- The rails of a die rise. -/
def State.railsUp (s : State) (die : Nat) : State := s.put R.PWR_STATUS_POWERED 1 die

/-- A die leaves reset: its PLLs lock and every stopped clock starts. -/
def State.release (s : State) (die : Nat) : State :=
  let s : State := { s with held := s.held.filter (· != die) }
  let s := (s.railsUp die).showRefs die
  (clkIdx die).foldl (fun (s : State) k => if s.runs die k then s else s.startClock die k) s

/-- R408, step 7: the stacks of a die in service are trained, but those that fail. -/
def State.trainStacks (s : State) (die : Nat) (fails : List Nat) : State :=
  (s.stacks die).foldl (fun (s : State) i => s.put R.HBMC_STATUS_TRAINED (b2n (!fails.contains i)) die i) s

/-! ### The announcement (R416, R417) -/

/-- R417: is a die running? -/
def State.dieUp (s : State) (die : Nat) : Bool := !s.isHeld die && !s.excluded die && s.flag R.PWR_STATUS_POWERED die

/-- The mask of those that satisfy a test. -/
def maskOf (n : Nat) (p : Nat → Bool) : Nat := ((List.range n).filter p).foldl (fun m i => m + 2 ^ i) 0

/-- R417: an announcement's body. -/
def State.announcement (s : State) : List Byte :=
  leBytes 2 (s.get R.ID_PART_PART 0) ++ leBytes 1 (s.get R.ID_PART_OCT_MAX 0) ++ leBytes 1 (s.get R.ID_PART_OPP_MAX 0) ++
  leBytes 1 (s.get R.SEC_STATUS_FALLBACK 0 + 2 * s.get R.STREAM_DAYBREAK_DEGRADED 0 + 4 * b2n s.aon.sourceFailed +
    8 * s.get R.PWR_INPUT_J20_MODE 0) ++
  leBytes 1 (s.get R.STREAM_STATUS_SOURCE 0) ++ leBytes 1 (s.get R.ETH_STATUS_SPEED 0) ++
  leBytes 1 (s.get R.SEAM_WIDTH_STATUS_WIDTH 0) ++ fit 16 ((Config.device 2).drop 4) ++
  leBytes 8 (s.get R.ETH_MAC_MAC 0) ++ leBytes 4 (s.get R.STREAM_STATUS_STREAM_ID 0) ++
  leBytes 4 (s.get R.SEC_STATUS_BOOT_COUNT 0) ++
  leBytes 1 (maskOf 8 (fun d => isDie d && s.dieUp d)) ++ leBytes 1 0 ++
  leBytes 2 (maskOf 16 (fun j => s.flag R.PEER_STATUS_UP (j / 8) j)) ++
  leBytes 4 (maskOf 32 (fun i => s.flag R.HBMC_STATUS_TRAINED (4 + i / 8) (i % 8))) ++
  leBytes 8 s.mgmt ++ leBytes 8 0

/-- Send the announcement that is due, if the link is up. -/
def State.announce (s : State) : State :=
  if s.eth.announcing ≠ 0 ∧ s.flag R.ETH_STATUS_LINK_UP 0 then
    let n := s.eth.announced + 1
    let s : State := { s with eth := { s.eth with announced := n } }
    s.send (.announce n s.eth.announcing (leBytes 1 4 ++ leBytes 1 s.eth.announcing ++ leBytes 1 0 ++ leBytes 1 0xFF ++
      leBytes 4 0 ++ s.announcement))
  else s

/-- Announcements of a KIND begin. -/
def State.announceFrom (s : State) (kind : Nat) : State :=
  State.announce { s with eth := { s.eth with announcing := kind } }

/-- ANNOUNCE_REPEAT: once every second, until a NEGOTIATE is accepted (R416). -/
def announceRepeatEff (s : State) : State := s.announce

/-! ### Steps -/

def State.daybreakDone (s : State) : Bool := s.flag R.STREAM_DAYBREAK_DONE 0
def State.waiting (s : State) : Bool := s.flag R.STREAM_DAYBREAK_WAITING 0
def State.recovery (s : State) : Bool := s.flag R.STREAM_DAYBREAK_RECOVERY 0

/-- R407: has the step begun, and not ended? -/
def State.atStep (s : State) (n : Nat) : Bool := s.aon.step == n && s.aon.powered && !s.aon.stopped && !s.aon.emrst && !s.daybreakDone

/-- R410, R412: hub AM's FAB and ETH domains run and the port comes up, to announce a KIND. -/
def State.portEarly (s : State) (kind : Nat) : State :=
  (((s.startClock 0 0).startClock 0 4).ethStart).announceFrom kind

/-- R416: the order of REGION_START at step 11. -/
def startOrder : List Nat := [1, 2, 4, 5, 6, 7, 0x10, 0x11, 0x20, 0x21, 0x22, 0x23]

/-- R408: a step begins. Step 11 issues REGION_START for the regions (R416). -/
def State.enterStep (s : State) (n : Nat) : State :=
  let s : State := { s with aon := { s.aon with step := n } }
  let s := if 3 ≤ n then s.put R.STREAM_DAYBREAK_STEP n 0 else s
  if n = 6 then compDies.foldl (fun (s : State) d => s.weaveFirst d) s
  else if n = 8 then hubs.foldl (fun (s : State) h => s.seamFirst h) s
  else if n = 10 then (if s.flag R.ETH_STATUS_LINK_UP 0 || s.eth.trying != 0 then s else s.ethStart)
  else if n = 11 then s.issueStarts startOrder
  else s

/-- R408, R425: a full stream becomes active and its records are applied to every region, which counts as one load of
each. -/
def State.applyStream (s : State) (l : Loaded) (source : Nat) : State :=
  let s : State := { s with active := l.bytes }
  let s := regionCodes.foldl (fun (s : State) c => ((s.applyRegion c (l.of c) liveDies).loadUnits c).noteLoad c l.id false) s
  let s := ((s.put R.STREAM_STATUS_FORMAT l.format 0).put R.STREAM_STATUS_SOURCE source 0).put R.STREAM_STATUS_STREAM_ID l.id 0
  let s := (s.set1 R.STREAM_STATUS_GLOBAL_APPLIED 0)
  let s := (List.range 6).foldl (fun (s : State) k =>
    s.put R.STREAM_DIGEST_DIGEST (fieldAt l.bytes (0x30 + 8 * k) 8) 0 0 k) s
  s.initContexts

/-- R409: the stream slots tried, in order. -/
def State.sourcesTried (s : State) : List Nat :=
  match s.aon.source with
  | 0 => [s.get R.SEC_STATUS_FW_SLOT 0, 3 - s.get R.SEC_STATUS_FW_SLOT 0]
  | 1 => [1]
  | 2 => [2]
  | _ => []

/-- R409: try the sources in order; with none, wait for the staging buffer. -/
def State.chooseStream (s : State) : List Nat → State
  | [] => (s.set1 R.STREAM_DAYBREAK_WAITING 0).portEarly 2
  | n :: rest =>
    match s.validate (s.strSlot n) none with
    | .ok l => (s.applyStream l n).enterStep 5
    | .error f =>
      let s : State := { s with aon := { s.aon with sourceFailed := true } }
      (s.streamError f).chooseStream rest

/-- R408, step 5: the other dies' rails rise and every domain's PLL locks, but on the dies that have failed. -/
def State.clocksStep (s : State) : State :=
  let s := (s.showRefs 0).release 0
  let s := [1, 4, 5, 6, 7].foldl (fun (s : State) d =>
    if s.dieFailed d then s else if s.power.tripped.contains d then s.failDie d 5 else s.release d) s
  (s.setRegion 0 0)

/-- R408, step 7: the stacks train and every burst is written with zero; a die with a failed stack is held. -/
def State.stacksStep (s : State) (fails : List (Nat × Nat)) : State :=
  compDies.foldl (fun (s : State) d =>
    if s.isHeld d || s.excluded d then s
    else
      let bad := (fails.filter (fun x => x.1 == d && (s.stacks d).contains x.2)).map (·.2)
      let s := s.trainStacks d bad
      let s : State := { s with mem := s.mem.zero (d * 2 ^ 44) (s.homeSize d) }
      if bad.isEmpty then s else s.failDie d 7) s

/-- R416: step 11 ends, its REGION_STARTs seen through: the first announcement leaves. -/
def State.finalStep (s : State) : State :=
  let s := (s.set1 R.STREAM_DAYBREAK_DONE 0).put R.STREAM_DAYBREAK_DONE_AT (s.mgmt / 1024) 0
  s.announceFrom 1

/-- R415: every enabled peer port in service is UP. -/
def State.portsUp (s : State) : Bool :=
  (List.range 16).all fun j =>
    !s.flag R.PEER_CFG_ENABLE (j / 8) j || !bit (s.get R.ID_UNITS_PEER_PRESENT (j / 8)) (j % 8) || s.isHeld (j / 8) ||
    s.flag R.PEER_STATUS_UP (j / 8) j

/-- R408: may the step in progress end? -/
def State.stepReady (s : State) : Bool :=
  match s.aon.step with
  | 3 => !s.recovery
  | 4 => !s.waiting
  | 5 => !s.aon.lost156
  | 6 => compDies.all (fun d => s.isHeld d || s.weaveUp d)
  | 8 => s.seamTrained
  | 9 => s.portsUp
  | 10 => s.flag R.ETH_STATUS_LINK_UP 0
  | 11 => s.starts.isEmpty
  | _ => true

/-- DAYBREAK_STEP_COMPLETE: the step in progress ends, and the next begins (R408). `fails`: the stacks, as (die,
position), that fail their training in step 7. -/
def daybreakStepCompleteEff (fails : List (Nat × Nat)) (s : State) : State :=
  if !s.atStep s.aon.step || !s.stepReady then s
  else match s.aon.step with
  | 1 => (s.railsUp 0).enterStep 2
  | 2 =>
    let s := (((s.railsUp 0).showRefs 0).startClock 0 5).showSec
    let s := if s.aon.mode then s else s.send (.j20 0 (Config.device 3))
    s.enterStep 3
  | 3 =>
    let slot := s.bootSlot
    if slot = 0 then (s.set1 R.STREAM_DAYBREAK_RECOVERY 0).portEarly 3 else (s.bootFw slot).enterStep 4
  | 4 => s.chooseStream s.sourcesTried
  | 5 => s.clocksStep.enterStep 6
  | 6 => s.enterStep 7
  | 7 => (s.stacksStep fails).enterStep 8
  | 8 =>
    let s := if hubs.any (fun h => s.seamState h == 5) then s.set1 R.STREAM_DAYBREAK_DEGRADED 0 else s
    s.enterStep 9
  | 9 => s.enterStep 10
  | 10 => s.enterStep 11
  | 11 => s.finalStep
  | _ => s

/-- DAYBREAK_GO: a write of 1 to GO while WAITING (R411). -/
def daybreakGoEff (s : State) : State :=
  if !s.waiting then s
  else
    match s.validate s.staged none with
    | .error f => s.streamError f
    | .ok l => ((s.applyStream l 3).put R.STREAM_DAYBREAK_WAITING 0 0).enterStep 5

/-! ### Limits of the steps (R413 to R416) -/

/-- PLL_LOCK_TIMEOUT: a PLL of step 5 has not locked 1 ms after it was started. -/
def pllLockTimeoutEff (die k : Nat) (s : State) : State :=
  if !s.atStep 5 || !isDie die || decide ((clkDoms die).length ≤ k) || s.domainOut die k ||
      (die == 0 && (k == 5 || k == clkAON)) then s
  else
    let s := s.set1 R.CLK_DOMAIN_LOCK_LOST die 0 k
    if die = 0 then
      let s := (s.put R.ETH_STATUS_LINK_UP 0 0).put R.ETH_STATUS_SPEED 0 0
      { s with aon := { s.aon with stopped := true }, eth := { s.eth with trying := 0 } }
    else s.failDie die 5

/-- WEAVE_STEP_TIMEOUT: a weave still not up 2 s after step 6 began. -/
def weaveStepTimeoutEff (die : Nat) (s : State) : State :=
  if s.atStep 6 && isComp die && !s.isHeld die && !s.weaveUp die then s.failDie die 6 else s

/-- SEAM_WAIT_TIMEOUT: the seam is still down 10 s after step 8 began (R414). -/
def seamWaitTimeoutEff (s : State) : State :=
  if s.atStep 8 && !s.seamTrained then
    ([2, 0x11, 6, 7].foldl (fun (s : State) c => s.regionFail c) s).degraded 8 |>.enterStep 9
  else s

/-- PEER_STEP_TIMEOUT: 1 s after step 9 began; ports still down go on trying. -/
def peerStepTimeoutEff (s : State) : State := if s.atStep 9 then s.enterStep 10 else s

/-- ETH_STEP_TIMEOUT: 2 s after step 10 began; a link that is up by then ends the step as well. -/
def ethStepTimeoutEff (s : State) : State := if s.atStep 10 then s.enterStep 11 else s

/-! ### The alarm (R364) -/

/-- ALARM_N is asserted: a cause of R355, R360 or R361, a reference lost, waiting, recovery, or Daybreak stopped. -/
def State.alarm (s : State) : Bool :=
  s.power.vinFloor || !s.power.tripped.isEmpty || s.aon.hubTrip || s.power.coolant || s.aon.lost100 || s.aon.lost156 ||
  s.waiting || s.recovery || s.aon.stopped

/-! ### Power applied (R407) -/

/-- Everything that loses its contents with the supply, or at midnight: memory of every die. -/
def State.forgetAll (s : State) : State := s.forgetSpans (liveDies.map (fun d => (d * 2 ^ 44, 2 ^ 44)))

/-- POWER_APPLIED: 72 V has qualified: Daybreak begins at step 1. AON samples MODE (R363); true: the pin is open. -/
def powerAppliedEff (mode : Bool) (s : State) : State :=
  if s.aon.powered then s
  else
    let s : State := { s with aon := { s.aon with powered := true, mode := mode, step := 1, source := 0 } }
    let s := (s.startClock 0 clkAON).put R.PWR_INPUT_J20_MODE (b2n mode) 0
    s.forgetAll

end Sys2Proof.Machine
end

