-- ==== Sys2Proof/Machine/Status.lean ====
section
/-!
DEFINITION. Status fields that the module shows of state held elsewhere: ingest engines (R208), reduction channels
(R268), matrix cores (R104).
-/

namespace Sys2Proof.Machine

/-- R208: the state of an engine instance: 0 not in the graph, 1 working, 2 waiting for room, 3 waiting for input. -/
def State.engineState (s : State) (hub block inst : Nat) : Nat :=
  match s.nodeOf hub block inst with
  | none => 0
  | some c =>
    let n := s.inode hub c.node
    let fed :=
      if block = 0x30 then !(s.demuxMine hub c).isEmpty
      else if block = 0x35 && !n.genStop && s.running (0x10 + hub) then true
      else !n.ready.isEmpty || (List.range 16).any (fun p => !(s.inq hub c.node p).isEmpty)
    let waits := !n.held.isEmpty || (block == 0x35 && !n.genStop && s.running (0x10 + hub) && s.genWaits hub c)
    if waits then 2 else if fed && s.region (0x10 + hub) ≤ 1 then 1 else 3

/-- R182, R208: does the instance's node hold spill blocks? -/
def State.engineSpilling (s : State) (hub block inst : Nat) : Bool :=
  match s.nodeOf hub block inst with
  | none => false
  | some c => s.bodies.any fun b =>
      b.1 == nodeKey hub c.node && (s.spillCarves hub).any fun v => decide (v.base ≤ b.2.1) && decide (b.2.1 < v.base + v.size)

/-- R208: an ingest engine's STATUS register. -/
def State.engineStatus (s : State) (hub block inst : Nat) : Nat :=
  let node := match s.nodeOf hub block inst with | some c => c.node | none => 0xFF
  s.engineState hub block inst + 4 * b2n (s.engineSpilling hub block inst) + 2 ^ 8 * node

/-- R248, R271: a channel's status at its home hub (a reduction with frames waiting is its head): STATE, ABSENT, PENDING and HEAD_RED_ID beside the stored fields. -/
def State.chanStatus (s : State) (hub c : Nat) : Nat :=
  let v := s.rd R.RED_CH_STATUS hub c 0
  if s.chanHome c ≠ hub then v
  else
    let ch := s.chan c
    let st := if ch.hung then 2 else if ch.head.isSome || !ch.inq.isEmpty then 1 else 0
    let absent := match ch.absStep with | some n => n == s.stepNumber (s.partOfChan c) | none => false
    let red := match ch.head, ch.inq with | some h, _ => h.redId | none, x :: _ => x.f.redId | none, [] => 0
    let v := setBits v 0 2 st
    let v := setBits v 5 1 (b2n absent)
    let v := setBits v 6 1 (b2n (s.straggling c))
    setBits v 16 16 red

/-- R104: MXC_STATUS.PAUSED: PAUSE in effect and nothing in flight. -/
def State.mxcPaused (s : State) (die core : Nat) : Bool :=
  let l := s.lead die core
  s.flag R.MXC_CTRL_PAUSE die l && (s.unit die l).inHand.isEmpty

end Sys2Proof.Machine
end

