-- ==== Sys2Proof/Machine/Dump.lean ====
section
/-!
DEFINITION. The crash dump (R438 to R440): when it may be taken, what it reads, how it is laid out, how it ends.
-/

namespace Sys2Proof.Machine

/-- Statuses of R447. -/
def rstOk : Nat := 0x0
def rstBadDomain : Nat := 0x1
def rstNoEngine : Nat := 0x2
def rstBusy : Nat := 0x3
def rstHot : Nat := 0x4
def rstExcluded : Nat := 0x5
def rstNotRunning : Nat := 0x6
def rstNoDest : Nat := 0x7
def rstDestFault : Nat := 0x8
def rstPartial : Nat := 0x9
def rstTimeout : Nat := 0xA
def rstNoRegister : Nat := 0xB
def rstUnreachable : Nat := 0xC
def rstInReset : Nat := 0xD

/-- R152: the offset, in a core's scratchpad, of a bank's line. -/
def bankLine (b l : Nat) : Nat := l * 2048 + (b ^^^ (l % 32)) * 64

/-- R439: a window's directory STATUS before reading: 0 to be read, 2 not valid or outside the range, 3 an excluded core. -/
def State.winState (s : State) (die k : Nat) : Nat :=
  let a := s.get R.DBG_WIN_ADDR die 0 k
  let o := addrOff a
  if !s.flag R.DBG_WIN_VALID die 0 k || a % 0x10000 != 0 || addrDie a != die || decide (o < 0x0F0000000000) ||
      decide (0x0F0008000000 ≤ o) then 2
  else if !s.coreIn die ((o - 0x0F0000000000) / 0x400000) then 3
  else 0

/-- The windows of a die that are read, in directory order. -/
def State.windows (s : State) (die : Nat) : List Nat := (List.range 64).filter (fun k => s.winState die k == 0)

/-- R439: the size of a section, and of a dump. -/
def State.sectionSize (s : State) (die : Nat) : Nat := 9280 + 65536 * (s.windows die).length
def State.dumpSize (s : State) (dies : List Nat) : Nat := dies.foldl (fun n d => n + s.sectionSize d) 64

def State.dumpDest (s : State) : Nat := s.get R.DBG_DUMP_DEST_BASE 0

/-- R439: does the destination lie in one DUMP carve-out and hold the dump? -/
def State.dumpFits (s : State) (dies : List Nat) : Bool :=
  let n := s.get R.DBG_DUMP_SIZE_SIZE 0
  (s.carves.any fun c => c.kind == 4 && decide (c.base ≤ s.dumpDest) && decide (s.dumpDest + n ≤ c.base + c.size)) &&
  decide (s.dumpSize dies ≤ n)

/-- R438: is bank 32m + b of a die unreadable? The whole die is, where its route is not trained (R440). -/
def Dump.bankLost (d : Dump) (die bank : Nat) : Bool := d.lost.contains (die, bank) || d.lost.contains (die, 1024)

/-- A dump begins, if its destination allows it; answers whether it has. -/
def State.dumpBegin (s : State) (dies : List Nat) (cause domain block inst suspects : Nat) : State × Bool :=
  if !s.dumpFits dies then
    ((s.put R.DBG_DUMP_STATUS_STATUS rstNoDest 0).put R.DBG_DUMP_STATUS_STATE 2 0, false)
  else
    let n := s.dumpSeq + 1
    let d : Dump := { dies := dies, cause := cause, domain := domain, block := block, inst := inst, suspects := suspects,
                      seq := n, start := s.mgmt, lost := (dies.filter (fun d => !s.reach d)).map (fun d => (d, 1024)) }
    let s : State := { s with dumpSeq := n, dump := some d }
    ((s.put R.DBG_DUMP_STATUS_STATE 1 0).put R.DBG_DUMP_STATUS_SEQ n 0, true)

/-- A bank's CRC-32C over its 2,048 lines. -/
def State.bankCrc (s : State) (die m b : Nat) : Nat :=
  crc32c ((List.range 2048).flatMap (fun l => s.mem.read (spadBase die m + bankLine b l) 64))

/-- R439: a window's bytes, lines of unreadable banks as zeros, and whether all were read. -/
def State.winBytes (s : State) (d : Dump) (die k : Nat) : List Byte × Bool :=
  let a := s.get R.DBG_WIN_ADDR die 0 k
  let o := addrOff a - 0x0F0000000000
  let m := o / 0x400000
  let lost (l : Nat) : Bool := d.bankLost die (32 * m + spadBank (o % 0x400000 + 64 * l))
  ((List.range 1024).flatMap (fun l => if lost l then List.replicate 64 0 else s.mem.read (a + 64 * l) 64),
   (List.range 1024).all (fun l => !lost l))

/-- R439: the section of a die. -/
def State.dumpSection (s : State) (d : Dump) (die : Nat) : List Byte :=
  let lost := (List.range 1024).filter (fun i => s.coreIn die (i / 32) && d.bankLost die i)
  let win (k : Nat) : List Byte :=
    let st := s.winState die k
    leBytes 8 (s.get R.DBG_WIN_ADDR die 0 k) ++ leBytes 1 (if st = 0 then b2n (!(s.winBytes d die k).2) else st) ++ leBytes 7 0
  let bank (i : Nat) : List Byte :=
    if !s.coreIn die (i / 32) then leBytes 4 0 ++ leBytes 1 2 ++ leBytes 3 0
    else if d.bankLost die i then leBytes 4 0 ++ leBytes 1 1 ++ leBytes 3 0
    else leBytes 4 (s.bankCrc die (i / 32) (i % 32)) ++ leBytes 1 0 ++ leBytes 3 0
  leBytes 1 die ++ leBytes 1 (s.windows die).length ++ leBytes 2 lost.length ++
  leBytes 4 (s.get R.ID_UNITS_MC_PRESENT die) ++ leBytes 8 s.mgmt ++ leBytes 48 0 ++
  (List.range 64).flatMap win ++ (List.range 1024).flatMap bank ++
  (s.windows die).flatMap (fun k => (s.winBytes d die k).1)

/-- R439: is a bank unreadable or a window partial? A window is partial only where one of its banks is unreadable. -/
def State.dumpPartial (s : State) (d : Dump) : Bool :=
  d.dies.any fun die => (List.range 1024).any fun i => s.coreIn die (i / 32) && d.bankLost die i

/-- R439: the whole dump. -/
def State.dumpBytes (s : State) (d : Dump) : List Byte :=
  leBytes 4 0x504D5544 ++ leBytes 2 1 ++ leBytes 2 d.seq ++ leBytes 1 d.cause ++ leBytes 1 d.domain ++
  leBytes 1 (maskOf4 d.dies) ++ leBytes 1 (if s.dumpPartial d then rstPartial else rstOk) ++ leBytes 1 d.block ++ leBytes 1 0 ++
  leBytes 2 d.inst ++ leBytes 8 d.start ++ leBytes 8 (s.dumpSize d.dies) ++ leBytes 8 d.suspects ++ leBytes 24 0 ++
  d.dies.flatMap (s.dumpSection d)
where maskOf4 (l : List Nat) : Nat := l.foldl (fun n x => n + 2 ^ (x - 4)) 0

/-- R438, R449: a dump ends with a status, its registers and its notice. -/
def State.dumpEnd (s : State) (d : Dump) (status bytes : Nat) : State :=
  let s : State := { s with dump := none }
  let s := (s.put R.DBG_DUMP_STATUS_STATE 2 0).put R.DBG_DUMP_STATUS_STATUS status 0
  s.faultNotice 7 0 0xFF 7 0 0 0xFF status bytes d.seq

/-- R438, R446: may hub AM's fabric write the destination? -/
def State.dumpWritable (s : State) : Bool := s.reach (addrDie s.dumpDest) && !s.inReset (addrDie s.dumpDest)

/-- The dump is written out and ends: OK, PARTIAL, or DEST_FAULT. -/
def State.dumpFinish (s : State) (d : Dump) : State :=
  let n := s.dumpSize d.dies
  if !s.dumpWritable then s.dumpEnd d rstDestFault 0
  else
    match s.store { die := 0, part := none } s.dumpDest (s.dumpBytes d) (plain := true) with
    | (s, 0) => s.dumpEnd d (if s.dumpPartial d then rstPartial else rstOk) n
    | (s, _) => s.dumpEnd d rstDestFault 0

/-- R438: a write of the dump times out: it ends there, and what it wrote of the destination is left open. -/
def State.dumpWriteTimeout (s : State) (d : Dump) : State :=
  (s.forgetSpans [(s.dumpDest, s.dumpSize d.dies)]).dumpEnd d rstDestFault 0

/-- R438: a read of a bank times out. -/
def State.dumpBankTimeout (s : State) (d : Dump) (die bank : Nat) : State :=
  { s with dump := some { d with lost := (die, bank) :: d.lost } }

end Sys2Proof.Machine
end

