-- ==== Sys2Proof/Machine/Resets.lean ====
section
/-!
DEFINITION. Hangs, resets and recovery (R420 to R437, R446): what a reset of each domain does, the reset sequence,
watchdogs, quarantine, midnight.
-/

namespace Sys2Proof.Machine

/-! ### Domains (R420, R421) -/

/-- R421: the blocks with engine reset. -/
def engineBlocks : List Nat := [0x10, 0x30, 0x31, 0x32, 0x33, 0x34, 0x35, 0x36, 0x62]

/-- R44: the members of the reset groups of a die that hold one of these units. -/
def State.groupMates (s : State) (die : Nat) (u : List (Nat × Nat)) : List (Nat × Nat) :=
  let rs := (s.recsOf 0 6).filter (fun r => fieldAt r.payload 1 1 == die)
  let units (p : List Byte) : List (Nat × Nat) :=
    ((List.range 32).filter (bit (fieldAt p 4 4))).map (fun i => (fieldAt p 2 1, i))
  let ids := (rs.filter (fun r => (units r.payload).any u.contains)).map (fun r => fieldAt r.payload 0 1)
  (rs.filter (fun r => ids.contains (fieldAt r.payload 0 1))).flatMap (fun r => units r.payload)

/-- R421: one round of the closure: reset groups and fused units. -/
def State.closeOnce (s : State) (die : Nat) (u : List (Nat × Nat)) : List (Nat × Nat) :=
  let fused := u.flatMap fun x => if x.1 = 0x10 then (s.members die (s.lead die x.2)).map (fun m => (0x10, m.1)) else []
  (u ++ fused ++ s.groupMates die u).eraseDups

/-- R421: rounds of the closure until nothing is added, with fuel. -/
def State.closeRounds (s : State) (die : Nat) : Nat → List (Nat × Nat) → List (Nat × Nat)
  | 0, u => u
  | k + 1, u => let v := s.closeOnce die u; if v.length = u.length then u else s.closeRounds die k v

/-- R421: the closure of a unit. -/
def State.closure (s : State) (die block inst : Nat) : List (Nat × Nat) := s.closeRounds die 64 [(block, inst)]

/-- The dies that a reset touches. -/
def ResetSeq.dies (r : ResetSeq) : List Nat :=
  match r.domain with
  | 3 => r.die :: halfDies r.die
  | 4 => liveDies
  | _ => [r.die]

/-- Does one reset's domain contain another's? -/
def ResetSeq.covers (a b : ResetSeq) : Bool :=
  match a.domain with
  | 1 => b.domain == 1 && b.die == a.die && b.units.all a.units.contains
  | 2 => decide (b.domain ≤ 2) && b.die == a.die
  | 3 => decide (b.domain ≤ 3) && hubOf b.die == a.die
  | _ => true

/-- R41: the regions contained in a domain. -/
def ResetSeq.regionsIn (r : ResetSeq) : List Nat :=
  match r.domain with
  | 2 => [r.die]
  | 3 => (1 + r.die) :: halfDies r.die ++ [0x10 + r.die]
  | _ => []

/-- R439: the compute dies of the domain, which its dump covers. -/
def ResetSeq.dumpDies (r : ResetSeq) : List Nat := r.dies.filter isComp

/-! ### Units reset (R423, R424, R435) -/

/-- R423: every enabled queue of a unit is left STOPPED, or (`v` 0) has STOPPED cleared, for the contexts that pass. -/
def State.unitStops (s : State) (die block inst : Nat) (v : Nat) (p : Nat → Bool) : State :=
  let mark (q : QRegs) (s : State) (d i : Nat) : State :=
    ((List.range 64).filter (fun c => p c && s.flag q.enable d i c)).foldl (fun (s : State) c => s.put q.stopped v d i c) s
  if block = 0x10 then
    (s.members die inst).foldl (fun (s : State) m => mark spadQ s die m.1) (mark mxcQ s die inst)
  else if block = 0x36 ∧ inst = 3 then mark seteQ s die 3
  else s

/-- R435: give back descriptors of one queue block in hand: QHEAD returns to the oldest of each queue. -/
def State.giveBack (s : State) (q : QRegs) (die inst : Nat) (ctxs : List Nat) : State :=
  let s := ctxs.eraseDups.foldl (fun (s : State) c => s.qRewind q die inst c (ctxs.count c)) s
  ctxs.foldl (fun (s : State) c => s.ctxRelease c) s

/-- The contexts of the descriptors that a mover, or SETE instance 3, has in hand. -/
def Mover.ctxs (m : Mover) : List Nat := ((match m.hand with | some d => [d] | none => []) ++ m.held).map (·.ctx)

/-- R428: the contexts that have work in hand at a unit. -/
def State.unitCtxs (s : State) (die block inst : Nat) : List Nat :=
  if block = 0x10 then
    (s.unit die inst).inHand.map (·.ctx) ++ (s.members die inst).flatMap (fun m => (s.mover die m.1).ctxs)
  else if block = 0x36 ∧ inst = 3 then (s.mover die 3).ctxs
  else []

/-- R435: rewind the work in hand of a matrix-core unit. -/
def State.unitRewind (s : State) (die lead : Nat) : State :=
  let l := (s.unit die lead).inHand
  let s := l.foldl (fun (s : State) d => s.tileLoose die lead d) s
  let s := (s.giveBack mxcQ die lead (l.map (·.ctx))).putMx die lead { s.unit die lead with inHand := [], carriedTo := none, work := [] }
  let s := (s.showHeld die lead 0 false).showHeld die lead 1 false
  (s.members die lead).foldl (fun (s : State) m =>
    let v := s.mover die m.1
    (s.giveBack spadQ die m.1 v.ctxs).putMover die m.1 { v with hand := none, held := [] }) s

/-- R423, R437: a matrix-core unit as a reset leaves it: tiles and tile buffers +0, no hold or lock, asleep, not FAULTED, its
queues STOPPED, and the next continuation of every queue without its accumulators. -/
def State.unitCold (s : State) (die lead : Nat) : State :=
  let ms := (s.members die lead).map (·.1)
  let s : State := { s with
    tiles := s.tiles.filter (fun e => !ms.contains (e.1 / 2 - die * 32) || e.1 / 64 != die)
    tbs := s.tbs.filter (fun e => !ms.contains (e.1 / 8 - die * 32) || e.1 / 256 != die) }
  let s := s.putMx die lead { nextId := (s.unit die lead).nextId, lost := List.range 64 }
  let s := ms.foldl (fun (s : State) m =>
    let s := ((s.put R.MXC_STATUS_RUN 0 die m).put R.MXC_STATUS_AWAKE 0 die m).put R.MXC_STATUS_LOCKED 0 die m
    let s := ((s.put R.MXC_STATUS_LOCK_CTX 0 die m).put R.MXC_STATUS_FAULTED 0 die m).put R.MXC_STATUS_HELD 0 die m
    ((s.put R.VEC_STATUS_BUSY 0 die m).put R.VEC_STATUS_ROUTED 0 die m).put R.VEC_STATUS_PENDING 0 die m) s
  s.unitStops die 0x10 lead 1 (fun _ => true)

/-- Reset of a matrix-core unit: its work is rewound or ends with ABORTED. -/
def State.unitReset (s : State) (die lead : Nat) (replay : Bool) : State :=
  let s :=
    if replay then s.unitRewind die lead
    else
      let s := s.tilesAbort die lead (fun _ => true)
      (s.members die lead).foldl (fun (s : State) m => s.movesAbort die m.1 (fun _ => true)) s
  s.unitCold die lead

/-- R424: an ingest engine drops what it has in hand; item contexts are cleared, and each item owes ERROR and DISCONT. -/
def State.nodeReset (s : State) (hub block inst : Nat) : State :=
  match s.nodeOf hub block inst with
  | none => s
  | some c =>
    let n := s.inode hub c.node
    let cold (i : IItem) : IItem := { item := i.item, source := i.source, next := i.next, begun := i.begun, seq := i.seq,
                                      ports := i.ports, dead := i.dead, pend := orFlags i.pend owed, codec := i.codec }
    s.putNode hub c.node { n with held := [], chunk := none, unit := none, ready := [], buf := [], slot := none, runA := [], runB := [], items := n.items.map cold }

/-- R424: PERM's host request ends with ABORTED. -/
def State.permReset (s : State) (hub : Nat) : State :=
  if s.flag R.PERM_HOST_CTRL_BUSY hub then
    ((s.put R.PERM_HOST_CTRL_BUSY 0 hub).set1 R.PERM_HOST_CTRL_DONE hub).put R.PERM_HOST_CTRL_STATUS stAborted hub
  else s

/-- R424: SETE instance 3 under COMPUTE: rewound, or ended with ABORTED. -/
def State.setReset (s : State) (hub : Nat) (replay : Bool) : State :=
  let m := s.mover hub 3
  let s := if replay then (s.giveBack seteQ hub 3 m.ctxs).putMover hub 3 { m with hand := none, held := [] }
    else s.setAbort hub (fun _ => true)
  s.unitStops hub 0x36 3 1 (fun _ => true)

/-- R424: an update engine outside COMMIT discards its prefetch, which it reads again; during COMMIT its run ends as R291
gives, in an entry that is not known. -/
def State.updReset (s : State) (die : Nat) : State :=
  match s.applying die with
  | none => s
  | some p =>
    let u := s.updSt die
    let (k, s) := s.tick
    let i := Config.free k 0 % max 1 u.entries.length
    match s.updRun p die u 0 (if u.accepted then u.entries.take i else []) with
    | .error (s, a, e) => (s.kronScratch die u).updFault p die e a
    | .ok s => (s.kronScratch die u).updFault p die (if u.accepted then u.entries.getD i [] else []) 0

/-- R424: engine reset of one unit of a closure. -/
def State.engineDown (s : State) (die : Nat) (replay : Bool) (x : Nat × Nat) : State :=
  if x.1 = 0x10 then (if s.lead die x.2 = x.2 then s.unitReset die x.2 replay else s)
  else if x.1 = 0x62 then s.updReset die
  else if x.1 = 0x35 then (s.nodeReset die 0x35 x.2).permReset die
  else if x.1 = 0x36 ∧ x.2 = 3 then (s.nodeReset die 0x36 3).setReset die replay
  else s.nodeReset die x.1 x.2

/-! ### Dies and halves reset (R422, R423) -/

/-- R10: a register at reset, with its STICKY fields kept. -/
def stickyKept (r : RegDef) (reset v : Nat) : Nat :=
  (r.fields.filter (·.sticky)).foldl (fun x f => setBits x f.lo f.width (bits v f.lo f.width)) reset

/-- R422: the registers of a die return to their reset values, but those of the blocks kept and STICKY fields. -/
def State.resetRegs (s : State) (die : Nat) (kept : Nat → Bool) : State :=
  { s with csr := s.csr.filterMap fun e =>
      if csrDie e.1 != die || kept (csrBlock e.1) then some e
      else
        match regAt e.1 with
        | some (r, i) =>
          let rst := regResetNat r die (csrInst e.1) i
          let v := stickyKept r rst e.2.toNat
          if v = rst then none else some (e.1, BitVec.ofNat 64 v)
        | none => none }

/-- R165, R167, R423: a die's cached copies are gone: writes that waited for them complete; and every copy of its own lines in
the other caches is invalidated. -/
def State.cacheGone (s : State) (die : Nat) : State :=
  let after := s.invWaits.map (fun (w : InvWait) => { w with dies := w.dies.filter (· != die) })
  let tags := ((after.filter (fun w => w.dies.isEmpty)).map (·.tag)).eraseDups
  let left := after.filter (fun w => !w.dies.isEmpty)
  let s := ((s.rlc.flatMap (·.2)).filter (fun l => addrDie l == die)).eraseDups.foldl (fun (s : State) l => s.dropLine l)
    { s with rlc := nerase die s.rlc }
  let s : State := { s with invWaits := left,
                            fills := s.fills.filter (fun f => f.die != die && addrDie f.line != die) }
  ((tags.filter (fun t => !(left.any (fun w => w.tag == t)))).foldl (fun (s : State) t => s.send (.mem t true 0 [])) s).refreshDir

/-- R423: a compute die goes into reset. Its work ends without record or signal; its DRAM is kept, its scratchpads are left
undefined, the next continuation of every queue is without its accumulators (R437), its registers return to reset; the ID block keeps showing what the stream in force gives, which its end applies
again (R425) and nothing can read meanwhile (R426). -/
def State.dieDown (s : State) (die : Nat) : State :=
  let s := s.stepOnDieReset die
  let ctxs := (s.mx.filter (fun e => e.1 / 32 == die)).flatMap (fun e => e.2.inHand.map (·.ctx)) ++
    (s.movers.filter (fun e => e.1 / 32 == die)).flatMap (fun e => e.2.ctxs)
  let s := ctxs.foldl (fun (s : State) c => s.ctxRelease c) s
  let s := s.cacheGone die
  let s := s.forgetSpans [(spadBase die 0, 0x08000000)]
  let s := (s.hold die).resetRegs die (fun b => b == 0)
  { s with
    mx := (List.range 32).foldl (fun l m => nset (die * 32 + m) { lost := List.range 64 } l) (s.mx.filter (fun e => e.1 / 32 != die))
    tiles := s.tiles.filter (fun e => e.1 / 64 != die)
    tbs := s.tbs.filter (fun e => e.1 / 256 != die)
    fmtCopy := s.fmtCopy.filter (fun e => e.1 / 4096 != die)
    mons := s.mons.filter (fun e => e.1 / (4096 * 72) != die)
    movers := s.movers.filter (fun e => e.1 / 32 != die)
    qcnt := s.qcnt.filter (fun e => e.1 / 4096 % 16 != die)
    arbs := s.arbs.filter (fun e => e.1 / 4096 != die)
    scrubAt := s.scrubAt.filter (fun e => e.1 / 8 != die)
    upds := nerase die s.upds
    hung := s.hung.filter (fun x => x.1 != die)
    quars := s.quars.filter (fun x => x.die != die) }

/-- R422: the blocks of a hub that its half domain leaves alone: of hub AM, ID, STREAM, CLK, PWR, RST, SEC, MGT and DBG. -/
def halfKeeps (hub block : Nat) : Bool := hub == 0 && [0x00, 0x01, 0x02, 0x03, 0x04, 0x07, 0x70, 0x71].contains block

/-- R423: a hub goes into reset with its half. -/
def State.hubDown (s : State) (hub : Nat) : State :=
  let s := s.redReset hub
  let s := (s.mover hub 3).ctxs.foldl (fun (s : State) c => s.ctxRelease c) s
  let s := s.forgetSpans [(hub * 2 ^ 44, 0x18000000)]
  let s : State := { s with held := if s.isHeld hub then s.held else s.held ++ [hub] }
  let s := s.resetRegs hub (fun b => b == 0 || halfKeeps hub b)   -- the ID block as for a die
  let s := if hub = 0 then [0, 1, 2, 3, 4].foldl (fun (s : State) k => s.stopClock 0 k) s else s
  let s : State := { s with
    movers := s.movers.filter (fun e => e.1 / 32 != hub)
    qcnt := s.qcnt.filter (fun e => e.1 / 4096 % 16 != hub)
    arbs := s.arbs.filter (fun e => e.1 / 4096 != hub)
    inodes := s.inodes.filter (fun e => e.1 / 256 != hub)
    stageQ := s.stageQ.filter (fun e => e.1 / 4096 != hub)
    bodies := s.bodies.filter (fun b => b.1 / 256 != hub)
    resv := nerase hub s.resv
    waitTx := s.waitTx.filter (fun e => e.1 / 32 != hub)
    seams := nerase hub s.seams
    hung := s.hung.filter (fun x => x.1 != hub)
    quars := s.quars.filter (fun x => x.die != hub) }
  if hub = 0 then
    let s : State := { s.closeAll.stepReset with
      qps := [], fences := [], cnpSent := [], cnpCut := [], latLayers := [], latScale := [], eth := { announced := s.eth.announced } }
    s.put R.CLK_FENCE_STATUS_OUTSTANDING 0 0
  else s

/-- R423: a half goes into reset. -/
def State.halfDown (s : State) (hub : Nat) : State :=
  (halfDies hub).foldl (fun (s : State) d => s.dieDown d) (s.hubDown hub)

/-- R73: STREAM_LOCAL shows again what STREAM_REGION holds. -/
def State.refreshLocal (s : State) (die : Nat) : State :=
  let again (s : State) (c : Nat) : State := s.setRegion c (s.region c)
  if isComp die then (again s die).put R.STREAM_LOCAL_STREAM_ID (s.get R.STREAM_REGION_LOAD_ID 0 0 die) die
  else if die = 1 then (again (again s 2) 0x11).put R.STREAM_LOCAL_STREAM_ID (s.get R.STREAM_REGION_LOAD_ID 0 0 2) 1
  else s

/-- R425: re-apply a region's settings, as last applied, on one die. -/
def State.reapply (s : State) (die c : Nat) : State := s.applyRegion c (ngetD s.recs c []) [die]

/-- R423, R425: a compute die leaves reset: clocks, weave, stacks, settings. -/
def State.dieBack (s : State) (die : Nat) : State :=
  let s := (s.release die).reapply die 0
  let s := ((s.reapply die die).trainStacks die []).weaveFirst die
  s.refreshLocal die

/-- R423, R425: a hub leaves reset. -/
def State.hubBack (s : State) (hub : Nat) : State :=
  let s := (s.release hub).reapply hub 0
  let s := (s.reapply hub (1 + hub)).reapply hub (0x10 + hub)
  let s := (s.loadUnits (0x10 + hub))
  let s := [0x20, 0x21, 0x22, 0x23].foldl (fun (s : State) c => s.reapply hub c) s
  let s := (s.seamAfterReset hub).refreshLocal hub
  if hub = 0 then ({ s.initContexts with eth := { s.eth with announcing := 1 } } : State).ethStart else s

/-! ### Midnight (R422, R423, R434) -/

/-- R434: midnight: every die but AON is reset, and Daybreak begins at step 2 (once EMRST_N is high). What AON holds
stays: RST_LAST, its clock, MODE, the parts' temperatures and the dies under a thermal trip. -/
def State.midnight (s : State) (cause : Nat) : State :=
  let s := s.installCut
  let n := s.get R.RST_LAST_COUNT 0 + 1
  let keep : List (Nat × Word) := s.csr.filter (fun e =>
    e.1 == R.CLK_DOMAIN.addr 0 0 clkAON || e.1 == R.CLK_COUNT.addr 0 0 clkAON)
  let t : State := {
    pending := s.pending, out := s.out, fresh := s.fresh, mem := s.mem, flash := s.flash, csr := keep,
    held := [1, 4, 5, 6, 7],
    aon := { powered := s.aon.powered, mode := s.aon.mode, step := 2, source := s.get R.STREAM_BOOT_NEXT_SOURCE 0,
             emrst := s.aon.emrst, lost100 := s.aon.lost100, lost156 := s.aon.lost156 },
    power := { temps := s.power.temps, tripped := s.power.tripped } }
  let t := (t.put R.RST_LAST_CAUSE cause 0).put R.RST_LAST_COUNT n 0
  let t := t.put R.PWR_INPUT_J20_MODE (b2n s.aon.mode) 0
  let t := if s.aon.hubTrip then
      hubs.foldl (fun (t : State) h => t.put R.PWR_ERROR_THERMAL_TRIP (s.get R.PWR_ERROR_THERMAL_TRIP h) h) t
    else t
  t.forgetSpans (hubs.map (fun h => (h * 2 ^ 44, 0x18000000)) ++ compDies.map (fun d => (spadBase d 0, 0x08000000)))

/-- EMERGENCY_RESET: EMRST_N low for 10 µs (R364, R434). -/
def emergencyResetEff (s : State) : State :=
  if s.aon.powered && !s.aon.lost100 then State.midnight { s with aon := { s.aon with emrst := true } } 2 else s

/-- EMRST_N_RELEASE: Daybreak follows as the input goes high (R364). -/
def emrstNReleaseEff (s : State) : State := { s with aon := { s.aon with emrst := false } }

/-- R429: AON cycles since the firmware was booted or last wrote KICK. -/
def State.sinceKick (s : State) : Nat := s.get R.CLK_COUNT_COUNT 0 0 clkAON - s.aon.kickAt

/-- R429: the firmware runs. -/
def State.fwRuns (s : State) : Bool := s.get R.SEC_STATUS_FW_SLOT 0 != 0

/-- RST_KICK. -/
def rstKickEff (s : State) : State := { s with aon := { s.aon with kickAt := s.get R.CLK_COUNT_COUNT 0 0 clkAON } }

/-- FW_WATCHDOG_EXPIRE: 50,000,000 AON cycles without a kick. -/
def fwWatchdogExpireEff (s : State) : State :=
  if s.fwRuns && decide (50000000 ≤ s.sinceKick) then s.midnight 3 else s

/-! ### Quarantine (R436) -/

/-- R436: the suspect in turn is served: only its queues at the unit have STOPPED cleared. -/
def State.quarServe (s : State) (x : Quar) : State :=
  match x.left with
  | c :: _ =>
    let s := (s.unitStops x.die x.block x.inst 1 (fun d => d != c)).unitStops x.die x.block x.inst 0 (fun d => d == c)
    (((s.put R.RST_REPLAY_STATE 1 x.die).put R.RST_REPLAY_CURRENT c x.die).put R.RST_REPLAY_RESULT 0 x.die)
  | [] => s

/-- R436: quarantine ends with a result. -/
def State.quarResult (s : State) (x : Quar) (guilty : Option Nat) : State :=
  let s : State := { s with quars := s.quars.filter (fun y => !(y.die == x.die && y.block == x.block && y.inst == x.inst)) }
  let s := s.unitStops x.die x.block x.inst 0 (fun c => guilty != some c)
  let r := if guilty.isSome then 1 else 2
  let s := (s.put R.RST_REPLAY_STATE 2 x.die).put R.RST_REPLAY_RESULT r x.die
  let s := match guilty with | some g => s.put R.RST_REPLAY_GUILTY g x.die | none => s
  s.faultNotice 9 x.die ((s.partOfDie x.die).getD 0xFF) x.block 0 x.inst (guilty.getD 0xFF) 0 r x.suspects

/-- R436: the next suspect's turn, or the end without recurrence. -/
def State.quarNext (s : State) (x : Quar) : State :=
  match x.left.drop 1 with
  | [] => s.quarResult x none
  | rest =>
    let y := { x with left := rest }
    ({ s with quars := s.quars.map (fun z => if z = x then y else z) } : State).quarServe y

/-- R436: are a context's queues at a unit empty or STOPPED, with nothing of it in hand? -/
def State.quarIdle (s : State) (x : Quar) (c : Nat) : Bool :=
  let idle (q : QRegs) (d i : Nat) : Bool := !s.flag q.enable d i c || s.flag q.stopped d i c || s.qLen q d i c == 0
  !(s.unitCtxs x.die x.block x.inst).contains c &&
  (if x.block = 0x10 then idle mxcQ x.die x.inst && (s.members x.die x.inst).all (fun m => idle spadQ x.die m.1)
   else idle seteQ x.die 3)

/-- QUARANTINE_TURN_END: the suspect's queues are empty or STOPPED. -/
def quarantineTurnEndEff (die inst : Nat) (s : State) : State :=
  match s.quars.find? (fun x => x.die == die && x.inst == inst) with
  | some x =>
    match x.left with
    | c :: _ => if s.quarIdle x c then s.quarNext x else s
    | [] => s
  | none => s

/-- REPLAY_WINDOW_EXPIRE: RST_REPLAY_WINDOW has passed in the suspect's turn. -/
def replayWindowExpireEff (die inst : Nat) (s : State) : State :=
  match s.quars.find? (fun x => x.die == die && x.inst == inst) with
  | some x => s.quarNext x
  | none => s

/-! ### The sequence (R430, R431) -/

/-- R448: RST_STATUS of every die that a sequence touches. -/
def State.showRst (s : State) (r : ResetSeq) (st : Nat) : State :=
  r.dies.foldl (fun (s : State) d =>
    let on := st != 0
    let s := (s.put R.RST_STATUS_STATE st d).put R.RST_STATUS_DOMAIN (if on then r.domain else 0) d
    let s := s.put R.RST_STATUS_BLOCK (if on && r.domain == 1 then r.block else 0) d
    let s := s.put R.RST_STATUS_INSTANCE (if on && r.domain == 1 then r.inst else 0) d
    s.put R.RST_STATUS_AUTO (b2n (on && r.auto)) d) s

/-- Replace a sequence. -/
def State.setSeq (s : State) (old new : ResetSeq) : State :=
  { s with resets := s.resets.map (fun r => if r = old then new else r) }

def State.dropSeq (s : State) (r : ResetSeq) : State := { s with resets := s.resets.filter (· != r) }

/-- R430: are the arbiters that a dusk has frozen all DRAINED? -/
def State.duskStill (s : State) : Bool :=
  s.arbs.all (fun e => !s.duskFrozen (e.1 / 4096) (e.1 % 4096) || s.arbDrained (e.1 / 4096) (e.1 % 4096))

/-- R430: are requests across the domain's edges, as far as the model holds them, answered? -/
def State.duskDry (s : State) (r : ResetSeq) : Bool :=
  r.domain == 1 || s.fills.all (fun f => !r.dies.contains f.die && !r.dies.contains (addrDie f.line))

/-- R432: is a die HELD: held outside any reset, with its region FAILED, and not for a thermal trip? -/
def State.heldFailed (s : State) (die : Nat) : Bool := s.isHeld die && s.dieFailed die && !s.power.tripped.contains die

/-- R430: dusk begins. -/
def State.duskBegin (s : State) (r : ResetSeq) : State :=
  let regions := if r.auto then r.regions ++ r.regionsIn.filter s.running else []
  let stuck := if r.domain = 2 then r.dies.filter s.heldFailed else []
  let s := s.setSeq r { r with stage := 2, regions := regions, stuck := stuck }
  let s := s.showRst r 2
  if r.domain = 1 then s
  else
    let s := s.fenceReset r.dies
    match s.dump with
    | some d => if r.dies.contains (addrDie s.dumpDest) then s.dumpEnd d rstDestFault 0 else s
    | none => s

/-- R438: is the dump in progress this sequence's? -/
def State.ownDump (s : State) (r : ResetSeq) : Bool :=
  match s.dump with | some d => d.domain == r.domain && d.dies == r.dumpDies | none => false

/-- One move of the sequences that wait for nothing from outside: the first in order of request that can begin, take its
dump, or enter dusk. -/
def State.resetMove (s : State) : State :=
  let free (r : ResetSeq) : Bool :=
    (s.resets.takeWhile (· != r)).all (fun q => !q.dies.any r.dies.contains)
  match s.resets.find? (fun r => (r.stage == 0 && free r) || (r.stage == 1 && !s.ownDump r && (!r.dump || s.dump.isNone))) with
  | none => s
  | some r =>
    if r.stage = 0 then
      if r.dump && !r.dumpDies.isEmpty then (s.setSeq r { r with stage := 1 }).showRst r 1
      else s.duskBegin r
    else if r.dump then
      (s.setSeq r { r with dump := false } |>.dumpBegin r.dumpDies r.cause r.domain r.block r.inst r.suspects).1
    else s.duskBegin r

/-- Move the sequences on until each waits, with fuel. -/
def State.resetPump : Nat → State → State
  | 0, s => s
  | k + 1, s => State.resetPump k s.resetMove

/-- As many moves as the sequences can make. -/
def State.pump (s : State) : State := State.resetPump (3 * s.resets.length) s

/-- R446: a reset is requested: sequences that it contains are absorbed, their dump or dusk going on as its own. -/
def State.resetAdd (s : State) (r : ResetSeq) : State :=
  let inner := s.resets.filter r.covers
  let s : State := { s with resets := s.resets.filter (fun q => !r.covers q) ++ [r] }
  let r' : ResetSeq := { r with forced := inner.foldl (fun n q => n + q.forced) r.forced }
  let s := s.setSeq r r'
  if inner.any (fun q => decide (q.stage ≥ 2)) then (s.duskBegin r').pump
  else if inner.any (fun q => q.stage == 1) then
    let s : State := match s.dump with
      | some d => { s with dump := some { d with domain := r.domain, dies := if d.domain = 0 then d.dies else r'.dumpDies } }
      | none => s
    ((s.setSeq r' { r' with stage := 1, dump := s.dump.isNone && (r.dump || inner.any (·.dump)) }).showRst r' 1).pump
  else s.pump

/-- R431, step 3: the reset is asserted. -/
def State.resetAssert (s : State) (r : ResetSeq) : State :=
  let s := (s.setSeq r { r with stage := 4 }).showRst r 4
  match r.domain with
  | 1 =>
    let s := r.units.foldl (fun (s : State) x => if r.guilty.isNone then s.quarEnd r.die x.1 x.2 else s) s
    (r.units.foldl (fun (s : State) x => s.engineDown r.die r.replay x) s).dropMasked
  | 2 => (s.dieDown r.die).dropMasked
  | 3 => (s.halfDown r.die).dropMasked
  | _ => s.midnight 1

/-- The sequence of a die at a stage. -/
def State.seqAt (s : State) (die : Nat) (p : ResetSeq → Bool) : Option ResetSeq :=
  s.resets.find? (fun r => r.dies.contains die && p r)

/-- DUSK_DRAINED: outstanding requests have been answered; FREEZE is set, and with every arbiter DRAINED the reset follows. -/
def duskDrainedEff (die : Nat) (s : State) : State :=
  match s.seqAt die (fun r => r.stage == 2 || r.stage == 3) with
  | none => s
  | some r =>
    if !s.duskDry r then s
    else
      let r' : ResetSeq := { r with stage := 3 }
      let s := (s.setSeq r r').showRst r' 3
      if s.duskStill then s.resetAssert r' else s

/-- DUSK_LIMIT: RST_DUSK_LIMIT has passed with requests still outstanding, or an arbiter not DRAINED. -/
def duskLimitEff (die outstanding : Nat) (s : State) : State :=
  match s.seqAt die (fun r => r.stage == 2 || r.stage == 3) with
  | none => s
  | some r =>
    let n := if r.stage = 2 then outstanding else 0
    let r' : ResetSeq := { r with stage := 3, forced := r.forced + n }
    let s : State := { s with fills := s.fills.filter (fun f => r.domain == 1 || (!r.dies.contains f.die && !r.dies.contains (addrDie f.line))) }
    (((s.setSeq r r').count R.RST_DUSK_FORCED_COUNT n die).showRst r' 3).resetAssert r'

/-- R431, step 7: the sequence ends, and every die it touched counts it. -/
def State.resetEnd (s : State) (r : ResetSeq) : State :=
  let s := r.dies.foldl (fun (s : State) d => s.count R.RST_RESETS_COUNT 1 d) ((s.dropSeq r).showRst r 0)
  let part := if isComp r.die then (s.partOfDie r.die).getD 0xFF else 0xFF
  s.faultNotice 8 r.die part r.block r.domain r.inst 0xFF 0 r.forced 0

/-- An engine reset is released: its units serve again, in quarantine after a rewind (R436). -/
def State.engineBack (s : State) (r : ResetSeq) : State :=
  let s : State := { s with hung := s.hung.filter (fun x => !(x.1 == r.die && r.units.contains (x.2.1, x.2.2.1))) }
  let s := s.resetEnd r
  match s.quars.find? (fun x => x.die == r.die && x.block == r.block && x.inst == r.inst), r.guilty with
  | some x, some g => s.quarResult x (some g)
  | _, _ =>
    if r.replay then
      let x : Quar := { die := r.die, block := r.block, inst := r.inst, suspects := r.suspects,
                        left := (List.range 64).filter (bit r.suspects) }
      ({ s with quars := s.quars ++ [x] } : State).quarServe x
    else s

/-- Dies released at the end of a reset: `fails` holds those where a failure of R413 occurs; a die under a thermal trip
returns as R360 lets it; a die HELD before stays HELD but for a larger reset (R432). -/
def State.diesBack (s : State) (r : ResetSeq) (fails : List Nat) : State :=
  let s : State := { s with power := { s.power with tripped := s.power.tripped.filter (fun d => !r.dies.contains d || r.stuck.contains d) } }
  let s := if r.domain = 3 then (if r.die = 1 && fails.contains 1 then s.failHeld 1 else s.hubBack r.die) else s
  (r.dies.filter isComp).foldl (fun (s : State) d =>
    if (s.isHeld 1 && hubOf d == 1) || s.power.tripped.contains d then s
    else if fails.contains d || r.stuck.contains d then s.failHeld d
    else s.dieBack d) s

/-- R431, step 7: the sequences whose regions have all been started end. -/
def State.startsDone (s : State) : State :=
  ((s.resets.filter (fun r => r.stage == 5 && !r.regions.any s.starts.contains)).foldl (fun (s : State) r => s.resetEnd r) s).pump

/-- R60, R74: the regions of a sequence's domain as its reset ends. -/
def State.regionsReset (s : State) (r : ResetSeq) : State := r.regionsIn.foldl (fun (s : State) c => s.regionAfterReset c) s

/-- REGION_UNITS_INITIALISED (R60). -/
def regionUnitsInitialisedEff (c : Nat) (ok : Bool) (s : State) : State :=
  if regionKnown c && s.region c == 4 && !s.regionHeld c then ((s.unitsInitialised c ok).issueStarts []).startsDone else s

/-- RESET_RELEASED: a sequence passes step 4; its regions are STOPPED, settings are re-applied and, after a reset that the module
began, the regions that were running start (R60, R431). `fails`: dies of which a unit failed. -/
def resetReleasedEff (die : Nat) (fails : List Nat) (s : State) : State :=
  match s.seqAt die (fun r => r.stage == 4) with
  | none => s
  | some r =>
    if r.domain = 1 then (s.engineBack r).pump
    else
      let s := (s.regionsReset r).diesBack r fails
      let r' : ResetSeq := { r with stage := 5 }
      (((s.setSeq r r').showRst r' 5).issueStarts (startOrder.filter r.regions.contains)).startsDone

/-- R432: the next larger domain that the module may reset on its own: never a half AM, never the module. -/
def State.nextDomain (s : State) (r : ResetSeq) : Option ResetSeq :=
  let m := s.get R.RST_POLICY_MAX_AUTO 0
  if r.domain = 1 ∧ isComp r.die ∧ 2 ≤ m then some { domain := 2, die := r.die, auto := true, cause := r.cause, forced := r.forced }
  else if ((r.domain = 1 ∧ r.die = 1) ∨ (r.domain = 2 ∧ hubOf r.die = 1)) ∧ 3 ≤ m then
    some { domain := 3, die := 1, auto := true, cause := r.cause, forced := r.forced,
           regions := r.regions }
  else none

/-- RESET_ESCALATE: a sequence has not passed step 4 within 10 ms of the end of dusk (R432). -/
def resetEscalateEff (die : Nat) (s : State) : State :=
  match s.seqAt die (fun r => r.stage == 4 && decide (r.domain ≤ 3)) with
  | none => s
  | some r =>
    match s.nextDomain r with
    | some q =>
      let part := if isComp die then (s.partOfDie die).getD 0xFF else 0xFF
      let s := s.faultNotice 0xA r.die part r.block 0 r.inst 0xFF 0 q.domain 0
      let q := { q with regions := if r.auto then r.regions else [] }
      ({ s with resets := s.resets.filter (fun x => !q.covers x) ++ [q] } : State).duskBegin q |>.pump
    | none =>
      let s := ((s.dropSeq r).showRst r 6).regionsReset r
      let s := if r.domain = 3 && r.die = 1 then s.failHeld 1 else (r.dies.filter isComp).foldl (fun (s : State) d => s.failHeld d) s
      (s.issueStarts []).startsDone

/-! ### Watchdogs (R427, R428) -/

/-- R427: is a unit watched? -/
def State.watched (s : State) (die block inst : Nat) : Bool :=
  if block = 0x10 then
    isComp die && decide (inst < 32) && s.lead die inst == inst && !(s.unitCtxs die 0x10 inst).isEmpty
  else if block = 0x62 then isComp die && (s.applying die).isSome
  else if block = 0x36 ∧ inst = 3 ∧ (s.mover die 3).hand.isSome then isHub die
  else isHub die && engineBlocks.contains block && s.engineState die block inst == 1

/-- The mask of a list of contexts. -/
def ctxMask (l : List Nat) : Nat := l.eraseDups.foldl (fun n c => n + 2 ^ c) 0

/-- R427, R428: a unit is hung already, or in a reset sequence. -/
def State.unitHeld (s : State) (die block inst : Nat) : Bool :=
  s.hung.any (fun x => x.1 == die && x.2.1 == block && x.2.2.1 == inst) ||
  s.resets.any (fun r => r.dies.contains die && (r.domain != 1 || r.units.contains (block, inst)))

/-- WATCHDOG_EXPIRE: a watched unit makes no progress for RST_WDOG.LIMIT. -/
def watchdogExpireEff (die block inst : Nat) (s : State) : State :=
  if s.get R.RST_WDOG_LIMIT die = 0 || !s.watched die block inst || s.unitHeld die block inst || s.isHeld die then s
  else
    let mask := ctxMask (s.unitCtxs die block inst)
    let s : State := { s with hung := s.hung ++ [(die, block, inst, mask)] }
    let s := if s.flag R.RST_HANG_VALID die then s.set1 R.RST_HANG_MORE die
      else ((s.put R.RST_HANG_BLOCK block die).put R.RST_HANG_INSTANCE inst die).set1 R.RST_HANG_VALID die
    let s := (s.put R.RST_SUSPECTS_MASK mask die).count R.RST_HANGS_COUNT 1 die
    let part := if isComp die then (s.partOfDie die).getD 0xFF else s.partOfEngine die block inst
    let s := s.faultNotice 1 die part block 0 inst 0xFF 0 mask 0
    if s.get R.RST_POLICY_MAX_AUTO 0 = 0 then s
    else
      let guilty := (s.quars.find? (fun x => x.die == die && x.block == block && x.inst == inst)).bind (fun x => x.left.head?)
      s.resetAdd { domain := 1, die := die, block := block, inst := inst, auto := true,
                   dump := s.flag R.RST_POLICY_DUMP_ON_HANG 0 && guilty.isNone,
                   replay := s.flag R.RST_POLICY_REPLAY 0 && mask != 0 && guilty.isNone,
                   suspects := mask, cause := 1, guilty := guilty, units := s.closure die block inst }

/-! ### OCT RESET (R433, R434) -/

/-- R360: the temperatures of a die's parts, as last measured. -/
def State.partTemps (s : State) (die : Nat) : List Nat :=
  (die :: (List.range 8).map (fun i => 64 + 8 * die + i)).map (fun k => ngetD s.power.temps k 0)

/-- R360, R433: is a die under a thermal trip still too hot to return? -/
def State.hot (s : State) (dies : List Nat) : Bool :=
  dies.any fun d => s.power.tripped.contains d && (s.partTemps d).any (fun t => decide (85 < t))

/-- R433, step 1: is the TARGET of the form that its domain needs? -/
def resetForm (domain target : Nat) : Bool :=
  match domain with
  | 1 => decide (target < 2 ^ 40) && target % 8 == 0
  | 2 => compDies.any (fun d => target == d * 2 ^ 36)
  | 3 => hubs.any (fun d => target == d * 2 ^ 36)
  | 4 => target == 0
  | _ => false

/-- R433, step 3: is the target present and not excluded? -/
def State.resetThere (s : State) (domain target : Nat) : Bool :=
  let die := csrDie target
  match domain with
  | 1 => (regAt target).isSome && !s.excluded die &&
      (!(isComp die && decide (0x10 ≤ csrBlock target) && decide (csrBlock target ≤ 0x12)) || s.coreOk die (csrInst target)) &&
      (!((csrBlock target == 0x20) || (csrBlock target == 0x21)) || (s.stacks die).contains (csrInst target))
  | 2 => !s.excluded die
  | _ => true

/-- The sequence that an OCT RESET asks for. -/
def State.resetSeqOf (s : State) (domain target : Nat) (dump : Bool) : ResetSeq :=
  let die := csrDie target
  let b := csrBlock target
  let i := if b = 0x10 then s.lead die (csrInst target) else csrInst target
  if domain = 1 then
    { domain := 1, die := die, block := b, inst := i, dump := dump,
      replay := s.flag R.RST_POLICY_REPLAY 0 && (b == 0x10 || (b == 0x36 && i == 3)) && s.get R.RST_SUSPECTS_MASK die != 0,
      suspects := s.get R.RST_SUSPECTS_MASK die, units := s.closure die b i }
  else { domain := domain, die := die, dump := dump }

/-- R433: the status of a RESET request: 0, or the first check that it fails. -/
def State.resetCheck (s : State) (q : OctReq) : Nat :=
  let b := q.hdr.payload
  let domain := fieldAt b 0 1
  let flags := fieldAt b 1 1
  let r := s.resetSeqOf domain q.hdr.target (bit flags 0)
  if !resetForm domain q.hdr.target || decide (flags > 1) || fieldAt b 2 6 != 0 || (domain == 4 && flags != 0) then rstBadDomain
  else if domain ≠ 4 ∧ !s.daybreakDone then rstNotRunning
  else if !s.resetThere domain q.hdr.target then rstExcluded
  else if domain = 1 ∧ !engineBlocks.contains r.block then rstNoEngine
  else if s.resets.any (fun x => decide (1 ≤ x.stage) && x.covers r) then rstBusy
  else if (domain = 2 ∨ domain = 3) ∧ s.hot r.dies then rstHot
  else 0

/-- OCT RESET: refused, or answered and then begun. -/
def State.resetReq (s : State) (q : OctReq) : State :=
  let st := s.resetCheck q
  if st ≠ 0 then s.octAnswer q octRefused 6 st
  else
    let domain := fieldAt q.hdr.payload 0 1
    let r := s.resetSeqOf domain q.hdr.target (bit (fieldAt q.hdr.payload 1 1) 0)
    (s.octAnswer q octOk).resetAdd r

/-! ### Dumps and sequences (R438) -/

/-- DUMP_DONE: every bank and window has been read and written. -/
def dumpDoneEff (s : State) : State :=
  match s.dump with
  | some d => (s.dumpFinish d).pump
  | none => s

/-- DEBUG_RING_TIMEOUT: a write of the dump, or its read of a bank, has no answer for 10 µs. -/
def debugRingTimeoutEff (write : Bool) (die bank : Nat) (s : State) : State :=
  match s.dump with
  | some d => if write then (s.dumpWriteTimeout d).pump else if d.dies.contains die && decide (bank < 1024) then s.dumpBankTimeout d die bank else s
  | none => s

/-- DUMP_ON_DEMAND: a write of GO to DBG_DUMP_CTRL, with the dies of its mask. -/
def dumpOnDemandEff (mask : Nat) (s : State) : State :=
  let s := s.put R.DBG_DUMP_CTRL_DIES mask 0
  if s.dump.isSome then s
  else (s.dumpBegin (compDies.filter (fun d => bit mask (d - 4))) 0 0 0 0 0).1

end Sys2Proof.Machine
end

