-- ==== Sys2Proof/Machine/Power.lean ====
section
/-!
DEFINITION. Power, throttling, temperature and coolant (R355 to R361).
-/

namespace Sys2Proof.Machine

/-! ### Throttle levels (R355, R358, R359) -/

def State.capLevel (s : State) : Nat := s.get R.PWR_INPUT_CAP_LEVEL 0

/-- R359: the level ordered for each compute die: the greatest of C, its thermal level and the floor of R355. A die
excluded or held takes none. -/
def State.setLevels (s : State) : State :=
  { s with power := { s.power with target := compDies.map fun d =>
      (d, if s.excluded d || s.isHeld d then 0
          else max (max s.capLevel (ngetD s.power.thermal d 0)) (if s.power.vinFloor then 8 else 0)) } }

/-- R361: C as set, and no lower than 8 while the coolant's condition holds. -/
def State.setCap (s : State) (c : Nat) : State :=
  (s.put R.PWR_INPUT_CAP_LEVEL (if s.power.coolant then max c 8 else c) 0).setLevels

/-- THROTTLE_STEP: a change of level reaches the cores one step per 64 MX cycles. -/
def throttleStepEff (die : Nat) (s : State) : State :=
  if !isComp die || s.excluded die || s.isHeld die then s
  else
    let l := s.get R.PWR_STATUS_LEVEL die
    let t := ngetD s.power.target die 0
    let n := if l < t then l + 1 else if t < l then l - 1 else l
    (s.put R.PWR_STATUS_LEVEL n die).put R.PWR_STATUS_THROTTLING (b2n (n != 0)) die

/-! ### The input (R355, R407) -/

/-- POWER_LOST: every die, AON included, loses power; flash and fuses keep what they hold. -/
def powerLostEff (s : State) : State :=
  if !s.aon.powered then s
  else
    let s := s.installCut
    { pending := s.pending, out := s.out, fresh := s.fresh, flash := s.flash, held := [1, 4, 5, 6, 7] }

/-- VIN_SAMPLE: the voltage at J1 in units of 10 mV, measured every 10 µs. -/
def vinSampleEff (v : Nat) (s : State) : State :=
  if !s.aon.powered then s
  else if 8200 < v then powerLostEff s
  else if v < 6000 ∧ 9 ≤ s.power.low then powerLostEff s
  else
    let s := s.put R.PWR_INPUT_VIN v 0
    let s := if v < 6600 then s.set1 R.PWR_ERROR_VIN_LOW 0 else if 7800 < v then s.set1 R.PWR_ERROR_VIN_HIGH 0 else s
    ({ s with power := { s.power with vinFloor := decide (v < 6600) || decide (7800 < v),
                                      low := if v < 6000 then s.power.low + 1 else 0 } } : State).setLevels

/-! ### The power cap (R359) -/

/-- POWER_READING: the input power, and its average over the last 100 ms, read every 10 µs. -/
def powerReadingEff (watts average : Nat) (s : State) : State :=
  if !s.runs 0 5 then s
  else
    let s := (s.put R.PWR_INPUT_PIN watts 0).put R.PWR_INPUT_PIN_AVG average 0
    let past := if s.get R.PWR_LIMITS_CAP 0 < watts then s.power.past + 1 else 0
    let exc := decide (6600 < watts) || decide (200 ≤ past)
    let s : State := { s with power := { s.power with past := past, exc := exc } }
    if exc then (s.set1 R.PWR_ERROR_EXCURSION 0).setCap 12 else s

/-- R359: C at a 1 ms boundary; an excursion in the same reading wins. -/
def State.capStep (s : State) : State :=
  let a := s.get R.PWR_INPUT_PIN_AVG 0
  let cap := s.get R.PWR_LIMITS_CAP 0
  let c := s.capLevel
  if s.power.exc then s.setCap 12
  else if cap < a then (s.set1 R.PWR_ERROR_POWER_CAP 0).setCap (min 12 (c + 1))
  else if 100 * a < 95 * cap then s.setCap (c - 1)
  else s.setCap c

/-! ### Temperatures (R360) -/

/-- Keys of the temperatures: a die's code, and 64 + 8 die + position for a stack. -/
def stackPart (die i : Nat) : Nat := 64 + 8 * die + i

/-- R365, R176: TEMP of the dies and stacks, as far as they run. -/
def State.showTemps (s : State) (temps : List (Nat × Nat)) : State :=
  temps.foldl (fun (s : State) x =>
    let s : State := { s with power := { s.power with temps := nset x.1 x.2 s.power.temps } }
    if x.1 < 64 then (if isDie x.1 && !s.isHeld x.1 then s.put R.PWR_STATUS_TEMP x.2 x.1 else s)
    else
      let d := (x.1 - 64) / 8
      let i := (x.1 - 64) % 8
      if isComp d && !s.isHeld d && (s.stacks d).contains i then
        (s.put R.HBMC_STATUS_TEMP x.2 d i).put R.HBMC_STATUS_HOT (b2n (decide (85 < x.2))) d i
      else s) s

/-- R360: a compute die's thermal level at a 1 ms boundary. -/
def State.thermalStep (s : State) (die : Nat) : State :=
  if s.excluded die || s.isHeld die then { s with power := { s.power with thermal := nerase die s.power.thermal } }
  else
    let limit := s.get R.PWR_CFG_THROTTLE_TEMP die
    let td := ngetD s.power.temps die 0
    let ts := (s.stacks die).map (fun i => ngetD s.power.temps (stackPart die i) 0)
    let l := ngetD s.power.thermal die 0
    let up := decide (limit ≤ td) || ts.any (fun t => decide (95 ≤ t))
    let down := decide (td + 5 ≤ limit) && ts.all (fun t => decide (t ≤ 90))
    let n := if up then min 12 (l + 1) else if down then l - 1 else l
    let s : State := { s with power := { s.power with thermal := nset die n s.power.thermal } }
    if up then s.set1 R.PWR_ERROR_THERMAL_THROTTLE die else s

/-- POWER_MS_BOUNDARY: C, and every thermal level, at a 1 ms boundary, with the temperatures measured. -/
def powerMsBoundaryEff (temps : List (Nat × Nat)) (s : State) : State :=
  if !s.runs 0 5 then s
  else
    let s := s.showTemps temps
    let s := compDies.foldl (fun (s : State) d => s.thermalStep d) s
    s.capStep

/-- R360: a hub trips: every die but AON loses power. -/
def State.hubTrip (s : State) (hub : Nat) : State :=
  let s := s.installCut
  let keep : List (Nat × Word) := s.csr.filter (fun e =>
    e.1 == R.CLK_DOMAIN.addr 0 0 clkAON || e.1 == R.CLK_COUNT.addr 0 0 clkAON || e.1 == R.RST_LAST.addr 0 0 0)
  let t : State := {
    pending := s.pending, out := s.out, fresh := s.fresh, flash := s.flash, csr := keep, held := [1, 4, 5, 6, 7],
    aon := { powered := true, mode := s.aon.mode, emrst := s.aon.emrst, lost100 := s.aon.lost100, lost156 := s.aon.lost156,
             hubTrip := true },
    power := { temps := s.power.temps, tripped := s.power.tripped } }
  (t.set1 R.PWR_ERROR_THERMAL_TRIP hub).forgetAll

/-- R360, R446: a compute die, or one of its stacks, trips: the die loses its rails and is held as a die in reset. -/
def State.dieTrip (s : State) (die temp : Nat) : State :=
  let daybreak := !s.daybreakDone && decide (5 ≤ s.aon.step) && decide (s.aon.step ≤ 7)
  let step := s.aon.step
  let part := (s.partOfDie die).getD 0xFF
  let size := s.homeSize die
  let s : State := { s with
    power := { s.power with temps := nset die temp s.power.temps,
                            tripped := if s.power.tripped.contains die then s.power.tripped else s.power.tripped ++ [die] }
    resets := (s.resets.filter (fun r => !(decide (r.domain ≤ 2) && r.die == die))).map
      (fun r => if r.dies.contains die then { r with stuck := die :: r.stuck } else r) }
  let s := (s.set1 R.PWR_ERROR_THERMAL_TRIP die).faultNotice 5 die part 3 0 0 0xFF 0 temp 0
  let s := (s.dieDown die).forgetSpans [(die * 2 ^ 44, size)]
  let s := (s.put R.PWR_STATUS_TRIPPED 1 die).put R.PWR_STATUS_POWERED 0 die
  let s := if daybreak then s.failDie die step else s.regionAfterReset die
  s.dropMasked.setLevels.pump

/-- THERMAL_TRIP: a part of the die is at 105 °C. -/
def thermalTripEff (die temp : Nat) (s : State) : State :=
  if temp < 105 || !s.aon.powered then s
  else if isHub die then s.hubTrip die
  else if isComp die && !s.excluded die && !s.power.tripped.contains die then s.dieTrip die temp
  else s

/-! ### Coolant (R361) -/

def State.showCoolant (s : State) (tIn tOut flow : Nat) : State :=
  ((s.put R.PWR_COOLANT_T_IN tIn 0).put R.PWR_COOLANT_T_OUT tOut 0).put R.PWR_COOLANT_FLOW flow 0

/-- R361: flow (in 0.01 L/min) below 5 L/min, or an inlet above 40 °C. -/
def coolantBad (tIn flow : Nat) : Bool := decide (flow < 500) || decide (40 < tIn)

/-- COOLANT_FAULT. -/
def coolantFaultEff (tIn tOut flow : Nat) (s : State) : State :=
  let s := s.showCoolant tIn tOut flow
  if !coolantBad tIn flow then s
  else
    let s := if flow < 500 then s.set1 R.PWR_ERROR_FLOW_LOW 0 else s
    let s := if 40 < tIn then s.set1 R.PWR_ERROR_COOLANT_HOT 0 else s
    ({ s with power := { s.power with coolant := true } } : State).setCap s.capLevel

/-- COOLANT_CLEAR: the condition has been clear for 1 s. -/
def coolantClearEff (tIn tOut flow : Nat) (s : State) : State :=
  let s := s.showCoolant tIn tOut flow
  if coolantBad tIn flow then s else { s with power := { s.power with coolant := false } }

end Sys2Proof.Machine
end

