-- ==== Sys2Proof/Machine/Access.lean ====
section
/-!
DEFINITION. Control-register accesses: the route to a register (R29, R30, R426), whether it exists (R8, R31, R34, R318),
reads (R9, R15), and writes with the rules of each block.
-/

namespace Sys2Proof.Machine

/-! ### Does the register exist, and can it be reached? -/

/-- R318: the ARB registers of an instance: index below its requesters, counters without FREEZE, ARB_FREEZE with it. -/
def arbRegOk (die inst : Nat) (r : RegDef) (i : Nat) : Bool :=
  let frz := arbHasFreeze ((arbType die inst).getD 0)
  if r = R.ARB_REQ_CFG then decide (i < arbCount die inst)
  else if r = R.ARB_GRANTS ∨ r = R.ARB_WAIT ∨ r = R.ARB_LONGEST then !frz && decide (i < arbCount die inst)
  else if r = R.ARB_FREEZE then frz
  else true

/-- R8, R31, R34: the register at an address, if one exists there now. -/
def State.regHere (s : State) (a : Nat) : Option (RegDef × Nat) :=
  let die := csrDie a
  match regAt a with
  | none => none
  | some (r, i) =>
    if s.excluded die && !([0x00, 0x03, 0x06].contains r.block) then none
    else if r.block = 0x05 && !arbRegOk die (csrInst a) r i then none
    else if r = R.STREAM_REGION && !regionCodes.contains i then none
    else if (r = R.CLK_DOMAIN ∨ r = R.CLK_COUNT) && decide ((clkDoms die).length ≤ i) then none
    else some (r, i)

/-- R423, R426: is the block in a domain that is in reset, or for an OCT access (`oct`) in dusk? Hub AM keeps the blocks
that its half domain leaves alone. -/
def State.blockReset (s : State) (oct : Bool) (a : Nat) : Bool :=
  let die := csrDie a
  let block := csrBlock a
  let inst := csrInst a
  let core := if block = 0x11 ∨ block = 0x12 then 0x10 else block
  (if oct then s.inReset die else s.isHeld die) && !halfKeeps die block ||
  (s.resets.any fun r => decide ((if oct then 2 else 4) ≤ r.stage) && r.domain == 1 && r.die == die && r.units.contains (core, inst))

/-- R8, R29, R30: 0 where an access reaches a register, or the status of its answer (R380). -/
def State.accessStatus (s : State) (oct : Bool) (a : Nat) : Nat :=
  let die := csrDie a
  if a % 8 ≠ 0 ∨ 2 ^ 40 ≤ a ∨ !isDie die then octNoRegister
  else if s.blockReset oct a then octInReset
  else if die ≠ 0 && !s.reach die then octUnreachable
  else if (s.regHere a).isNone then octNoRegister
  else octOk

/-! ### Units whose registers stand still -/

/-- R34, R316: does the register belong to an excluded core, stack or peer port? Its reads give reset values, and writes do
nothing. -/
def State.unitOut (s : State) (die block inst : Nat) : Bool :=
  s.flag R.ID_DIE_PARTITION_VALID die &&
  (match block with
   | 0x10 | 0x11 | 0x12 => !s.coreIn die inst
   | 0x20 | 0x21 => !s.stackIn die inst
   | 0x05 =>
     if isComp die then
       (if inst < 0x400 then !s.coreIn die (inst / 32) else if inst < 0x500 then !s.stackIn die ((inst - 0x400) / 32) else false)
     else decide (0x50 ≤ inst) && !s.portIn (8 * die + (inst - 0x50))
   | _ => false)

/-- R126, R246, R271: registers of a channel away from its home hub, and of a partition that does not exist. -/
def State.regIdle (s : State) (die inst : Nat) (r : RegDef) (i : Nat) : Bool :=
  (r.block = 0x61 && s.chanHome inst != die && r != R.RED_WEAVE_BYTES) ||
  (r.block = 0x63 && r.count = 4 && decide (s.parts ≤ i)) ||
  (r.block = 0x06 && r.count = 4 && !(s.partHubs i).contains die)

/-! ### Reads (R7, R9) -/

/-- Bits of a register's fields of an access code. -/
def accMask (r : RegDef) (p : Acc → Bool) : List FieldDef := r.fields.filter (fun f => p f.acc)

/-- Set one field of a 64-bit value. -/
def withField (v : Nat) (f : Fld) (x : Nat) : Nat := setBits v f.lo f.width x

/-- R124, R126: does the loss scale run, as its register shows it: under LSCALE_EN as latched at the last FORWARD? -/
def State.lscaleShown (s : State) (p : Nat) : Bool := s.compat16 p || bit (ngetD s.steps p {}).fmtCfg 14

/-- The 64 bits a read returns, before the fields that clear are cleared. -/
def State.regShown (s : State) (die inst : Nat) (r : RegDef) (i : Nat) : Nat :=
  let v := s.rd r die inst i
  if 0x30 ≤ r.block ∧ r.block ≤ 0x36 ∧ r.off = 0 then s.engineStatus die r.block inst
  else if r = R.RED_CH_STATUS then s.chanStatus die inst
  else if r = R.MXC_STATUS then withField v R.MXC_STATUS_PAUSED (b2n (s.mxcPaused die inst))
  else if r = R.ARB_REQ_CFG then withField v R.ARB_REQ_CFG_MASKED (b2n (s.masked die inst i))
  else if r = R.ARB_FREEZE then
    withField (withField v R.ARB_FREEZE_FREEZE (b2n (s.frozen die inst))) R.ARB_FREEZE_DRAINED (b2n (s.arbDrained die inst))
  else if r = R.STEP_LSCALE ∧ !s.lscaleShown i then 0x3F800000
  else v

/-- Is the count one that the rows leave open (words and flits carried by a weave or the seam)? -/
def openCount (r : RegDef) : Bool :=
  r == R.WEAVE_TX_WORDS || r == R.WEAVE_RX_WORDS || r == R.SEAM_TX_FLITS || r == R.SEAM_RX_FLITS

/-- R60: RWL fields of a region whose load met a hardware fault are undefined. -/
def State.fogged (s : State) (die block inst : Nat) : Bool :=
  match regionOf die block inst with | some c => s.fog.contains c | none => false

/-- R9: a read: the value, and the state with RC fields cleared (ARB_LONGEST holds the current run, R315). -/
def State.regRead (s : State) (a : Nat) : State × Nat :=
  let die := csrDie a
  let inst := csrInst a
  match s.regHere a with
  | none => (s, 0)
  | some (r, i) =>
    let rst := regResetNat r die inst i
    if s.unitOut die r.block inst then
      (s, if r = R.HBMC_STATUS then withField rst R.HBMC_STATUS_EXCLUDED 1 else rst)
    else if s.regIdle die inst r i then (s, if r.block = 0x06 then 0 else rst)
    else if openCount r then
      let (k, s) := s.tick
      (s, Config.free k a % 2 ^ 48)
    else
      let v := s.regShown die inst r i
      let (v, s) :=
        if s.fogged die r.block inst && r.fields.any (fun f => f.acc == .rwl) then
          let (k, s) := s.tick
          ((accMask r (· == .rwl)).foldl (fun v f => setBits v f.lo f.width (Config.free k (f.lo))) v, s)
        else (v, s)
      let shown := (accMask r (· == .wo)).foldl (fun v f => setBits v f.lo f.width 0) v
      let s :=
        if r.fields.any (fun f => f.acc == .rc) then
          if r = R.ARB_LONGEST then s.put R.ARB_LONGEST_CYCLES (min 0xFFFFFF (ngetD (s.arb die inst).runs i 0)) die inst i
          else s.wr r die inst i ((accMask r (· == .rc)).foldl (fun v f => setBits v f.lo f.width 0) v)
        else s
      (s, shown)

/-! ### Writes (R9, R12) -/

/-- The answer of a write: status, detail source, detail (R380). -/
abbrev WAns := Nat × Nat × Nat
def wOk : WAns := (0, 0, 0)
def wRefused (src st : Nat) : WAns := if st = 0 then wOk else (octRefused, src, st)

/-- R9: what a write makes of one field's bits. -/
def fieldWrite (old v : Nat) (f : FieldDef) : Nat :=
  let o := bits old f.lo f.width
  let n := bits v f.lo f.width
  match f.acc with
  | .rw | .rwl => n
  | .w1c => o &&& (2 ^ f.width - 1 - n)
  | .w1s => o ||| n
  | _ => o

/-- R12: a write acts on each field according to its own code. -/
def regMerge (r : RegDef) (old v : Nat) : Nat :=
  r.fields.foldl (fun x f => setBits x f.lo f.width (fieldWrite old v f)) old

def State.plainWrite (s : State) (die inst : Nat) (r : RegDef) (i v : Nat) : State :=
  s.wr r die inst i (regMerge r (s.rd r die inst i) v)

/-- R71, R72: does a register hold an RWL field? Every write to it is then judged, whatever it carries (log 12). -/
def hasRwl (r : RegDef) : Bool := r.fields.any (fun f => f.acc == .rwl)

/-- R71, R72: may RWL fields of a region be written? -/
def State.rwlOpen (s : State) (c : Nat) : Bool :=
  if c = 0 then !s.flag R.STREAM_STATUS_GLOBAL_APPLIED 0 else s.region c == 2

/-- R72: a rejected RWL write is counted; R73: an accepted one is marked. -/
def State.rwlReject (s : State) : State := s.countSat R.STREAM_RWL_REJECTS_COUNT 1 0
def State.rwlAccept (s : State) (c : Nat) : State :=
  (s.set1 R.STREAM_STATUS_CSR_MODIFIED 0).put R.STREAM_REGION_MODIFIED 1 0 0 c

/-- R60, R81, R84, R155, R222, R249, R384: a write of a queue's tail. `hctx`: for a reduction ring, the CONTEXT of the header
it came with, if any (R383). -/
def State.tailWrite (s : State) (q : QRegs) (die inst c v : Nat) (hctx : Option Nat) : State × WAns :=
  let region := if q.block = 0x61 then 0x20 + inst / 8 else if q.block = 0x36 then 0x10 + die else die
  let ctxShut := if q.block = 0x61 then (match hctx with | some h => decide (63 < h) || !s.ctxOpen h | none => false) else !s.ctxOpen c
  if q.block = 0x36 && s.seteIngest die then (s, wRefused 1 0x1D)
  else if ctxShut then (s, (octCtxNotOpen, 0, 0))
  else if !s.running region then (s, wRefused 1 0x1E)
  else if q.block = 0x10 ∧ s.lead die inst ≠ inst then (s.set1 R.MXC_ERROR_FUSED_DOORBELL die inst, wOk)
  else (s.qWriteTail q die inst c v, wOk)

/-- R84, R104, R211: a write to a queue register. -/
def State.queueWrite (s : State) (q : QRegs) (die inst : Nat) (r : RegDef) (c v : Nat) (hctx : Option Nat) : State × WAns :=
  if q.block = 0x36 && s.seteIngest die then (s, wRefused 1 0x1D)
  else if r = q.tail.reg then s.tailWrite q die inst c v hctx
  else if r = q.enable.reg then (s.qWriteCfg q die inst c v, wOk)
  else if r = q.base.reg then (s.qWriteBase q q.base die inst c v, wOk)
  else if r = q.cqbase.reg then (s.qWriteBase q q.cqbase die inst c v, wOk)
  else (s.plainWrite die inst r c v, wOk)

/-- R215: a write to a PERM_HOST register. -/
def State.permWrite (s : State) (hub : Nat) (r : RegDef) (v : Nat) : State × WAns :=
  if s.flag R.PERM_HOST_CTRL_BUSY hub then (s.set1 R.PERM_HOST_CTRL_REFUSED hub, wOk)
  else if r = R.PERM_HOST_CTRL then
    let s := s.plainWrite hub 0 r 0 v
    if bit v 0 then
      let st := if s.claim 2 hub != 3 then 0x1D else if s.region (ingestRegion hub) != 0 then 0x1E else 0
      (permHostGoEff hub s, wRefused 1 st)
    else (s, wOk)
  else (s.plainWrite hub 0 r 0 v, wOk)

/-- R126, R227, R243: a write to a STEP register. -/
def State.stepWrite (s : State) (r : RegDef) (p v : Nat) : State × WAns :=
  if r = R.STEP_CMD then
    let s := s.stepCmd p (v % 16)
    (s, wRefused 2 (s.get R.STEP_STATE_LAST_STATUS 0 0 p))
  else if r = R.STEP_NUMBER ∧ s.phase p ≠ phIdle then (s.stepStatus p 2, wRefused 2 2)
  else if r = R.STEP_FMT_CFG then
    (if 4096 < bits v 0 13 ∨ bits v 16 5 = 0 ∨ bits v 21 5 = 0 ∨ bits v 21 5 < bits v 16 5 then s else s.plainWrite 0 0 r p v, wOk)
  else if r = R.STEP_LSCALE then
    let x : W32 := BitVec.ofNat 32 v
    (if f32NonFinite x || bit v 31 || v % 2 ^ 31 == 0 then s else s.plainWrite 0 0 r p v, wOk)
  else if r = R.STEP_LSCALE_CFG then
    (if toInt 8 (bits v 0 8) < -126 ∨ toInt 8 (bits v 8 8) < toInt 8 (bits v 0 8) then s else s.plainWrite 0 0 r p v, wOk)
  else (s.plainWrite 0 0 r p v, wOk)

/-- R262: a write to RED_CH_TIMING that breaks the deadline ratio is rejected whole. -/
def State.timingWrite (s : State) (hub c : Nat) (v : Nat) : State × WAns :=
  if ratioBad (bit v 2) (bit v 3) (bits v 8 24) (bits v 32 24) then (s.set1 R.RED_CH_ERROR_RATIO hub c, wRefused 1 0x13)
  else (hubs.foldl (fun (s : State) h => s.plainWrite h c R.RED_CH_TIMING 0 v) s, wOk)

/-- R246: a write to RED_CH_ROUTE, known to both hubs. DESIGN CHOICE (log 68): hops are stored as written, also one that
names an excluded peer port. -/
def State.routeWrite (s : State) (c v : Nat) : State :=
  (hubs.foldl (fun (s : State) h => s.plainWrite h c R.RED_CH_ROUTE 0 v) s).showHomes (c / 8)

/-- R367: a write to ETH_CFG. SPEEDS starts the choice of speed again, where the port has been started. -/
def State.ethCfgWrite (s : State) (v : Nat) : State :=
  let t := s.plainWrite 0 0 R.ETH_CFG 0 v
  if decide (10 ≤ s.aon.step) || s.waiting || s.recovery then ethSpeedsWriteEff (bits v 0 3) t else t

/-- R391: a write to OCT_CFG: a MAX_VERSION other than 1 or 2 is discarded. -/
def State.octCfgWrite (s : State) (v : Nat) : State :=
  let v := if bits v 0 8 = 1 ∨ bits v 0 8 = 2 then v else setBits v 0 8 (s.get R.OCT_CFG_MAX_VERSION 0)
  s.plainWrite 0 0 R.OCT_CFG 0 v

/-- R381: a write that makes CLASSES nonzero from zero fills the slot. -/
def State.subWrite (s : State) (i v : Nat) : State :=
  let was := s.get R.OCT_SUB_CFG_CLASSES 0 0 i
  let s := s.plainWrite 0 0 R.OCT_SUB_CFG i v
  if was = 0 ∧ bits v 0 3 ≠ 0 then s.put R.OCT_SUB_CFG_SENT 0 0 0 i else s

/-- R371, R374: a command written to RDMA_QP[q]. -/
def State.qpWrite (s : State) (q v : Nat) : State :=
  match bits v 2 2 with
  | 1 => qpLoadEff q s
  | 2 => qpToErrorEff q s
  | 3 => qpToResetEff q s
  | _ => s

/-- R365: THROTTLE_TEMP and CAP. -/
def State.pwrWrite (s : State) (die : Nat) (r : RegDef) (v : Nat) : State :=
  if r = R.PWR_CFG then (if 70 ≤ bits v 0 8 ∧ bits v 0 8 ≤ 95 then s.plainWrite die 0 r 0 v else s)
  else if r = R.PWR_LIMITS then s.put R.PWR_LIMITS_CAP (max 2000 (min 5400 (bits v 0 16))) die
  else s.plainWrite die 0 r 0 v

/-- R439, R442: dump on demand, and live trace started. -/
def State.dbgWrite (s : State) (die : Nat) (r : RegDef) (i v : Nat) : State :=
  if r = R.DBG_DUMP_CTRL then
    let s := s.plainWrite die 0 r i v
    if bit v 0 then dumpOnDemandEff (bits v 4 4) s else s
  else if r = R.DBG_TRACE_CFG then
    let on := s.flag R.DBG_TRACE_CFG_EN 0
    let s := s.plainWrite die 0 r i v
    if !on && bit v 0 then s.put R.DBG_TRACE_HEAD_HEAD 0 0 else s
  else s.plainWrite die 0 r i v

/-- Matrix-core registers with an action: TOKEN_CLEAR. -/
def State.mxcCtrlWrite (s : State) (die core v : Nat) : State :=
  let s := s.plainWrite die core R.MXC_CTRL 0 v
  if bit v 1 then tokenClearEff die core s else s

/-- A write to a register that is reached, in service and not held back by RWL. -/
def State.regSet (s : State) (die inst : Nat) (r : RegDef) (i v : Nat) (hctx : Option Nat) : State × WAns :=
  let isQ := match qOf r.block with
    | some q => [q.tail.reg, q.head.reg, q.enable.reg, q.base.reg, q.cqbase.reg, q.cqhead.reg, q.cqtail.reg].contains r
    | none => false
  if isQ then
    match qOf r.block with
    | some q => s.queueWrite q die inst r i v hctx
    | none => (s, wOk)
  else if r.block = 0x10 ∧ r = R.MXC_CTRL then (s.mxcCtrlWrite die inst v, wOk)
  else if r.block = 0x35 ∧ 0x100 ≤ r.off ∧ r.off ≤ 0x130 then s.permWrite die r v
  else if r.block = 0x63 then s.stepWrite r i v
  else if r = R.RED_CH_TIMING then s.timingWrite die inst v
  else if r = R.RED_CH_ROUTE then (s.routeWrite inst v, wOk)
  else if r = R.ARB_REQ_CFG then (s.arbWriteReq die inst i v, wOk)
  else if r = R.ARB_CFG then (s.arbWriteCfg die inst v, wOk)
  else if r = R.ARB_FREEZE then (s.setFreeze die inst (bit v 0), wOk)
  else if r = R.WEAVE_CTRL then
    (if bit v 0 then weaveRetrainEff (if isComp die then die else (halfDies die).getD inst 0) s else s, wOk)
  else if r = R.SEAM_CTRL then (if bit v 0 then seamRetrainEff die s else s, wOk)
  else if r.block = 0x03 then (s.pwrWrite die r v, wOk)
  else if r = R.ETH_CFG then (s.ethCfgWrite v, wOk)
  else if r = R.OCT_CFG then (s.octCfgWrite v, wOk)
  else if r = R.OCT_SUB_CFG then (s.subWrite i v, wOk)
  else if r = R.RDMA_QP then (s.qpWrite i v, wOk)
  else if r = R.RST_KICK then (if bit v 0 then rstKickEff s else s, wOk)
  else if r.block = 0x07 then (s.dbgWrite die r i v, wOk)
  else if r = R.STREAM_DAYBREAK then (if bit v 7 then daybreakGoEff s else s, wOk)
  else (s.plainWrite die inst r i v, wOk)

/-- R9 to R12, R34, R71, R72: a write. -/
def State.regWrite (s : State) (a v : Nat) (hctx : Option Nat) : State × WAns :=
  let die := csrDie a
  let inst := csrInst a
  match s.regHere a with
  | none => (s, wOk)
  | some (r, i) =>
    if s.unitOut die r.block inst || s.regIdle die inst r i then (s, wOk)
    else
      match regionOf die r.block inst with
      | some c =>
        if hasRwl r then
          if s.rwlOpen c then
            let (s, ans) := s.regSet die inst r i v hctx
            (if ans = wOk then s.rwlAccept c else s, ans)
          else (s.rwlReject, wRefused 1 0x17)
        else s.regSet die inst r i v hctx
      | none => s.regSet die inst r i v hctx

/-! ### Accesses whole -/

/-- A read as it is answered: the state, the status, the value. -/
def State.csrLoad (s : State) (oct : Bool) (a : Nat) : State × Nat × Nat :=
  let st := s.accessStatus oct a
  if st ≠ 0 then (s, st, 0)
  else
    let (s, v) := s.regRead a
    (s, 0, v)

/-- A write as it is answered. -/
def State.csrStore (s : State) (oct : Bool) (a v : Nat) (hctx : Option Nat) : State × WAns :=
  let st := s.accessStatus oct a
  if st ≠ 0 then (s, (st, 0, 0)) else s.regWrite a (v % 2 ^ 64) hctx

/-- REGISTER_WRITE: a control-register write from a compute die's control cores, which answers nothing. -/
def registerWriteEff (a v : Nat) (s : State) : State := (s.csrStore false a v none).1

/-- MXC_QTAIL_WRITE, SPAD_QTAIL_WRITE, SETE_QTAIL_WRITE: a doorbell write. -/
def qtailWriteEff (q : QRegs) (die inst c tail : Nat) (s : State) : State :=
  (s.csrStore false (q.tail.reg.addr die inst c) (tail % 2 ^ 16) none).1

/-- QUEUE_ENABLE: ENABLE set with a SIZE_LOG2 in a queue's QCFG, whatever queue it is. -/
def queueEnableEff (block die inst c size : Nat) (s : State) : State :=
  match qOf block with
  | some q => (s.csrStore false (q.enable.reg.addr die inst c) (1 + 2 * (size % 32)) none).1
  | none => s

/-- QUEUE_RESUME: RESUME written to a queue's QCFG beside its present ENABLE and SIZE_LOG2. -/
def queueResumeEff (block die inst c : Nat) (s : State) : State :=
  match qOf block with
  | some q =>
    let v := s.get q.enable die inst c + 2 * s.get q.size die inst c + 2 ^ 7
    (s.csrStore false (q.enable.reg.addr die inst c) v none).1
  | none => s

end Sys2Proof.Machine
end

