-- ==== Sys2Proof/Machine/J20.lean ====
section
/-!
DEFINITION. Register access over J20 (R363, R441, R443): the service UART and the test access port.
-/

namespace Sys2Proof.Machine

/-! ### Characters -/

/-- An ASCII hexadecimal digit. -/
def hexDigit? (b : Byte) : Option Nat :=
  let n := b.toNat
  if 0x30 ≤ n ∧ n ≤ 0x39 then some (n - 0x30)
  else if 0x41 ≤ n ∧ n ≤ 0x46 then some (n - 0x37)
  else if 0x61 ≤ n ∧ n ≤ 0x66 then some (n - 0x57)
  else none

/-- A run of hexadecimal digits, the most significant first. -/
def hexVal : List Byte → Nat → Option Nat
  | [], acc => some acc
  | b :: t, acc => match hexDigit? b with | some d => hexVal t (acc * 16 + d) | none => none

def hexChar (d : Nat) : Byte := BitVec.ofNat 8 (if d < 10 then 0x30 + d else 0x37 + d)

/-- A number as n hexadecimal digits. -/
def hexText : Nat → Nat → List Byte
  | 0, _ => []
  | n + 1, x => hexText n (x / 16) ++ [hexChar (x % 16)]

/-- R443: the command of a txt: address, and the data of a write. -/
def uartCommand (txt : List Byte) : Option (Nat × Option Nat) :=
  let sp (i : Nat) : Bool := txt[i]? == some 0x20
  match txt with
  | 0x52 :: _ =>
    if txt.length = 13 ∧ sp 1 ∧ txt[12]? = some 0x0A then
      (hexVal ((txt.drop 2).take 10) 0).map (fun a => (a, none))
    else none
  | 0x57 :: _ =>
    if txt.length = 30 ∧ sp 1 ∧ sp 12 ∧ txt[29]? = some 0x0A then
      match hexVal ((txt.drop 2).take 10) 0, hexVal ((txt.drop 13).take 16) 0 with
      | some a, some v => some (a, some v)
      | _, _ => none
    else none
  | _ => none

/-! ### The access -/

/-- R337: the local index of the domain that clocks a block's registers: what the domains' table names a block's units under; the
blocks it names under none, and those of the management block or the service slave, under MGMT or SVC on a hub and FAB on a
compute die (DEDUCED, log 55). -/
def blockClock (die block inst : Nat) : Nat :=
  if isComp die then
    match block with
    | 0x10 | 0x12 => 0
    | 0x11 => 1
    | 0x40 => 3
    | 0x20 | 0x21 => 4 + inst
    | _ => 2
  else
    match block with
    | 0x05 | 0x35 | 0x36 | 0x40 => 0
    | 0x30 | 0x31 | 0x32 | 0x33 | 0x34 => 1
    | 0x60 | 0x61 => 2
    | 0x41 => 3
    | 0x50 | 0x51 | 0x52 => 4
    | _ => if die = 0 then 5 else 4

/-- R7, R443: a register whose domain stands still has no cycle in which to answer; RST_LAST lies in AON (R422), and the registers of
an excluded die (R34) need none of its domains. -/
def State.j20Dark (s : State) (a : Nat) : Bool :=
  let die := csrDie a
  !s.excluded die && !s.runs die (if a = R.RST_LAST.addr 0 0 0 then clkAON else blockClock die (csrBlock a) (csrInst a))

/-- R443, R447: the status of an access: OK, or why it is not answered. The debug-ring master in AON does not depend on MGMT. -/
def State.j20Status (s : State) (a : Nat) : Nat :=
  let st := s.accessStatus false a
  if st = octNoRegister then rstNoRegister
  else if st = octInReset then rstInReset
  else if st = octUnreachable then rstUnreachable
  else if s.j20Dark a then rstTimeout
  else rstOk

/-- Carry out an access: its status and the data read. -/
def State.j20Do (s : State) (a : Nat) (w : Option Nat) : State × Nat × Nat :=
  let st := s.j20Status a
  if st ≠ rstOk then (s, st, 0)
  else match w with
    | some v => ((s.regWrite a v none).1, rstOk, 0)
    | none => let (s, v) := s.regRead a; (s, rstOk, v)

/-- Carry out an access and answer it: on the UART, or in the test access port's register. -/
def State.j20Answer (s : State) (a : Nat) (w : Option Nat) (tap : Bool) : State :=
  let (s, st, v) := s.j20Do a w
  if tap then { s with tap := (st, v) }
  else if st ≠ rstOk then s.send (.j20 0 (0x21 :: hexText 2 st))
  else s.send (.j20 0 (0x3D :: (if w.isNone then hexText 16 v else [])))

/-- R441: an access waits while a dump runs. -/
def State.j20Access (s : State) (a : Nat) (w : Option Nat) (tap : Bool) : State :=
  if s.dump.isSome then
    let s : State := { s with j20Wait := s.j20Wait ++ [(a, w, tap)] }
    if tap then { s with tap := (0xFF, 0) } else s
  else s.j20Answer a w tap

/-- R441: the accesses that waited are carried out as the dump ends, with fuel. -/
def State.j20Drain : Nat → State → State
  | 0, s => s
  | k + 1, s =>
    match s.j20Wait with
    | [] => s
    | (a, w, tap) :: t =>
      if s.dump.isSome then s else State.j20Drain k (({ s with j20Wait := t } : State).j20Answer a w tap)

/-- J20_UART_COMMAND: with MODE grounded, a line that is a command. Without the 100 MHz oscillator AON answers
nothing (R342). -/
def j20UartEff (line : List Byte) (s : State) : State :=
  if !s.aon.powered || s.aon.lost100 || s.aon.mode then s
  else match uartCommand line with
    | some (a, w) => s.j20Access a w false
    | none => s

/-- J20_TAP_ACCESS: with MODE open, Update-DR with REGACC: ADDR [39:0], DATA [103:40], WRITE [104]. -/
def j20TapEff (reg : Nat) (s : State) : State :=
  if !s.aon.powered || s.aon.lost100 || !s.aon.mode then s
  else s.j20Access (bits reg 0 40) (if bit reg 104 then some (bits reg 40 64) else none) true

end Sys2Proof.Machine
end

