-- ==== Sys2Proof/Machine/Host.lean ====
section
/-!
DEFINITION. Carrying out OCT requests (R378 to R380, R383), what is served in Daybreak's waits (R410, R412), and the
Ethernet port's own protocols (R368).
-/

namespace Sys2Proof.Machine

/-! ### What each opcode takes (R378) -/

/-- One row of R378: the first version that offers the opcode, whether TARGET is 0, the range of COUNT, and the payload's
length for a COUNT. -/
structure OctRow where
  ver : Nat
  zeroTarget : Bool
  lo : Nat
  hi : Nat
  len : Nat → Nat

/-- R378, R400, R402, R433: the rows; `max`: the MTU limit. NEGOTIATE has its own path (R376). A FENCE of no entries or of
more than 32 is R352's BAD_QUEUE, not BAD_LENGTH (DEDUCED, log 99). -/
def octRow (max op : Nat) (payload : List Byte) : Option OctRow :=
  match op with
  | 0x02 => some ⟨1, true, 0, 0, fun _ => 0⟩
  | 0x10 => some ⟨1, false, 1, 128, fun _ => 0⟩
  | 0x11 => some ⟨1, false, 1, 128, fun n => 8 * n⟩
  | 0x14 => some ⟨1, false, 1, max, fun _ => 0⟩
  | 0x15 => some ⟨1, false, 1, max, fun n => n⟩
  | 0x20 | 0x21 | 0x22 => some ⟨2, false, 0, 0, fun _ => 0⟩
  | 0x30 => some ⟨1, false, 1, 1, fun _ => 8⟩
  | 0x31 => some ⟨2, true, 0, 2 ^ 32, fun n => 8 * n⟩
  | 0x40 => some ⟨1, false, 0, 0, fun _ => 8⟩
  | 0x41 | 0x42 => some ⟨2, true, 0, 0, fun _ => 0⟩
  | 0x50 => some ⟨1, true, 0, 0, fun _ => 24⟩
  | 0x60 => some ⟨2, false, 0, 0, fun _ => if fieldAt payload 0 1 = 1 then 8 else if fieldAt payload 0 1 = 2 then 40
      else if payload.length = 40 then 40 else 8⟩
  | 0x61 => some ⟨1, false, 0, 0, fun _ => 8⟩
  | _ => none

/-- R378, R380: what is wrong with a request's header and form: 0, or the status that says so. -/
def State.octForm (s : State) (q : OctReq) : Nat :=
  let h := q.hdr
  if hdrBad h then octBadHeader
  else match octRow s.memMax q.op h.payload with
    | none => octBadOpcode
    | some r =>
      if h.version < r.ver then octBadOpcode
      else if h.count < r.lo ∨ r.hi < h.count ∨ h.length ≠ r.len h.count ∨ h.payload.length ≠ h.length then octBadLength
      else if r.zeroTarget ∧ h.target ≠ 0 then octBadTarget
      else 0

/-! ### What is served before Daybreak is done (R410, R412) -/

/-- R65: does a range lie in the stream staging buffer? -/
def inStaging (a n : Nat) : Bool := decide (stagingBase ≤ a) && decide (a + n ≤ stagingBase + stagingSize)

/-- Hub AM's register blocks named by a list. -/
def amBlock (blocks : List Nat) (a : Nat) : Bool := csrDie a == 0 && blocks.contains (csrBlock a)

/-- R412: does recovery serve the request? -/
def recoveryServes (q : OctReq) : Bool :=
  let h := q.hdr
  match q.op with
  | 0x02 => true
  | 0x15 => inStaging h.target h.count
  | 0x61 => h.target == 1 || h.target == 3
  | 0x40 => fieldAt h.payload 0 1 == 4
  | 0x10 => (List.range h.count).all (fun i => amBlock [0x00, 0x01, 0x70] (h.target + 8 * i))
  | _ => false

/-- R410: does Daybreak serve the opcode while it waits for a stream? -/
def waitServes (op : Nat) : Bool := [0x02, 0x61, 0x60, 0x40, 0x10, 0x11, 0x14, 0x15].contains op

/-! ### Registers (R379) -/

/-- R410: while Daybreak waits, the blocks served; others are answered IN_RESET. -/
def State.octShut (s : State) (a : Nat) : Bool := s.waiting && !amBlock [0x00, 0x01, 0x70, 0x50, 0x51] a

/-- CSR_READ: register by register, stopping at the first that fails. -/
def State.octReadFrom (s : State) (q : OctReq) : Nat → Nat → List Byte → State
  | 0, i, acc => s.octAnswer q octOk 0 0 i acc
  | k + 1, i, acc =>
    let a := q.hdr.target + 8 * i
    if s.octShut a then s.octAnswer q octInReset 0 0 i acc
    else
      match s.csrLoad true a with
      | (s, 0, v) => s.octReadFrom q k (i + 1) (acc ++ leBytes 8 v)
      | (s, st, _) => s.octAnswer q st 0 0 i acc

/-- R227, R379: is the register STEP_CMD, with a DISCARD_ACCUM accepted there and not yet carried out? -/
def State.discardHeld (s : State) (a : Nat) : Bool :=
  csrDie a == 0 && csrBlock a == 0x63 && decide (csrOff a < 0x20) && (s.stepSt (csrOff a / 8)).discarding

/-- CSR_WRITE: register by register, stopping at the first that fails. A STEP_CMD that accepts DISCARD_ACCUM holds the
request until it is carried out, and a command that meets one waits for it (R227). -/
def State.octWriteFrom (s : State) (q : OctReq) : Nat → Nat → State
  | 0, i => s.octAnswer q octOk 0 0 i
  | k + 1, i =>
    let a := q.hdr.target + 8 * i
    if s.octShut a then s.octAnswer q octInReset 0 0 i
    else if s.discardHeld a then { s with octBusy := some { q with aux := i } }
    else
      let v := fieldAt q.hdr.payload (8 * i) 8
      match s.csrStore true a v (some q.hdr.ctx) with
      | (s, 0, _, _) =>
        if s.discardHeld a then { s with octBusy := some { q with aux := i + 1 } }
        else s.octWriteFrom q k (i + 1)
      | (s, st, src, d) => s.octAnswer q st src d i

/-! ### Memory (R37, R157, R379, R426) -/

/-- The status of a memory access before it is made, and the fault kind. -/
def State.octMemCheck (s : State) (a n : Nat) : Nat × Nat :=
  let die := addrDie a
  if s.waiting then (if inStaging a n then (0, 0) else (octAccessFault, 1))
  else if (isDie die && s.inReset die) || s.spadReset a n then (octInReset, 0)
  else
    let k := s.judge octWho a n
    if 2 ^ 48 ≤ a then (octAccessFault, 1)
    else if k ≠ 0 then (octAccessFault, k)
    else if !s.reach die then (octUnreachable, 0)
    else (0, 0)

/-- A memory access refused, with the fault recorded at hub AM (R171). -/
def State.octMemRefuse (s : State) (q : OctReq) (st k : Nat) : State :=
  if st = octAccessFault then
    (s.hubFault 0 0x51 0 (if q.hdr.ctx < 64 then q.hdr.ctx else 0) k q.hdr.target).octAnswer q st 4 k
  else s.octAnswer q st

/-- MEM_READ. -/
def State.octMemRead (s : State) (q : OctReq) : State :=
  let h := q.hdr
  let c := s.octMemCheck h.target h.count
  if c.1 ≠ 0 then s.octMemRefuse q c.1 c.2
  else match s.load octWho h.target h.count with
    | (s, .ok data) => s.octAnswer q octOk 0 0 h.count data
    | (s, .error k) => s.octMemRefuse q octAccessFault k

/-- MEM_WRITE. -/
def State.octMemWrite (s : State) (q : OctReq) : State :=
  let h := q.hdr
  let c := s.octMemCheck h.target h.count
  if c.1 ≠ 0 then s.octMemRefuse q c.1 c.2
  else match s.store octWho h.target (h.payload.take h.count) with
    | (s, 0) => s.octAnswer q octOk 0 0 h.count
    | (s, k) => s.octMemRefuse q octAccessFault k

/-! ### Doorbells (R383) -/

/-- R383: the queue whose tail register the address names, with its index. -/
def tailAt (a : Nat) : Option (QRegs × Nat) :=
  match regAt a, qOf (csrBlock a) with
  | some (r, i), some q => if r = q.tail.reg then some (q, i) else none
  | _, _ => none

/-- DOORBELL. -/
def State.octDoorbell (s : State) (q : OctReq) : State :=
  let h := q.hdr
  match tailAt h.target with
  | none => s.octAnswer q octBadTarget
  | some (r, i) =>
    if fieldAt h.payload 3 5 ≠ 0 then s.octAnswer q octBadHeader
    else if r.block ≠ 0x61 ∧ h.ctx ≠ i then s.octAnswer q octBadTarget
    else if 63 < h.ctx ∨ !s.ctxOpen h.ctx then s.octAnswer q octCtxNotOpen
    else if 2 ≤ h.version ∧ fieldAt h.payload 2 1 ≠ s.ctxGen h.ctx then s.octAnswer q octStaleGen
    else
      match s.csrStore true h.target (fieldAt h.payload 0 2) (some h.ctx) with
      | (s, 0, _, _) => s.octAnswer q octOk 0 0 1
      | (s, st, src, d) => s.octAnswer q st src d

/-! ### One request (R379) -/

/-- R398, R400: FW_UPDATE by TARGET; another TARGET is refused with BAD_OP. -/
def State.octFwUpdate (s : State) (q : OctReq) : State :=
  match q.hdr.target with
  | 1 => s.installFwReq q
  | 2 => s.installStreamReq q
  | 3 => s.preferReq q
  | 4 => s.raiseSvnReq q
  | _ => s.secRefuse q secBadOp

/-- R379: a request in turn is checked and carried out. -/
def State.octRun (s : State) (q : OctReq) : State :=
  let f := s.octForm q
  if f ≠ 0 then s.octAnswer q f
  else if s.recovery && !recoveryServes q then s.octAnswer q octBadOpcode
  else if s.waiting && !waitServes q.op then s.octAnswer q octBadOpcode
  else match q.op with
    | 0x02 => (s.octAnswer q octOk).closeSess q.hdr.src q.hdr.port q.hdr.session
    | 0x10 => s.octReadFrom q q.hdr.count 0 []
    | 0x11 => s.octWriteFrom q q.hdr.count 0
    | 0x14 => s.octMemRead q
    | 0x15 => s.octMemWrite q
    | 0x20 => s.regionStopReq q
    | 0x21 => s.regionLoadReq q
    | 0x22 => s.regionStartReq q
    | 0x30 => s.octDoorbell q
    | 0x31 => s.octFence q
    | 0x40 => s.resetReq q
    | 0x41 => s.octCtxOpen q
    | 0x42 => s.octCtxClose q
    | 0x50 => s.octSubscribe q
    | 0x60 => s.attestReq q
    | 0x61 => s.octFwUpdate q
    | _ => s.octAnswer q octBadOpcode

/-- R379: a CSR_WRITE held by DISCARD_ACCUM goes on once that is carried out. -/
def State.octResume (s : State) : State :=
  match s.octBusy with
  | some q =>
    if q.op = 0x11 ∧ !s.discardHeld (q.hdr.target + 8 * (q.aux - 1)) ∧
        (q.aux = q.hdr.count ∨ !s.discardHeld (q.hdr.target + 8 * q.aux)) then
      ({ s with octBusy := none } : State).octWriteFrom q (q.hdr.count - q.aux) q.aux
    else s
  | none => s

/-- R379: accepted requests are taken one at a time, in the order of acceptance, with fuel. -/
def State.octPump : Nat → State → State
  | 0, s => s
  | k + 1, s =>
    let s := s.octResume
    if s.octBusy.isSome then s
    else match s.octQ with
      | [] => s
      | q :: t =>
        -- REGION_LOAD and REGION_START wait for the firmware's REGION_STARTs (R64)
        if (q.op == 0x21 || q.op == 0x22) && !s.starts.isEmpty then s
        else State.octPump k (({ s with octQ := t } : State).octRun q)

/-! ### Requests as they arrive -/

/-- R368: a frame is received. -/
def State.rxFrame (s : State) : State := s.count R.ETH_RX_FRAMES_COUNT 1 0

/-- An OCT request of an opcode arrives; nothing does while the link is down or MGMT stands still. -/
def octReqEff (op : Nat) (h : OctHdr) (aux : Nat) (s : State) : State :=
  if !s.octUp then s
  else if op = 1 then s.rxFrame.octNegotiate { op := 1, hdr := h }
  else s.rxFrame.octArrive { op := op, hdr := h, aux := aux }

/-- ATTEST and RESET requests with the first payload byte that the row names. -/
def withFirst (h : OctHdr) (v : Nat) : OctHdr := { h with payload := setAt h.payload 0 (BitVec.ofNat 8 v) }

/-! ### The port's own protocols (R368) -/

/-- An IPv4 address as ::ffff:a.b.c.d. -/
def v4Mapped (a : Nat) : Nat := 0xFFFF * 2 ^ 32 + a

/-- R368: the link-local address of a MAC address under the modified EUI-64 rule. -/
def linkLocal (mac : Nat) : Nat :=
  let hi := mac / 2 ^ 24
  0xFE80 * 2 ^ 112 + ((hi ^^^ 0x020000) * 2 ^ 40 + 0xFFFE * 2 ^ 24 + mac % 2 ^ 24)

/-- R368, R390: is an address one of the port's? -/
def State.ownAddr (s : State) (a : Nat) : Bool :=
  (s.flag R.ETH_IP4_VALID 0 && a == v4Mapped (s.get R.ETH_IP4_ADDR 0)) ||
  (s.flag R.ETH_IP6_CFG_VALID 0 && a == s.get R.ETH_IP6_WORD 0 0 0 * 2 ^ 64 + s.get R.ETH_IP6_WORD 0 0 1) ||
  a == linkLocal (s.get R.ETH_MAC_MAC 0)

/-- R375: the header of an OCT message, and the opcode. -/
def octParse (f : EthFrame) : Option (Nat × OctHdr) :=
  let b := f.payload
  if b.length < 32 then none
  else
    let be (off n : Nat) : Nat := beVal ((b.drop off).take n)
    some (be 1 1,
      { src := f.src, port := f.srcPort, version := be 0 1, flags := be 2 2, ctx := be 4 1, status := be 5 1,
        detailSrc := be 6 1, detail := be 7 1, session := be 8 4, seq := be 12 4, length := be 16 4, count := be 20 4,
        target := be 24 8, payload := b.drop 32 })

/-- R368: a UDP datagram to the port. -/
def State.rxUdp (s : State) (f : EthFrame) : State :=
  if !s.ownAddr f.dst then s
  else if f.dstPort = 50200 then
    match octParse f with
    | some (op, h) =>
      if !s.flag R.CLK_DOMAIN_RUNNING 0 0 5 then s
      else if op = 1 then s.octNegotiate { op := 1, hdr := h }
      else s.octArrive { op := op, hdr := h }
    | none => s
  else if f.dstPort = 4791 then
    match f.rdma with
    | some p => if (s.qp p.qp).kind = 1 then reservoirPacketEff p s else rdmaPacketRxEff p s
    | none => s
  else s

/-- ETH_RX_FRAME (R368). -/
def ethRxFrameEff (f : EthFrame) (s : State) : State :=
  if !s.flag R.ETH_STATUS_LINK_UP 0 then s
  else
    let s := s.rxFrame
    let mtu := if s.flag R.ETH_CFG_MTU 0 then 9000 else 1500
    let me := [s.get R.ETH_MAC_MAC 0, f.dst, f.src]
    if mtu < f.len ∨ f.exts then s.count R.ETH_DISCARDS_COUNT 1 0
    else match f.kind with
      | 0 => if s.flag R.ETH_IP4_VALID 0 && f.dst == v4Mapped (s.get R.ETH_IP4_ADDR 0) then s.send (.eth 20 me []) else s
      | 1 => if s.ownAddr f.dst && f.dst / 2 ^ 32 != 0xFFFF then s.send (.eth 21 me []) else s
      | 2 => if s.ownAddr f.dst then s.send (.eth 22 me f.payload) else s
      | 3 => if s.ownAddr f.dst then s.send (.eth 23 me f.payload) else s
      | 4 => s.rxUdp f
      | _ => s

end Sys2Proof.Machine
end

