-- ==== Sys2Proof/Machine/Turn.lean ====
section
/-!
DEFINITION. What every command ends with: accesses and requests that waited are carried out, live trace (R441, R442), and
memory in its canonical form. And when a unit can work at all (R313, R341, R423, R428).
-/

namespace Sys2Proof.Machine

/-! ### Can a unit work? -/

/-- R341, R423: the module has its supply, the die is out of reset, and the domain's clock runs. -/
def State.clocked (s : State) (die k : Nat) : Bool := s.aon.powered && !s.isHeld die && s.runs die k

/-- R428, R430, R431: an engine found hung, or in an engine reset from its dusk on, takes no work. -/
def State.unitIdle (s : State) (die block inst : Nat) : Bool :=
  s.hung.any (fun x => x.1 == die && x.2.1 == block && x.2.2.1 == inst) ||
  s.resets.any (fun r => r.domain == 1 && r.die == die && decide (2 ≤ r.stage) && r.units.contains (block, inst))

/-- An effect that needs a condition; without it nothing happens. -/
def State.when (s : State) (ok : Bool) (f : State → State) : State := if ok then f s else s

/-- R337: the local index of an ingest engine's domain: MEDIA for demux, decoders, transform and tokeniser, else FAB. -/
def engineClock (block : Nat) : Nat := if 0x30 ≤ block ∧ block ≤ 0x34 then 1 else 0

/-- May an ingest engine take work? -/
def State.engineOn (s : State) (hub block inst : Nat) : Bool :=
  s.clocked hub (engineClock block) && !s.unitIdle hub block inst

/-! ### Live trace (R441, R442) -/

/-- The *_ERROR registers that hold W1C fields. -/
def errorRegs : List RegDef :=
  [R.MXC_ERROR, R.STEP_ERROR, R.VEC_ERROR, R.SPAD_ERROR, R.HBMC_ERROR, R.DEMUX_ERROR, R.VDEC_ERROR, R.ADEC_ERROR,
   R.XFORM_ERROR, R.TOKEN_ERROR, R.PERM_ERROR, R.SETE_ERROR, R.RED_CH_ERROR, R.PEER_ERROR, R.UPD_ERROR, R.WEAVE_ERROR,
   R.SEAM_ERROR, R.PWR_ERROR, R.ETH_ERROR, R.SEC_ERROR]

/-- The W1C bits of a register that are set after and were clear before. -/
def risen (r : RegDef) (old new : Nat) : List Nat :=
  (r.fields.filter (fun f => f.acc == .w1c)).flatMap fun f =>
    ((List.range f.width).map (· + f.lo)).filter (fun i => bit new i && !bit old i)

/-- R442: the rises between two states on the dies selected: address and bit. -/
def State.rises (s t : State) : List (Nat × Nat) :=
  t.csr.flatMap fun e =>
    if bit (t.get R.DBG_TRACE_CFG_DIES 0) (csrDie e.1) then
      match regAt e.1 with
      | some (r, i) =>
        if errorRegs.contains r then
          (risen r (s.rd r (csrDie e.1) (csrInst e.1) i) e.2.toNat).map (fun b => (e.1, b))
        else []
      | none => []
    else []

/-- R442: a trace record. -/
def State.traceRecord (s : State) (x : Nat × Nat) : List Byte :=
  let hub := hubOf (csrDie x.1)
  leBytes 1 (csrDie x.1) ++ leBytes 1 (csrBlock x.1) ++ leBytes 2 (csrInst x.1) ++ leBytes 1 x.2 ++ leBytes 1 hub ++
  leBytes 2 0 ++ leBytes 8 (s.stamp hub)

/-- R441, R449: is the trace ring free and its place a DUMP carve-out? -/
def State.traceOpen (s : State) : Bool :=
  let a := s.get R.DBG_TRACE_DEST_BASE 0
  let n := 16 * s.get R.DBG_TRACE_CFG_RECORDS 0
  s.dump.isNone && s.j20Wait.isEmpty && a % 16 == 0 &&
  s.carves.any (fun c => c.kind == 4 && decide (c.base ≤ a) && decide (a + n ≤ c.base + c.size))

/-- R442: one record: written at its place and counted, or counted as lost. -/
def State.traceOne (s : State) (x : Nat × Nat) : State :=
  let n := s.get R.DBG_TRACE_HEAD_HEAD 0 + 1
  let ring := s.get R.DBG_TRACE_CFG_RECORDS 0
  if ring = 0 then s
  else if !s.traceOpen then s.count R.DBG_TRACE_LOST_COUNT 1 0
  else
    match s.store { die := 0, part := none } (s.get R.DBG_TRACE_DEST_BASE 0 + 16 * (n % ring)) (s.traceRecord x) (plain := true) with
    | (s, 0) => (s.put R.DBG_TRACE_HEAD_HEAD n 0).count R.DBG_TRACE_SENT_COUNT 1 0
    | (s, _) => s.count R.DBG_TRACE_LOST_COUNT 1 0

/-- R442: live trace of what a command did. -/
def State.trace (s t : State) : State :=
  if t.flag R.DBG_TRACE_CFG_EN 0 then (s.rises t).foldl (fun (t : State) x => t.traceOne x) t else t

/-! ### The end of a command -/

/-- What was waiting, and can now go on, goes on: J20 accesses once no dump runs, OCT requests once none holds them. -/
def State.settle (t : State) : State :=
  let t := State.j20Drain t.j20Wait.length t
  State.octPump (t.octQ.length + 1) t

/-- A command's whole effect: its own, what that lets go on, live trace. The queue is as it was. -/
def State.after (s t : State) : State :=
  let u := s.trace t.settle
  { u with pending := s.pending, mem := u.mem.canon }

/-- How a command ends: always in a next state. -/
def State.ends (s t : State) : Host.Outcome State Fault Refusal := .next (s.after t)

end Sys2Proof.Machine
end

