-- ==== Sys2Proof/Machine/ExecFabric.lean ====
section
/-!
DEFINITION. Register writes (R9) and the fabric's arbiters (R305 to R314).
-/

namespace Sys2Proof.Machine

/-- A matrix core, mover or vector engine in service, with its clock running. -/
def State.coreAt (s : State) (die core k : Nat) : Bool := s.clocked die k && s.coreOk die core

/-- The request with the operation code of its row in TARGET (R397). -/
def withTarget (h : OctHdr) (v : Nat) : OctHdr := { h with target := v }

/-- REGISTER_WRITE (R9). -/
def execRegisterWrite (addr value : Nat) (s : State) : Host.Outcome State Fault Refusal :=
  s.ends (s.when (Instr.wf (.registerWrite addr value) && s.aon.powered) fun s => registerWriteEff addr value s)

/-- ARB_GRANT (R309): a cycle of the arbiter's domain (R307). -/
def execArbGrant (die inst : Nat) (arrivals : List (Nat × Nat)) (s : State) : Host.Outcome State Fault Refusal :=
  s.ends (s.when (Instr.wf (.arbGrant die inst arrivals) && s.clocked die (arbDomain die inst)) fun s =>
    arbGrantEff die inst arrivals s)

/-- ARB_AGED (R312). -/
def execArbAged (die inst cls : Nat) (s : State) : Host.Outcome State Fault Refusal :=
  s.ends (s.when (Instr.wf (.arbAged die inst cls) && s.clocked die (arbDomain die inst)) fun s => arbAgedEff die inst cls s)

/-- ARB_FREEZE (R314). -/
def execArbFreeze (die inst v : Nat) (s : State) : Host.Outcome State Fault Refusal :=
  s.ends (s.when (Instr.wf (.arbFreeze die inst v) && s.aon.powered && !s.isHeld die) fun s => arbFreezeEff die inst v s)

end Sys2Proof.Machine
end

