-- ==== Sys2Proof/Machine/ExecClocks.lean ====
section
/-!
DEFINITION. Clock, power and temperature events (R337 to R363).
-/

namespace Sys2Proof.Machine

/-- PLL_LOCK_LOST (R341). -/
def execPllLockLost (die domain : Nat) (s : State) : Host.Outcome State Fault Refusal :=
  s.ends (s.when (Instr.wf (.pllLockLost die domain) && s.aon.powered) fun s => pllLockLostEff die domain s)

/-- REFERENCE_LOST (R342). -/
def execReferenceLost (osc : Nat) (s : State) : Host.Outcome State Fault Refusal :=
  s.ends (s.when (Instr.wf (.referenceLost osc)) fun s => referenceLostEff osc s)

/-- POWER_APPLIED (R407). -/
def execPowerApplied (mode : Bool) (s : State) : Host.Outcome State Fault Refusal :=
  s.ends (powerAppliedEff mode s)

/-- VIN_SAMPLE (R355). -/
def execVinSample (tenmv : Nat) (s : State) : Host.Outcome State Fault Refusal :=
  s.ends (s.when (Instr.wf (.vinSample tenmv)) fun s => vinSampleEff tenmv s)

/-- POWER_LOST (R355). -/
def execPowerLost (s : State) : Host.Outcome State Fault Refusal :=
  s.ends (powerLostEff s)

/-- POWER_READING (R359). -/
def execPowerReading (watts average : Nat) (s : State) : Host.Outcome State Fault Refusal :=
  s.ends (s.when (Instr.wf (.powerReading watts average) && s.aon.powered) fun s => powerReadingEff watts average s)

/-- POWER_MS_BOUNDARY (R359). -/
def execPowerMsBoundary (temps : List (Nat × Nat)) (s : State) : Host.Outcome State Fault Refusal :=
  s.ends (s.when (Instr.wf (.powerMsBoundary temps) && s.aon.powered) fun s => powerMsBoundaryEff temps s)

/-- THROTTLE_STEP (R358). -/
def execThrottleStep (die : Nat) (s : State) : Host.Outcome State Fault Refusal :=
  s.ends (s.when (Instr.wf (.throttleStep die) && s.aon.powered) fun s => throttleStepEff die s)

/-- THERMAL_TRIP (R360). -/
def execThermalTrip (die temp : Nat) (s : State) : Host.Outcome State Fault Refusal :=
  s.ends (s.when (Instr.wf (.thermalTrip die temp)) fun s => thermalTripEff die temp s)

/-- COOLANT_FAULT (R361). -/
def execCoolantFault (tIn tOut flow : Nat) (s : State) : Host.Outcome State Fault Refusal :=
  s.ends (s.when (Instr.wf (.coolantFault tIn tOut flow) && s.aon.powered) fun s => coolantFaultEff tIn tOut flow s)

/-- COOLANT_CLEAR (R361). -/
def execCoolantClear (tIn tOut flow : Nat) (s : State) : Host.Outcome State Fault Refusal :=
  s.ends (s.when (Instr.wf (.coolantClear tIn tOut flow) && s.aon.powered) fun s => coolantClearEff tIn tOut flow s)

end Sys2Proof.Machine
end

