-- ==== Sys2Proof/Machine/ExecDaybreak.lean ====
section
/-!
DEFINITION. Daybreak's steps (R407 to R422).
-/

namespace Sys2Proof.Machine

/-- DAYBREAK_STEP_COMPLETE (R408). -/
def execDaybreakStepComplete (fails : List (Nat × Nat)) (s : State) : Host.Outcome State Fault Refusal :=
  s.ends (s.when (Instr.wf (.daybreakStepComplete fails) && s.aon.powered) fun s => daybreakStepCompleteEff fails s)

/-- DAYBREAK_GO (R411). -/
def execDaybreakGo (s : State) : Host.Outcome State Fault Refusal :=
  s.ends (s.when (s.aon.powered) fun s => daybreakGoEff s)

/-- PLL_LOCK_TIMEOUT (R413). -/
def execPllLockTimeout (die domain : Nat) (s : State) : Host.Outcome State Fault Refusal :=
  s.ends (s.when (Instr.wf (.pllLockTimeout die domain) && s.aon.powered) fun s => pllLockTimeoutEff die domain s)

/-- WEAVE_STEP_TIMEOUT (R413). -/
def execWeaveStepTimeout (die : Nat) (s : State) : Host.Outcome State Fault Refusal :=
  s.ends (s.when (Instr.wf (.weaveStepTimeout die) && s.aon.powered) fun s => weaveStepTimeoutEff die s)

/-- SEAM_WAIT_TIMEOUT (R414). -/
def execSeamWaitTimeout (s : State) : Host.Outcome State Fault Refusal :=
  s.ends (s.when (s.aon.powered) fun s => seamWaitTimeoutEff s)

/-- PEER_STEP_TIMEOUT (R415). -/
def execPeerStepTimeout (s : State) : Host.Outcome State Fault Refusal :=
  s.ends (s.when (s.aon.powered) fun s => peerStepTimeoutEff s)

/-- ETH_STEP_TIMEOUT (R416). -/
def execEthStepTimeout (s : State) : Host.Outcome State Fault Refusal :=
  s.ends (s.when (s.aon.powered) fun s => ethStepTimeoutEff s)

/-- ANNOUNCE_REPEAT (R416). -/
def execAnnounceRepeat (s : State) : Host.Outcome State Fault Refusal :=
  s.ends (s.when (s.clocked 0 5) fun s => announceRepeatEff s)

end Sys2Proof.Machine
end

