-- ==== Sys2Proof/Machine/ExecDebug.lean ====
section
/-!
DEFINITION. Dumps and the J20 port (R438 to R443).
-/

namespace Sys2Proof.Machine

/-- DUMP_DONE (R438). -/
def execDumpDone (s : State) : Host.Outcome State Fault Refusal :=
  s.ends (s.when (s.clocked 0 5) fun s => dumpDoneEff s)

/-- DEBUG_RING_TIMEOUT (R438). -/
def execDebugRingTimeout (write : Bool) (die bank : Nat) (s : State) : Host.Outcome State Fault Refusal :=
  s.ends (s.when (Instr.wf (.debugRingTimeout write die bank) && s.clocked 0 5) fun s => debugRingTimeoutEff write die bank s)

/-- DUMP_ON_DEMAND (R439). -/
def execDumpOnDemand (dies : Nat) (s : State) : Host.Outcome State Fault Refusal :=
  s.ends (s.when (Instr.wf (.dumpOnDemand dies) && s.clocked 0 5) fun s => dumpOnDemandEff dies s)

/-- J20_UART_COMMAND (R443). -/
def execJ20UartCommand (line : List Byte) (s : State) : Host.Outcome State Fault Refusal :=
  s.ends (j20UartEff line s)

/-- J20_TAP_ACCESS (R443). -/
def execJ20TapAccess (reg : Nat) (s : State) : Host.Outcome State Fault Refusal :=
  s.ends (s.when (Instr.wf (.j20TapAccess reg)) fun s => j20TapEff reg s)

end Sys2Proof.Machine
end

