-- ==== Sys2Proof/Machine/ExecEthernet.lean ====
section
/-!
DEFINITION. The Ethernet port and RoCEv2 (R366 to R374).
-/

namespace Sys2Proof.Machine

/-- ETH_SPEED_TRY (R367). -/
def execEthSpeedTry (s : State) : Host.Outcome State Fault Refusal :=
  s.ends (s.when (s.clocked 0 4) fun s => ethSpeedTryEff s)

/-- ETH_LINK_LOSS (R367). -/
def execEthLinkLoss (s : State) : Host.Outcome State Fault Refusal :=
  s.ends (s.when (s.aon.powered && !s.isHeld 0) fun s => ethLinkLossEff s)

/-- ETH_SPEEDS_WRITE (R367). -/
def execEthSpeedsWrite (v : Nat) (s : State) : Host.Outcome State Fault Refusal :=
  s.ends (s.when (Instr.wf (.ethSpeedsWrite v) && s.aon.powered && !s.isHeld 0) fun s => ethSpeedsWriteEff v s)

/-- ETH_RX_FRAME (R368). -/
def execEthRxFrame (f : EthFrame) (s : State) : Host.Outcome State Fault Refusal :=
  s.ends (s.when (Instr.wf (.ethRxFrame f) && s.clocked 0 4 && s.flag R.ETH_STATUS_LINK_UP 0) fun s => ethRxFrameEff f s)

/-- PFC_RX (R369). -/
def execPfcRx (prios : Nat) (quanta : List Nat) (s : State) : Host.Outcome State Fault Refusal :=
  s.ends (s.when (Instr.wf (.pfcRx prios quanta) && s.clocked 0 4) fun s => pfcRxEff prios quanta s)

/-- PFC_REFRESH (R369). -/
def execPfcRefresh (s : State) : Host.Outcome State Fault Refusal :=
  s.ends (s.when (s.clocked 0 4 && s.flag R.ETH_STATUS_LINK_UP 0) fun s => pfcRefreshEff s)

/-- RDMA_PACKET_RX (R372). -/
def execRdmaPacketRx (p : RdmaPkt) (s : State) : Host.Outcome State Fault Refusal :=
  s.ends (s.when (Instr.wf (.rdmaPacketRx p) && s.clocked 0 4 && s.flag R.ETH_STATUS_LINK_UP 0) fun s =>
    rdmaPacketRxEff p s.rxFrame)

/-- RDMA_CNP_RX (R373). -/
def execRdmaCnpRx (qp : Nat) (s : State) : Host.Outcome State Fault Refusal :=
  s.ends (s.when (Instr.wf (.rdmaCnpRx qp) && s.clocked 0 4 && s.flag R.ETH_STATUS_LINK_UP 0) fun s => rdmaCnpRxEff qp s.rxFrame)

/-- RDMA_RATE_RECOVER (R373). -/
def execRdmaRateRecover (qp : Nat) (s : State) : Host.Outcome State Fault Refusal :=
  s.ends (s.when (Instr.wf (.rdmaRateRecover qp) && s.clocked 0 4) fun s => rdmaRateRecoverEff qp s)

/-- RDMA_ACK_TIMEOUT (R374). -/
def execRdmaAckTimeout (qp : Nat) (s : State) : Host.Outcome State Fault Refusal :=
  s.ends (s.when (Instr.wf (.rdmaAckTimeout qp) && s.clocked 0 4) fun s => rdmaAckTimeoutEff qp s)

/-- QP_LOAD (R371). -/
def execQpLoad (qp : Nat) (s : State) : Host.Outcome State Fault Refusal :=
  s.ends (s.when (Instr.wf (.qpLoad qp) && s.aon.powered && !s.isHeld 0) fun s => qpLoadEff qp s)

/-- QP_TO_ERROR (R374). -/
def execQpToError (qp : Nat) (s : State) : Host.Outcome State Fault Refusal :=
  s.ends (s.when (Instr.wf (.qpToError qp) && s.aon.powered && !s.isHeld 0) fun s => qpToErrorEff qp s)

/-- QP_TO_RESET (R374). -/
def execQpToReset (qp : Nat) (s : State) : Host.Outcome State Fault Refusal :=
  s.ends (s.when (Instr.wf (.qpToReset qp) && s.aon.powered && !s.isHeld 0) fun s => qpToResetEff qp s)

/-- PCS_LOCK (R367). -/
def execPcsLock (lanes : Nat) (s : State) : Host.Outcome State Fault Refusal :=
  s.ends (s.when (Instr.wf (.pcsLock lanes) && s.clocked 0 4) fun s => pcsLockEff lanes s)

/-- PAUSE_QUANTA_EXPIRE (R369). -/
def execPauseQuantaExpire (prio : Nat) (s : State) : Host.Outcome State Fault Refusal :=
  s.ends (s.when (Instr.wf (.pauseQuantaExpire prio) && s.clocked 0 4) fun s => pauseQuantaExpireEff prio s)

/-- NAK_RECEIVED (R374). -/
def execNakReceived (qp : Nat) (s : State) : Host.Outcome State Fault Refusal :=
  s.ends (s.when (Instr.wf (.nakReceived qp) && s.clocked 0 4 && s.flag R.ETH_STATUS_LINK_UP 0) fun s =>
    nakReceivedEff qp s.rxFrame)

end Sys2Proof.Machine
end

