-- ==== Sys2Proof/Machine/ExecHost.lean ====
section
/-!
DEFINITION. OCT requests (R375 to R387), contexts and fences (R351, R352).
-/

namespace Sys2Proof.Machine

/-- FENCE (R351). -/
def execFence (h : OctHdr) (s : State) : Host.Outcome State Fault Refusal :=
  s.ends (s.when (Instr.wf (.fence h)) fun s => octReqEff 0x31 h 0 s)

/-- FENCE_PROBE (R351). -/
def execFenceProbe (number entry : Nat) (s : State) : Host.Outcome State Fault Refusal :=
  s.ends (s.when (Instr.wf (.fenceProbe number entry) && s.clocked 0 5) fun s => fenceProbeEff number entry s)

/-- FENCE_WATERMARK_SEND (R351). -/
def execFenceWatermarkSend (number entry : Nat) (s : State) : Host.Outcome State Fault Refusal :=
  s.ends (s.when (Instr.wf (.fenceWatermarkSend number entry) && s.clocked 0 5) fun s => fenceWatermarkSendEff number entry s)

/-- FENCE_WATERMARK_ARRIVE (R351). -/
def execFenceWatermarkArrive (number entry : Nat) (s : State) : Host.Outcome State Fault Refusal :=
  s.ends (s.when (Instr.wf (.fenceWatermarkArrive number entry) && s.clocked 0 5) fun s => fenceWatermarkArriveEff number entry s)

/-- FENCE_TIMEOUT (R352). -/
def execFenceTimeout (number : Nat) (s : State) : Host.Outcome State Fault Refusal :=
  s.ends (s.when (Instr.wf (.fenceTimeout number) && s.clocked 0 5) fun s => fenceTimeoutEff number s)

/-- NEGOTIATE (R376). -/
def execNegotiate (h : OctHdr) (s : State) : Host.Outcome State Fault Refusal :=
  s.ends (s.when (Instr.wf (.negotiate h)) fun s => octReqEff 0x01 h 0 s)

/-- CLOSE (R376). -/
def execClose (h : OctHdr) (s : State) : Host.Outcome State Fault Refusal :=
  s.ends (s.when (Instr.wf (.close h)) fun s => octReqEff 0x02 h 0 s)

/-- CSR_READ (R379). -/
def execCsrRead (h : OctHdr) (s : State) : Host.Outcome State Fault Refusal :=
  s.ends (s.when (Instr.wf (.csrRead h)) fun s => octReqEff 0x10 h 0 s)

/-- CSR_WRITE (R379). -/
def execCsrWrite (h : OctHdr) (s : State) : Host.Outcome State Fault Refusal :=
  s.ends (s.when (Instr.wf (.csrWrite h)) fun s => octReqEff 0x11 h 0 s)

/-- MEM_READ (R378). -/
def execMemRead (h : OctHdr) (s : State) : Host.Outcome State Fault Refusal :=
  s.ends (s.when (Instr.wf (.memRead h)) fun s => octReqEff 0x14 h 0 s)

/-- MEM_WRITE (R378). -/
def execMemWrite (h : OctHdr) (s : State) : Host.Outcome State Fault Refusal :=
  s.ends (s.when (Instr.wf (.memWrite h)) fun s => octReqEff 0x15 h 0 s)

/-- DOORBELL (R383). -/
def execDoorbell (h : OctHdr) (s : State) : Host.Outcome State Fault Refusal :=
  s.ends (s.when (Instr.wf (.doorbell h)) fun s => octReqEff 0x30 h 0 s)

/-- CTX_OPEN (R384). -/
def execCtxOpen (h : OctHdr) (s : State) : Host.Outcome State Fault Refusal :=
  s.ends (s.when (Instr.wf (.ctxOpen h)) fun s => octReqEff 0x41 h 0 s)

/-- CTX_CLOSE (R384). -/
def execCtxClose (h : OctHdr) (s : State) : Host.Outcome State Fault Refusal :=
  s.ends (s.when (Instr.wf (.ctxClose h)) fun s => octReqEff 0x42 h 0 s)

/-- CTX_STOP_CONFIRMED (R384). -/
def execCtxStopConfirmed (ctx : Nat) (s : State) : Host.Outcome State Fault Refusal :=
  s.ends (s.when (Instr.wf (.ctxStopConfirmed ctx) && s.clocked 0 5) fun s => ctxStopConfirmedEff ctx s)

/-- CTX_CLOSED (R384). -/
def execCtxClosed (ctx : Nat) (s : State) : Host.Outcome State Fault Refusal :=
  s.ends (s.when (Instr.wf (.ctxClosed ctx) && s.clocked 0 5) fun s => ctxClosedEff ctx s)

/-- CTX_DRAIN_LIMIT (R387). -/
def execCtxDrainLimit (ctx : Nat) (s : State) : Host.Outcome State Fault Refusal :=
  s.ends (s.when (Instr.wf (.ctxDrainLimit ctx) && s.clocked 0 5) fun s => ctxDrainLimitEff ctx s)

/-- SUBSCRIBE (R381). -/
def execSubscribe (h : OctHdr) (s : State) : Host.Outcome State Fault Refusal :=
  s.ends (s.when (Instr.wf (.subscribe h)) fun s => octReqEff 0x50 h 0 s)

/-- OCT_SESSION_IDLE (R376). -/
def execOctSessionIdle (src port session : Nat) (s : State) : Host.Outcome State Fault Refusal :=
  s.ends (s.when (Instr.wf (.octSessionIdle src port session) && s.clocked 0 5) fun s => octSessionIdleEff src port session s)

end Sys2Proof.Machine
end

