-- ==== Sys2Proof/Machine/ExecIngest.lean ====
section
/-!
DEFINITION. Commands on the reservoir and the ingest engines (R178 to R208).
-/

namespace Sys2Proof.Machine

/-- RESERVOIR_PACKET (R185). -/
def execReservoirPacket (p : RdmaPkt) (s : State) : Host.Outcome State Fault Refusal :=
  s.ends (s.when (Instr.wf (.reservoirPacket p) && s.clocked 0 4 && s.flag R.ETH_STATUS_LINK_UP 0) fun s =>
    reservoirPacketEff p s.rxFrame)

/-- RESERVOIR_CHUNK_COMPLETE (R185). -/
def execReservoirChunkComplete (qp : Nat) (s : State) : Host.Outcome State Fault Refusal :=
  s.ends (s.when (Instr.wf (.reservoirChunkComplete qp) && s.clocked 0 4) fun s => reservoirChunkCompleteEff qp s)

/-- DEMUX_CHUNK (R188). -/
def execDemuxChunk (hub inst : Nat) (s : State) : Host.Outcome State Fault Refusal :=
  s.ends (s.when (Instr.wf (.demuxChunk hub inst) && s.engineOn hub 0x30 inst) fun s => demuxChunkEff hub inst s)

/-- VDEC_UNIT (R191). -/
def execVdecUnit (hub inst : Nat) (u : VUnit) (s : State) : Host.Outcome State Fault Refusal :=
  s.ends (s.when (Instr.wf (.vdecUnit hub inst u) && s.engineOn hub 0x31 inst) fun s => vdecUnitEff hub inst u s)

/-- ADEC_AUDIO_BLOCK (R198). -/
def execAdecAudioBlock (hub inst error : Nat) (blocks : List ABlock) (s : State) : Host.Outcome State Fault Refusal :=
  s.ends (s.when (Instr.wf (.adecAudioBlock hub inst error blocks) && s.engineOn hub 0x32 inst) fun s =>
    adecAudioBlockEff hub inst error blocks s)

/-- ADEC_CAPTION (R199). -/
def execAdecCaption (hub inst error : Nat) (recs : List CapRec) (s : State) : Host.Outcome State Fault Refusal :=
  s.ends (s.when (Instr.wf (.adecCaption hub inst error recs) && s.engineOn hub 0x32 inst) fun s =>
    adecCaptionEff hub inst error recs s)

/-- XFORM_FRAME (R200). -/
def execXformFrame (hub inst : Nat) (s : State) : Host.Outcome State Fault Refusal :=
  s.ends (s.when (Instr.wf (.xformFrame hub inst) && s.engineOn hub 0x33 inst) fun s => xformFrameEff hub inst s)

/-- TOKEN_TILE (R202). -/
def execTokenTile (hub inst : Nat) (s : State) : Host.Outcome State Fault Refusal :=
  s.ends (s.when (Instr.wf (.tokenTile hub inst) && s.engineOn hub 0x34 inst) fun s => tokenTileEff hub inst s)

/-- DELIVERY_ENTRY (R204). -/
def execDeliveryEntry (hub inst : Nat) (s : State) : Host.Outcome State Fault Refusal :=
  s.ends (s.when (Instr.wf (.deliveryEntry hub inst) && s.clocked hub 0) fun s => deliveryEntryEff hub inst s)

/-- DELIVERY_CONSUMED_POLL (R205). -/
def execDeliveryConsumedPoll (hub inst : Nat) (s : State) : Host.Outcome State Fault Refusal :=
  s.ends (s.when (Instr.wf (.deliveryConsumedPoll hub inst) && s.clocked hub 0) fun s => deliveryConsumedPollEff hub inst s)

/-- STAGE_ROOM_RESUME (R206). -/
def execStageRoomResume (hub block inst : Nat) (s : State) : Host.Outcome State Fault Refusal :=
  s.ends (s.when (Instr.wf (.stageRoomResume hub block inst) && (if block = 0xFE then s.clocked hub 0 else s.engineOn hub block inst)) fun s =>
    stageRoomResumeEff hub block inst s)

end Sys2Proof.Machine
end

