-- ==== Sys2Proof/Machine/ExecLinks.lean ====
section
/-!
DEFINITION. Commands on peer links, weaves and the seam (R266 to R272, R315 to R336).
-/

namespace Sys2Proof.Machine

/-- PEER_REPLAY (R270). -/
def execPeerReplay (port : Nat) (rx : Bool) (s : State) : Host.Outcome State Fault Refusal :=
  s.ends (s.when (Instr.wf (.peerReplay port rx) && s.clocked (port / 8) 2) fun s => peerReplayEff port rx s)

/-- PEER_LINK_DOWN (R270). -/
def execPeerLinkDown (port : Nat) (s : State) : Host.Outcome State Fault Refusal :=
  s.ends (s.when (Instr.wf (.peerLinkDown port) && s.clocked (port / 8) 2) fun s => peerLinkDownEff port s)

/-- PEER_LINK_UP (R415). -/
def execPeerLinkUp (port lanes partnerMax partnerPart : Nat) (retrainOk : Bool) (s : State) : Host.Outcome State Fault Refusal :=
  s.ends (s.when (Instr.wf (.peerLinkUp port lanes partnerMax partnerPart retrainOk) && s.clocked (port / 8) 2) fun s =>
    peerLinkUpEff port lanes partnerMax partnerPart retrainOk s)

/-- PEER_LINK_RETRY (R415). -/
def execPeerLinkRetry (port lanes partnerMax partnerPart : Nat) (retrainOk : Bool) (s : State) : Host.Outcome State Fault Refusal :=
  s.ends (s.when (Instr.wf (.peerLinkRetry port lanes partnerMax partnerPart retrainOk) && s.clocked (port / 8) 2) fun s =>
    peerLinkRetryEff port lanes partnerMax partnerPart retrainOk s)

/-- WEAVE_RETRAIN (R323). -/
def execWeaveRetrain (die : Nat) (s : State) : Host.Outcome State Fault Refusal :=
  s.ends (s.when (Instr.wf (.weaveRetrain die) && s.aon.powered && !s.isHeld die) fun s => weaveRetrainEff die s)

/-- WEAVE_TRAIN_DONE (R323). -/
def execWeaveTrainDone (die : Nat) (goodA goodB : Bool) (s : State) : Host.Outcome State Fault Refusal :=
  s.ends (s.when (Instr.wf (.weaveTrainDone die goodA goodB) && s.aon.powered) fun s => weaveTrainDoneEff die goodA goodB s)

/-- WEAVE_WORD_ERROR (R322). -/
def execWeaveWordError (die : Nat) (atDie same : Bool) (s : State) : Host.Outcome State Fault Refusal :=
  s.ends (s.when (Instr.wf (.weaveWordError die atDie same) && s.aon.powered) fun s => weaveWordErrorEff die atDie same s)

/-- WEAVE_DOWN_RETRY (R323). -/
def execWeaveDownRetry (die : Nat) (s : State) : Host.Outcome State Fault Refusal :=
  s.ends (s.when (Instr.wf (.weaveDownRetry die) && s.aon.powered) fun s => weaveDownRetryEff die s)

/-- SEAM_RETRAIN (R336). -/
def execSeamRetrain (hub : Nat) (s : State) : Host.Outcome State Fault Refusal :=
  s.ends (s.when (Instr.wf (.seamRetrain hub) && s.aon.powered && !s.isHeld hub && s.runs hub 3) fun s => seamRetrainEff hub s)

/-- SEAM_RECEIVER_LOCK (R327). -/
def execSeamReceiverLock (hub : Nat) (s : State) : Host.Outcome State Fault Refusal :=
  s.ends (s.when (Instr.wf (.seamReceiverLock hub) && s.aon.powered && !s.isHeld hub && s.runs hub 3) fun s =>
    seamReceiverLockEff hub s)

/-- SEAM_LANE_TEST_END (R327). -/
def execSeamLaneTestEnd (hub mask : Nat) (s : State) : Host.Outcome State Fault Refusal :=
  s.ends (s.when (Instr.wf (.seamLaneTestEnd hub mask) && s.aon.powered && !s.isHeld hub && s.runs hub 3) fun s =>
    seamLaneTestEndEff hub mask s)

/-- SEAM_TRAINING_SET (R329). -/
def execSeamTrainingSet (hub : Nat) (set : List Byte) (s : State) : Host.Outcome State Fault Refusal :=
  s.ends (s.when (Instr.wf (.seamTrainingSet hub set) && s.aon.powered && !s.isHeld hub && s.runs hub 3) fun s =>
    seamTrainingSetEff hub set s)

/-- SEAM_AGREE_LIMIT (R331). -/
def execSeamAgreeLimit (hub : Nat) (s : State) : Host.Outcome State Fault Refusal :=
  s.ends (s.when (Instr.wf (.seamAgreeLimit hub) && s.aon.powered && !s.isHeld hub && s.runs hub 3) fun s =>
    seamAgreeLimitEff hub s)

/-- SEAM_CONFIRM_END (R330). -/
def execSeamConfirmEnd (hub : Nat) (error : Bool) (s : State) : Host.Outcome State Fault Refusal :=
  s.ends (s.when (Instr.wf (.seamConfirmEnd hub error) && s.aon.powered && !s.isHeld hub && s.runs hub 3) fun s =>
    seamConfirmEndEff hub error s)

/-- SEAM_LOSS_LIMIT (R332). -/
def execSeamLossLimit (hub : Nat) (s : State) : Host.Outcome State Fault Refusal :=
  s.ends (s.when (Instr.wf (.seamLossLimit hub) && s.aon.powered && !s.isHeld hub && s.runs hub 3) fun s =>
    seamLossLimitEff hub s)

/-- SEAM_UP_STABLE (R331). -/
def execSeamUpStable (hub : Nat) (s : State) : Host.Outcome State Fault Refusal :=
  s.ends (s.when (Instr.wf (.seamUpStable hub) && s.aon.powered && !s.isHeld hub && s.runs hub 3) fun s => seamUpStableEff hub s)

/-- SEAM_DOWN_RETRY (R327). -/
def execSeamDownRetry (hub : Nat) (s : State) : Host.Outcome State Fault Refusal :=
  s.ends (s.when (Instr.wf (.seamDownRetry hub) && s.aon.powered && !s.isHeld hub && s.runs hub 3) fun s =>
    seamDownRetryEff hub s)

/-- SEAM_FLIT_ERROR (R326). -/
def execSeamFlitError (hub : Nat) (same : Bool) (s : State) : Host.Outcome State Fault Refusal :=
  s.ends (s.when (Instr.wf (.seamFlitError hub same) && s.aon.powered && !s.isHeld hub && s.runs hub 3) fun s =>
    seamFlitErrorEff hub same s)

end Sys2Proof.Machine
end

