-- ==== Sys2Proof/Machine/ExecMatrix.lean ====
section
/-!
DEFINITION. Commands on the matrix cores (R82 to R104).
-/

namespace Sys2Proof.Machine

/-- MXC_QTAIL_WRITE (R84). -/
def execMxcQtailWrite (die core ctx tail : Nat) (s : State) : Host.Outcome State Fault Refusal :=
  s.ends (s.when (Instr.wf (.mxcQtailWrite die core ctx tail) && s.aon.powered) fun s => qtailWriteEff mxcQ die core ctx tail s)

/-- TOKEN_CLEAR (R104). -/
def execTokenClear (die core : Nat) (s : State) : Host.Outcome State Fault Refusal :=
  s.ends (s.when (Instr.wf (.tokenClear die core) && s.aon.powered && !s.isHeld die && s.coreOk die core) fun s =>
    tokenClearEff die core s)

/-- DESCRIPTOR_TAKE (R85). -/
def execDescriptorTake (die core : Nat) (s : State) : Host.Outcome State Fault Refusal :=
  s.ends (s.when (Instr.wf (.descriptorTake die core) && s.coreAt die core 0) fun s =>
    descriptorTakeEff (s.discardingDie die || s.unitIdle die 0x10 (s.lead die core)) die core s)

/-- TOKEN_WAIT_MET (R91). -/
def execTokenWaitMet (mover : Bool) (die core ctx : Nat) (s : State) : Host.Outcome State Fault Refusal :=
  s.ends (s.when (Instr.wf (.tokenWaitMet mover die core ctx) && s.coreAt die core 0) fun s =>
    if mover then moveWaitEff die core ctx s else tileWaitEff die core ctx s)

/-- PRODUCT_START (R83). -/
def execProductStart (die core starved : Nat) (s : State) (fillers : Nat := 0) : Host.Outcome State Fault Refusal :=
  s.ends (s.when (Instr.wf (.productStart die core starved fillers) && s.coreAt die core 0) fun s =>
    productStartEff die core starved fillers s)

/-- PRODUCT_COMPLETE (R82). -/
def execProductComplete (die core stall : Nat) (s : State) (fixed : List (Nat × Nat) := []) : Host.Outcome State Fault Refusal :=
  s.ends (s.when (Instr.wf (.productComplete die core stall fixed) && s.coreAt die core 0) fun s =>
    productCompleteEff die core stall fixed s)

/-- BARRIER_COMPLETE (R87). -/
def execBarrierComplete (die core ctx : Nat) (s : State) : Host.Outcome State Fault Refusal :=
  s.ends (s.when (Instr.wf (.barrierComplete die core ctx) && s.coreAt die core 0) fun s => barrierCompleteEff die core ctx s)

/-- LOCK_LIMIT_EXPIRE (R86). -/
def execLockLimitExpire (die core : Nat) (s : State) : Host.Outcome State Fault Refusal :=
  s.ends (s.when (Instr.wf (.lockLimitExpire die core) && s.coreAt die core 0) fun s => lockLimitEff die core s)

/-- GROUP_SLEEP (R102). -/
def execGroupSleep (die core fillers : Nat) (s : State) : Host.Outcome State Fault Refusal :=
  s.ends (s.when (Instr.wf (.groupSleep die core fillers) && s.coreAt die core 0) fun s => groupSleepEff die core fillers s)

/-- GROUP_WAKE (R102). -/
def execGroupWake (die core fillers : Nat) (s : State) : Host.Outcome State Fault Refusal :=
  s.ends (s.when (Instr.wf (.groupWake die core fillers) && s.coreAt die core 0) fun s => groupWakeEff die core fillers s)

/-- ACC_ECC_UNCORR (R103). -/
def execAccEccUncorr (die core tile : Nat) (s : State) : Host.Outcome State Fault Refusal :=
  s.ends (s.when (Instr.wf (.accEccUncorr die core tile) && s.coreAt die core 0) fun s => accEccEff die core tile s)

/-- FEED_PARITY (R103). -/
def execFeedParity (die core : Nat) (s : State) : Host.Outcome State Fault Refusal :=
  s.ends (s.when (Instr.wf (.feedParity die core) && s.coreAt die core 0) fun s => feedParityEff die core s)

end Sys2Proof.Machine
end

