-- ==== Sys2Proof/Machine/ExecMemory.lean ====
section
/-!
DEFINITION. Commands on scratchpads, movers, memory and remote-line caches (R151 to R177).
-/

namespace Sys2Proof.Machine

/-- R426: does the mover's move touch a die other than its own, or another unit's scratchpad, that is in dusk or in reset? -/
def State.moveCut (s : State) (die core : Nat) : Bool :=
  match (s.mover die core).hand with
  | some d => moveLive d.raw && (moveRows d.raw).any (fun r =>
      (mOp d.raw == 1 && s.cutAt die (some core) r.1 (mRowBytes d.raw)) || s.cutAt die (some core) r.2 (mRowBytes d.raw))
  | none => false

/-- R426: such a move ends with ABORTED, and no access fault is recorded. -/
def moveCutEff (die core cycles : Nat) (s : State) : State :=
  match (s.mover die core).hand with
  | some d => (s.putMover die core { (s.mover die core) with hand := none }).moveFinish die core d 0xA 0 cycles
  | none => s

/-- SPAD_QTAIL_WRITE (R155). -/
def execSpadQtailWrite (die core ctx tail : Nat) (s : State) : Host.Outcome State Fault Refusal :=
  s.ends (s.when (Instr.wf (.spadQtailWrite die core ctx tail) && s.aon.powered) fun s => qtailWriteEff spadQ die core ctx tail s)

/-- MOVE_TAKE (R158). -/
def execMoveTake (die core : Nat) (s : State) : Host.Outcome State Fault Refusal :=
  s.ends (s.when (Instr.wf (.moveTake die core) && s.coreAt die core 0 && !s.unitIdle die 0x12 core) fun s =>
    moveTakeEff die core s)

/-- MOVE_COMPLETE (R157). -/
def execMoveComplete (die core cycles : Nat) (s : State) (fixed : List (Nat × Nat) := []) : Host.Outcome State Fault Refusal :=
  s.ends (s.when (Instr.wf (.moveComplete die core cycles fixed) && s.coreAt die core 0) fun s =>
    if s.moveCut die core then moveCutEff die core cycles s else moveCompleteEff die core cycles fixed s)

/-- SPAD_ECC_UNCORR (R154). -/
def execSpadEccUncorr (die core off : Nat) (s : State) : Host.Outcome State Fault Refusal :=
  s.ends (s.when (Instr.wf (.spadEccUncorr die core off) && s.coreAt die core 0) fun s => spadEccEff die core off s)

/-- MEMORY_REQUEST (R166). -/
def execMemoryRequest (q : MemReq) (s : State) : Host.Outcome State Fault Refusal :=
  s.ends (s.when (Instr.wf (.memoryRequest q) && s.aon.powered && !s.isHeld q.die) fun s =>
    if s.cutAt q.die none q.addr q.len then s.send (.mem q.tag false 0 []) else memoryRequestEff q s)

/-- RLC_FILL_RETURN (R164). -/
def execRlcFillReturn (die line : Nat) (s : State) : Host.Outcome State Fault Refusal :=
  s.ends (s.when (Instr.wf (.rlcFillReturn die line) && s.clocked die 2) fun s => rlcFillEff die line s)

/-- RLC_INVALIDATION (R165). -/
def execRlcInvalidation (die line : Nat) (s : State) : Host.Outcome State Fault Refusal :=
  s.ends (s.when (Instr.wf (.rlcInvalidation die line) && s.clocked die 2) fun s => rlcInvalEff die line s)

/-- PATROL_SCRUB (R162). -/
def execPatrolScrub (die stack result addr : Nat) (s : State) : Host.Outcome State Fault Refusal :=
  s.ends (s.when (Instr.wf (.patrolScrub die stack result addr) && s.clocked die (4 + stack)) fun s =>
    patrolScrubEff die stack result addr s)

/-- DRAM_REFRESH (R162). -/
def execDramRefresh (die stack chan : Nat) (s : State) : Host.Outcome State Fault Refusal :=
  s.ends (s.when (Instr.wf (.dramRefresh die stack chan) && s.clocked die (4 + stack)) fun s => dramRefreshEff die stack chan s)

/-- FAR_SPILL_ACK (R173). -/
def execFarSpillAck (die core cycles : Nat) (host : List Byte) (s : State) : Host.Outcome State Fault Refusal :=
  s.ends (s.when (Instr.wf (.farSpillAck die core cycles host) && s.coreAt die core 0 && s.flag R.ETH_STATUS_LINK_UP 0 && (s.mover die core).hand.isSome) fun s =>
    State.farAcked (if s.moveCut die core then moveCutEff die core cycles s else farSpillAckEff die core cycles host s) die)

end Sys2Proof.Machine
end

