-- ==== Sys2Proof/Machine/ExecQueues.lean ====
section
/-!
DEFINITION. Enabling and resuming a queue (R95, R104), whatever unit it belongs to.
-/

namespace Sys2Proof.Machine

/-- QUEUE_ENABLE (R104). -/
def execQueueEnable (block die inst ctx size : Nat) (s : State) : Host.Outcome State Fault Refusal :=
  s.ends (s.when (Instr.wf (.queueEnable block die inst ctx size) && s.aon.powered) fun s =>
    queueEnableEff block die inst ctx size s)

/-- QUEUE_RESUME (R95). -/
def execQueueResume (block die inst ctx : Nat) (s : State) : Host.Outcome State Fault Refusal :=
  s.ends (s.when (Instr.wf (.queueResume block die inst ctx) && s.aon.powered) fun s => queueResumeEff block die inst ctx s)

end Sys2Proof.Machine
end

