-- ==== Sys2Proof/Machine/ExecReduction.lean ====
section
/-!
DEFINITION. Commands on the reduction channels (R248 to R304).
-/

namespace Sys2Proof.Machine

/-- The home hub of the channel that a frame is for (R24, R25). -/
def State.frameHome (s : State) (hop part : Nat) (f : Frame) : Nat :=
  s.chanHome (s.chanBase (if hop < 16 then s.partOfPort hop else part) + f.channel)

/-- RED_QTAIL_WRITE (R249). -/
def execRedQtailWrite (chan tail : Nat) (s : State) : Host.Outcome State Fault Refusal :=
  s.ends (s.when (Instr.wf (.redQtailWrite chan tail) && s.aon.powered) fun s =>
    qtailWriteEff redQ (s.chanHome chan) chan 0 tail s)

/-- RED_REQUEST_TAKE (R251). -/
def execRedRequestTake (chan : Nat) (s : State) : Host.Outcome State Fault Refusal :=
  s.ends (s.when (Instr.wf (.redRequestTake chan) && s.clocked (s.chanHome chan) 2) fun s => redRequestTakeEff chan s)

/-- RED_REQUEST_START (R248). -/
def execRedRequestStart (chan : Nat) (s : State) : Host.Outcome State Fault Refusal :=
  s.ends (s.when (Instr.wf (.redRequestStart chan) && s.clocked (s.chanHome chan) 2) fun s => redRequestStartEff chan s)

/-- EXPONENT_FRAME (R256). -/
def execExponentFrame (hop part : Nat) (f : Frame) (s : State) : Host.Outcome State Fault Refusal :=
  s.ends (s.when (Instr.wf (.exponentFrame hop part f) && s.clocked (s.frameHome hop part f) 2) fun s =>
    exponentFrameEff hop part f s)

/-- REDUCE_SCATTER_FRAME (R254). -/
def execReduceScatterFrame (hop part : Nat) (f : Frame) (s : State) : Host.Outcome State Fault Refusal :=
  s.ends (s.when (Instr.wf (.reduceScatterFrame hop part f) && s.clocked (s.frameHome hop part f) 2) fun s =>
    reduceScatterFrameEff hop part f s)

/-- ALL_GATHER_FRAME (R255). -/
def execAllGatherFrame (hop part : Nat) (f : Frame) (s : State) : Host.Outcome State Fault Refusal :=
  s.ends (s.when (Instr.wf (.allGatherFrame hop part f) && s.clocked (s.frameHome hop part f) 2) fun s =>
    allGatherFrameEff hop part f s)

/-- ROLL_CALL_FRAME (R253). -/
def execRollCallFrame (hop part : Nat) (f : Frame) (s : State) : Host.Outcome State Fault Refusal :=
  s.ends (s.when (Instr.wf (.rollCallFrame hop part f) && s.clocked (s.frameHome hop part f) 2) fun s =>
    rollCallFrameEff hop part f s)

/-- STRAGGLER_DECISION (R258). -/
def execStragglerDecision (chan : Nat) (s : State) : Host.Outcome State Fault Refusal :=
  s.ends (s.when (Instr.wf (.stragglerDecision chan) && s.clocked (s.chanHome chan) 2) fun s => stragglerDecisionEff chan s)

/-- RED_HANG (R263). -/
def execRedHang (chan : Nat) (s : State) : Host.Outcome State Fault Refusal :=
  s.ends (s.when (Instr.wf (.redHang chan) && s.clocked (s.chanHome chan) 2) fun s => redHangEff chan s)

/-- ALLGATHER_SHARD_FRAME (R294). -/
def execAllgatherShardFrame (hop part : Nat) (f : Frame) (s : State) : Host.Outcome State Fault Refusal :=
  s.ends (s.when (Instr.wf (.allgatherShardFrame hop part f) && s.clocked (s.frameHome hop part f) 2) fun s =>
    allgatherShardFrameEff hop part f s)

/-- GATHER_CONSUMED_POLL (R296). -/
def execGatherConsumedPoll (chan : Nat) (s : State) : Host.Outcome State Fault Refusal :=
  s.ends (s.when (Instr.wf (.gatherConsumedPoll chan) && s.clocked (s.chanHome chan) 2) fun s => gatherConsumedPollEff chan s)

/-- PERMUTE_START (R300). -/
def execPermuteStart (chan : Nat) (s : State) : Host.Outcome State Fault Refusal :=
  s.ends (s.when (Instr.wf (.permuteStart chan) && s.clocked (s.chanHome chan) 2) fun s => permuteStartEff chan s)

/-- PERMUTE_MOVE_FRAME (R301). -/
def execPermuteMoveFrame (hop part : Nat) (f : Frame) (s : State) : Host.Outcome State Fault Refusal :=
  s.ends (s.when (Instr.wf (.permuteMoveFrame hop part f) && s.clocked (s.frameHome hop part f) 2) fun s =>
    permuteMoveFrameEff hop part f s)

/-- PERMUTE_COMPLETE (R301). -/
def execPermuteComplete (chan : Nat) (s : State) : Host.Outcome State Fault Refusal :=
  s.ends (s.when (Instr.wf (.permuteComplete chan) && s.clocked (s.chanHome chan) 2) fun s => permuteCompleteEff chan s)

end Sys2Proof.Machine
end

