-- ==== Sys2Proof/Machine/ExecRegions.lean ====
section
/-!
DEFINITION. Commands on unit regions (R58 to R66): load, stop, start, and what their engines report.
-/

namespace Sys2Proof.Machine

/-- REGION_STOP (R64). -/
def execRegionStop (h : OctHdr) (s : State) : Host.Outcome State Fault Refusal :=
  s.ends (s.when (Instr.wf (.regionStop h)) fun s => octReqEff 0x20 h 0 s)

/-- REGION_DRAINED (R61). -/
def execRegionDrained (region : Nat) (s : State) : Host.Outcome State Fault Refusal :=
  s.ends (s.when (Instr.wf (.regionDrained region) && s.clocked 0 5) fun s => regionDrainedEff region s)

/-- DRAIN_TIMEOUT (R62). -/
def execDrainTimeout (region : Nat) (s : State) : Host.Outcome State Fault Refusal :=
  s.ends (s.when (Instr.wf (.drainTimeout region) && s.clocked 0 5) fun s => drainTimeoutEff region s)

/-- REGION_LOAD (R66). -/
def execRegionLoad (h : OctHdr) (fault : Bool) (s : State) : Host.Outcome State Fault Refusal :=
  s.ends (s.when (Instr.wf (.regionLoad h fault)) fun s => octReqEff 0x21 h (b2n fault) s)

/-- REGION_START (R60). -/
def execRegionStart (h : OctHdr) (s : State) : Host.Outcome State Fault Refusal :=
  s.ends (s.when (Instr.wf (.regionStart h)) fun s => octReqEff 0x22 h 0 s)

/-- REGION_UNITS_INITIALISED (R60). -/
def execRegionUnitsInitialised (region : Nat) (ok : Bool) (s : State) : Host.Outcome State Fault Refusal :=
  s.ends (s.when (Instr.wf (.regionUnitsInitialised region ok) && s.clocked 0 5) fun s => regionUnitsInitialisedEff region ok s)

end Sys2Proof.Machine
end

