-- ==== Sys2Proof/Machine/ExecResets.lean ====
section
/-!
DEFINITION. Watchdogs and resets (R364, R423 to R437).
-/

namespace Sys2Proof.Machine

/-- EMERGENCY_RESET (R364). -/
def execEmergencyReset (s : State) : Host.Outcome State Fault Refusal :=
  s.ends (emergencyResetEff s)

/-- WATCHDOG_EXPIRE (R427). -/
def execWatchdogExpire (die block inst : Nat) (s : State) : Host.Outcome State Fault Refusal :=
  s.ends (s.when (Instr.wf (.watchdogExpire die block inst) && s.aon.powered) fun s => watchdogExpireEff die block inst s)

/-- FW_WATCHDOG_EXPIRE (R429). -/
def execFwWatchdogExpire (s : State) : Host.Outcome State Fault Refusal :=
  s.ends (s.when (s.aon.powered) fun s => fwWatchdogExpireEff s)

/-- RST_KICK (R429). -/
def execRstKick (s : State) : Host.Outcome State Fault Refusal :=
  s.ends (s.when (s.aon.powered) fun s => rstKickEff s)

/-- RESET_ENGINE (R433). -/
def execResetEngine (h : OctHdr) (s : State) : Host.Outcome State Fault Refusal :=
  s.ends (s.when (Instr.wf (.resetEngine h)) fun s => octReqEff 0x40 (withFirst h 1) 0 s)

/-- RESET_DIE (R433). -/
def execResetDie (h : OctHdr) (s : State) : Host.Outcome State Fault Refusal :=
  s.ends (s.when (Instr.wf (.resetDie h)) fun s => octReqEff 0x40 (withFirst h 2) 0 s)

/-- RESET_HALF (R433). -/
def execResetHalf (h : OctHdr) (s : State) : Host.Outcome State Fault Refusal :=
  s.ends (s.when (Instr.wf (.resetHalf h)) fun s => octReqEff 0x40 (withFirst h 3) 0 s)

/-- RESET_MODULE (R434). -/
def execResetModule (h : OctHdr) (s : State) : Host.Outcome State Fault Refusal :=
  s.ends (s.when (Instr.wf (.resetModule h)) fun s => octReqEff 0x40 (withFirst h 4) 0 s)

/-- DUSK_DRAINED (R430). -/
def execDuskDrained (die : Nat) (s : State) : Host.Outcome State Fault Refusal :=
  s.ends (s.when (Instr.wf (.duskDrained die) && s.aon.powered) fun s => duskDrainedEff die s)

/-- DUSK_LIMIT (R430). -/
def execDuskLimit (die outstanding : Nat) (s : State) : Host.Outcome State Fault Refusal :=
  s.ends (s.when (Instr.wf (.duskLimit die outstanding) && s.aon.powered) fun s => duskLimitEff die outstanding s)

/-- RESET_RELEASED (R431). -/
def execResetReleased (die : Nat) (fails : List Nat) (s : State) : Host.Outcome State Fault Refusal :=
  s.ends (s.when (Instr.wf (.resetReleased die fails) && s.aon.powered) fun s => resetReleasedEff die fails s)

/-- RESET_ESCALATE (R432). -/
def execResetEscalate (die : Nat) (s : State) : Host.Outcome State Fault Refusal :=
  s.ends (s.when (Instr.wf (.resetEscalate die) && s.aon.powered) fun s => resetEscalateEff die s)

/-- QUARANTINE_TURN_END (R436). -/
def execQuarantineTurnEnd (die inst : Nat) (s : State) : Host.Outcome State Fault Refusal :=
  s.ends (s.when (Instr.wf (.quarantineTurnEnd die inst) && s.aon.powered) fun s => quarantineTurnEndEff die inst s)

/-- REPLAY_WINDOW_EXPIRE (R436). -/
def execReplayWindowExpire (die inst : Nat) (s : State) : Host.Outcome State Fault Refusal :=
  s.ends (s.when (Instr.wf (.replayWindowExpire die inst) && s.aon.powered) fun s => replayWindowExpireEff die inst s)

/-- EMRST_N_RELEASE (R364). -/
def execEmrstNRelease (s : State) : Host.Outcome State Fault Refusal :=
  s.ends (emrstNReleaseEff s)

end Sys2Proof.Machine
end

