-- ==== Sys2Proof/Machine/ExecSecurity.lean ====
section
/-!
DEFINITION. Attestation and installation (R394 to R406).
-/

namespace Sys2Proof.Machine

/-- ATTEST_IDENTITY (R402). -/
def execAttestIdentity (h : OctHdr) (s : State) : Host.Outcome State Fault Refusal :=
  s.ends (s.when (Instr.wf (.attestIdentity h)) fun s => octReqEff 0x60 (withFirst h 1) 0 s)

/-- ATTEST_REPORT (R403). -/
def execAttestReport (h : OctHdr) (s : State) : Host.Outcome State Fault Refusal :=
  s.ends (s.when (Instr.wf (.attestReport h)) fun s => octReqEff 0x60 (withFirst h 2) 0 s)

/-- INSTALL_FW (R398). -/
def execInstallFw (h : OctHdr) (s : State) : Host.Outcome State Fault Refusal :=
  s.ends (s.when (Instr.wf (.installFw h)) fun s => octReqEff 0x61 (withTarget h 1) 0 s)

/-- INSTALL_STREAM (R398). -/
def execInstallStream (h : OctHdr) (s : State) : Host.Outcome State Fault Refusal :=
  s.ends (s.when (Instr.wf (.installStream h)) fun s => octReqEff 0x61 (withTarget h 2) 0 s)

/-- PREFER (R398). -/
def execPrefer (h : OctHdr) (s : State) : Host.Outcome State Fault Refusal :=
  s.ends (s.when (Instr.wf (.prefer h)) fun s => octReqEff 0x61 (withTarget h 3) 0 s)

/-- RAISE_SVN (R400). -/
def execRaiseSvn (h : OctHdr) (s : State) : Host.Outcome State Fault Refusal :=
  s.ends (s.when (Instr.wf (.raiseSvn h)) fun s => octReqEff 0x61 (withTarget h 4) 0 s)

/-- INSTALL_BACKGROUND_DONE (R399). -/
def execInstallBackgroundDone (flashOk : Bool) (s : State) : Host.Outcome State Fault Refusal :=
  s.ends (s.when (s.clocked 0 5) fun s => installBackgroundDoneEff flashOk s)

end Sys2Proof.Machine
end

