-- ==== Sys2Proof/Machine/ExecSets.lean ====
section
/-!
DEFINITION. Commands on the permutation, shuffle and set engines (R209 to R225).
-/

namespace Sys2Proof.Machine

/-- PERM_GEN_BLOCK (R214). -/
def execPermGenBlock (hub : Nat) (s : State) : Host.Outcome State Fault Refusal :=
  s.ends (s.when (Instr.wf (.permGenBlock hub) && s.engineOn hub 0x35 0) fun s => permGenBlockEff hub s)

/-- PERM_HOST_GO (R215). -/
def execPermHostGo (hub : Nat) (s : State) : Host.Outcome State Fault Refusal :=
  s.ends (s.when (Instr.wf (.permHostGo hub) && s.aon.powered && !s.isHeld hub) fun s => permHostGoEff hub s)

/-- PERM_HOST_DONE (R215). -/
def execPermHostDone (hub : Nat) (s : State) : Host.Outcome State Fault Refusal :=
  s.ends (s.when (Instr.wf (.permHostDone hub) && s.engineOn hub 0x35 0) fun s => permHostDoneEff hub s)

/-- SHUFFLE_ENTRY (R216). -/
def execShuffleEntry (hub : Nat) (s : State) : Host.Outcome State Fault Refusal :=
  s.ends (s.when (Instr.wf (.shuffleEntry hub) && s.engineOn hub 0x35 0) fun s => shuffleEntryEff hub s)

/-- SHUFFLE_FLUSH (R216). -/
def execShuffleFlush (hub : Nat) (s : State) : Host.Outcome State Fault Refusal :=
  s.ends (s.when (Instr.wf (.shuffleFlush hub) && s.engineOn hub 0x35 0) fun s => shuffleFlushEff hub s)

/-- SETE_BLOCK (R220). -/
def execSeteBlock (hub inst : Nat) (s : State) : Host.Outcome State Fault Refusal :=
  s.ends (s.when (Instr.wf (.seteBlock hub inst) && s.engineOn hub 0x36 inst) fun s => seteBlockEff hub inst s)

/-- SETE_QTAIL_WRITE (R222). -/
def execSeteQtailWrite (hub ctx tail : Nat) (s : State) : Host.Outcome State Fault Refusal :=
  s.ends (s.when (Instr.wf (.seteQtailWrite hub ctx tail) && s.aon.powered) fun s => qtailWriteEff seteQ hub 3 ctx tail s)

/-- SET_DESC_TAKE (R224). -/
def execSetDescTake (hub : Nat) (s : State) : Host.Outcome State Fault Refusal :=
  s.ends (s.when (Instr.wf (.setDescTake hub) && s.engineOn hub 0x36 3) fun s => setDescTakeEff hub s)

/-- SET_DESC_COMPLETE (R224). -/
def execSetDescComplete (hub cycles : Nat) (s : State) : Host.Outcome State Fault Refusal :=
  s.ends (s.when (Instr.wf (.setDescComplete hub cycles) && s.engineOn hub 0x36 3) fun s => setDescCompleteEff hub cycles s)

end Sys2Proof.Machine
end

