-- ==== Sys2Proof/Machine/ExecStep.lean ====
section
/-!
DEFINITION. Commands on the step controllers and update engines (R226 to R247, R273 to R293).
-/

namespace Sys2Proof.Machine

/-- STEP_BEGIN (R228). -/
def execStepBegin (p : Nat) (s : State) : Host.Outcome State Fault Refusal :=
  s.ends (s.when (Instr.wf (.stepBegin p) && s.clocked 0 5) fun s => stepBeginEff p s)

/-- STEP_ADVANCE (R227). -/
def execStepAdvance (p : Nat) (s : State) : Host.Outcome State Fault Refusal :=
  s.ends (s.when (Instr.wf (.stepAdvance p) && s.clocked 0 5) fun s => stepAdvanceEff p s)

/-- DISCARD_ACCUM (R238). -/
def execDiscardAccum (p : Nat) (s : State) : Host.Outcome State Fault Refusal :=
  s.ends (s.when (Instr.wf (.discardAccum p) && s.clocked 0 5) fun s => discardAccumEff p s)

/-- DISCARD_ACCUM_DONE (R238). -/
def execDiscardAccumDone (p : Nat) (s : State) : Host.Outcome State Fault Refusal :=
  s.ends (s.when (Instr.wf (.discardAccumDone p) && s.clocked 0 5) fun s => discardAccumDoneEff p s)

/-- STEP_ABORT (R227). -/
def execStepAbort (p : Nat) (s : State) : Host.Outcome State Fault Refusal :=
  s.ends (s.when (Instr.wf (.stepAbort p) && s.clocked 0 5) fun s => stepAbortEff p s)

/-- UPD_TABLE_REPORT (R278). -/
def execUpdTableReport (die : Nat) (s : State) : Host.Outcome State Fault Refusal :=
  s.ends (s.when (Instr.wf (.updTableReport die) && s.clocked die 2) fun s => updTableReportEff die s)

/-- CLOSING_REDUCTION_ISSUE (R231). -/
def execClosingReductionIssue (p : Nat) (s : State) : Host.Outcome State Fault Refusal :=
  s.ends (s.when (Instr.wf (.closingReductionIssue p) && s.clocked 0 5) fun s => closingReductionIssueEff p s)

/-- VERDICT (R234). -/
def execVerdict (p : Nat) (s : State) : Host.Outcome State Fault Refusal :=
  s.ends (s.when (Instr.wf (.verdict p) && s.clocked 0 5) fun s => verdictEff p s)

/-- UPD_APPLY_DONE (R280). -/
def execUpdApplyDone (die : Nat) (s : State) : Host.Outcome State Fault Refusal :=
  s.ends (s.when (Instr.wf (.updApplyDone die) && s.clocked die 2) fun s => updApplyDoneEff die s)

/-- VERDICT_TIMEOUT (R235). -/
def execVerdictTimeout (p : Nat) (s : State) : Host.Outcome State Fault Refusal :=
  s.ends (s.when (Instr.wf (.verdictTimeout p) && s.clocked 0 5) fun s => verdictTimeoutEff p s)

/-- UPD_COMMIT_FAULT (R291). -/
def execUpdCommitFault (die entry addr : Nat) (s : State) : Host.Outcome State Fault Refusal :=
  s.ends (s.when (Instr.wf (.updCommitFault die entry addr) && s.clocked die 2) fun s => updCommitFaultEff die entry addr s)

end Sys2Proof.Machine
end

