-- ==== Sys2Proof/Machine/ExecVector.lean ====
section
/-!
DEFINITION. Commands on the vector engines (R128 to R150).
-/

namespace Sys2Proof.Machine

/-- POST_CHAIN_START (R128). -/
def execPostChainStart (die core : Nat) (s : State) : Host.Outcome State Fault Refusal :=
  s.ends (s.when (Instr.wf (.postChainStart die core) && s.coreAt die core 1) fun s => postChainStartEff die core s)

/-- CHAIN_COMPLETE (R142). -/
def execChainComplete (die core cycles stalled : Nat) (s : State) (fixed : List (Nat × Nat) := []) : Host.Outcome State Fault Refusal :=
  s.ends (s.when (Instr.wf (.chainComplete die core cycles stalled fixed) && s.coreAt die core 1) fun s =>
    chainCompleteEff die core cycles stalled fixed s)

/-- ROUTED_PRODUCT_COMPLETE (R148). -/
def execRoutedProductComplete (die core cycles : Nat) (s : State) (fixed : List (Nat × Nat) := []) : Host.Outcome State Fault Refusal :=
  s.ends (s.when (Instr.wf (.routedProductComplete die core cycles fixed) && s.coreAt die core 1) fun s =>
    routedCompleteEff die core cycles fixed s)

/-- TB_ECC_UNCORR (R150). -/
def execTbEccUncorr (die core tb : Nat) (s : State) (rows : Nat := 0) : Host.Outcome State Fault Refusal :=
  s.ends (s.when (Instr.wf (.tbEccUncorr die core tb rows) && s.coreAt die core 1) fun s => tbEccEff die core tb rows s)

end Sys2Proof.Machine
end

