-- ==== Sys2Proof/Machine/Dispatch.lean ====
section
/-!
DEFINITION. Every command and its meaning.
-/

namespace Sys2Proof.Machine

def exec (i : Instr) (s : State) : Host.Outcome State Fault Refusal :=
  match i with
  | .registerWrite addr value => Sys2Proof.Machine.execRegisterWrite addr value s
  | .regionStop h => Sys2Proof.Machine.execRegionStop h s
  | .regionDrained region => Sys2Proof.Machine.execRegionDrained region s
  | .drainTimeout region => Sys2Proof.Machine.execDrainTimeout region s
  | .regionLoad h fault => Sys2Proof.Machine.execRegionLoad h fault s
  | .regionStart h => Sys2Proof.Machine.execRegionStart h s
  | .regionUnitsInitialised region ok => Sys2Proof.Machine.execRegionUnitsInitialised region ok s
  | .mxcQtailWrite die core ctx tail => Sys2Proof.Machine.execMxcQtailWrite die core ctx tail s
  | .queueEnable block die inst ctx size => Sys2Proof.Machine.execQueueEnable block die inst ctx size s
  | .queueResume block die inst ctx => Sys2Proof.Machine.execQueueResume block die inst ctx s
  | .tokenClear die core => Sys2Proof.Machine.execTokenClear die core s
  | .descriptorTake die core => Sys2Proof.Machine.execDescriptorTake die core s
  | .tokenWaitMet mover die core ctx => Sys2Proof.Machine.execTokenWaitMet mover die core ctx s
  | .productStart die core starved fillers => Sys2Proof.Machine.execProductStart die core starved s fillers
  | .productComplete die core stall fixed => Sys2Proof.Machine.execProductComplete die core stall s fixed
  | .barrierComplete die core ctx => Sys2Proof.Machine.execBarrierComplete die core ctx s
  | .lockLimitExpire die core => Sys2Proof.Machine.execLockLimitExpire die core s
  | .groupSleep die core fillers => Sys2Proof.Machine.execGroupSleep die core fillers s
  | .groupWake die core fillers => Sys2Proof.Machine.execGroupWake die core fillers s
  | .accEccUncorr die core tile => Sys2Proof.Machine.execAccEccUncorr die core tile s
  | .feedParity die core => Sys2Proof.Machine.execFeedParity die core s
  | .postChainStart die core => Sys2Proof.Machine.execPostChainStart die core s
  | .chainComplete die core cycles stalled fixed => Sys2Proof.Machine.execChainComplete die core cycles stalled s fixed
  | .routedProductComplete die core cycles fixed => Sys2Proof.Machine.execRoutedProductComplete die core cycles s fixed
  | .tbEccUncorr die core tb rows => Sys2Proof.Machine.execTbEccUncorr die core tb s rows
  | .spadQtailWrite die core ctx tail => Sys2Proof.Machine.execSpadQtailWrite die core ctx tail s
  | .moveTake die core => Sys2Proof.Machine.execMoveTake die core s
  | .moveComplete die core cycles fixed => Sys2Proof.Machine.execMoveComplete die core cycles s fixed
  | .spadEccUncorr die core off => Sys2Proof.Machine.execSpadEccUncorr die core off s
  | .memoryRequest q => Sys2Proof.Machine.execMemoryRequest q s
  | .rlcFillReturn die line => Sys2Proof.Machine.execRlcFillReturn die line s
  | .rlcInvalidation die line => Sys2Proof.Machine.execRlcInvalidation die line s
  | .patrolScrub die stack result addr => Sys2Proof.Machine.execPatrolScrub die stack result addr s
  | .dramRefresh die stack chan => Sys2Proof.Machine.execDramRefresh die stack chan s
  | .farSpillAck die core cycles host => Sys2Proof.Machine.execFarSpillAck die core cycles host s
  | .reservoirPacket p => Sys2Proof.Machine.execReservoirPacket p s
  | .reservoirChunkComplete qp => Sys2Proof.Machine.execReservoirChunkComplete qp s
  | .demuxChunk hub inst => Sys2Proof.Machine.execDemuxChunk hub inst s
  | .vdecUnit hub inst u => Sys2Proof.Machine.execVdecUnit hub inst u s
  | .adecAudioBlock hub inst error blocks => Sys2Proof.Machine.execAdecAudioBlock hub inst error blocks s
  | .adecCaption hub inst error recs => Sys2Proof.Machine.execAdecCaption hub inst error recs s
  | .xformFrame hub inst => Sys2Proof.Machine.execXformFrame hub inst s
  | .tokenTile hub inst => Sys2Proof.Machine.execTokenTile hub inst s
  | .deliveryEntry hub inst => Sys2Proof.Machine.execDeliveryEntry hub inst s
  | .deliveryConsumedPoll hub inst => Sys2Proof.Machine.execDeliveryConsumedPoll hub inst s
  | .stageRoomResume hub block inst => Sys2Proof.Machine.execStageRoomResume hub block inst s
  | .permGenBlock hub => Sys2Proof.Machine.execPermGenBlock hub s
  | .permHostGo hub => Sys2Proof.Machine.execPermHostGo hub s
  | .permHostDone hub => Sys2Proof.Machine.execPermHostDone hub s
  | .shuffleEntry hub => Sys2Proof.Machine.execShuffleEntry hub s
  | .shuffleFlush hub => Sys2Proof.Machine.execShuffleFlush hub s
  | .seteBlock hub inst => Sys2Proof.Machine.execSeteBlock hub inst s
  | .seteQtailWrite hub ctx tail => Sys2Proof.Machine.execSeteQtailWrite hub ctx tail s
  | .setDescTake hub => Sys2Proof.Machine.execSetDescTake hub s
  | .setDescComplete hub cycles => Sys2Proof.Machine.execSetDescComplete hub cycles s
  | .stepBegin p => Sys2Proof.Machine.execStepBegin p s
  | .stepAdvance p => Sys2Proof.Machine.execStepAdvance p s
  | .discardAccum p => Sys2Proof.Machine.execDiscardAccum p s
  | .discardAccumDone p => Sys2Proof.Machine.execDiscardAccumDone p s
  | .stepAbort p => Sys2Proof.Machine.execStepAbort p s
  | .updTableReport die => Sys2Proof.Machine.execUpdTableReport die s
  | .closingReductionIssue p => Sys2Proof.Machine.execClosingReductionIssue p s
  | .verdict p => Sys2Proof.Machine.execVerdict p s
  | .updApplyDone die => Sys2Proof.Machine.execUpdApplyDone die s
  | .verdictTimeout p => Sys2Proof.Machine.execVerdictTimeout p s
  | .updCommitFault die entry addr => Sys2Proof.Machine.execUpdCommitFault die entry addr s
  | .redQtailWrite chan tail => Sys2Proof.Machine.execRedQtailWrite chan tail s
  | .redRequestTake chan => Sys2Proof.Machine.execRedRequestTake chan s
  | .redRequestStart chan => Sys2Proof.Machine.execRedRequestStart chan s
  | .exponentFrame hop part f => Sys2Proof.Machine.execExponentFrame hop part f s
  | .reduceScatterFrame hop part f => Sys2Proof.Machine.execReduceScatterFrame hop part f s
  | .allGatherFrame hop part f => Sys2Proof.Machine.execAllGatherFrame hop part f s
  | .rollCallFrame hop part f => Sys2Proof.Machine.execRollCallFrame hop part f s
  | .stragglerDecision chan => Sys2Proof.Machine.execStragglerDecision chan s
  | .redHang chan => Sys2Proof.Machine.execRedHang chan s
  | .peerReplay port rx => Sys2Proof.Machine.execPeerReplay port rx s
  | .peerLinkDown port => Sys2Proof.Machine.execPeerLinkDown port s
  | .peerLinkUp port lanes partnerMax partnerPart retrainOk => Sys2Proof.Machine.execPeerLinkUp port lanes partnerMax partnerPart retrainOk s
  | .peerLinkRetry port lanes partnerMax partnerPart retrainOk => Sys2Proof.Machine.execPeerLinkRetry port lanes partnerMax partnerPart retrainOk s
  | .allgatherShardFrame hop part f => Sys2Proof.Machine.execAllgatherShardFrame hop part f s
  | .gatherConsumedPoll chan => Sys2Proof.Machine.execGatherConsumedPoll chan s
  | .permuteStart chan => Sys2Proof.Machine.execPermuteStart chan s
  | .permuteMoveFrame hop part f => Sys2Proof.Machine.execPermuteMoveFrame hop part f s
  | .permuteComplete chan => Sys2Proof.Machine.execPermuteComplete chan s
  | .arbGrant die inst arrivals => Sys2Proof.Machine.execArbGrant die inst arrivals s
  | .arbAged die inst cls => Sys2Proof.Machine.execArbAged die inst cls s
  | .arbFreeze die inst v => Sys2Proof.Machine.execArbFreeze die inst v s
  | .weaveRetrain die => Sys2Proof.Machine.execWeaveRetrain die s
  | .weaveTrainDone die goodA goodB => Sys2Proof.Machine.execWeaveTrainDone die goodA goodB s
  | .weaveWordError die atDie same => Sys2Proof.Machine.execWeaveWordError die atDie same s
  | .weaveDownRetry die => Sys2Proof.Machine.execWeaveDownRetry die s
  | .seamRetrain hub => Sys2Proof.Machine.execSeamRetrain hub s
  | .seamReceiverLock hub => Sys2Proof.Machine.execSeamReceiverLock hub s
  | .seamLaneTestEnd hub mask => Sys2Proof.Machine.execSeamLaneTestEnd hub mask s
  | .seamTrainingSet hub set => Sys2Proof.Machine.execSeamTrainingSet hub set s
  | .seamAgreeLimit hub => Sys2Proof.Machine.execSeamAgreeLimit hub s
  | .seamConfirmEnd hub error => Sys2Proof.Machine.execSeamConfirmEnd hub error s
  | .seamLossLimit hub => Sys2Proof.Machine.execSeamLossLimit hub s
  | .seamUpStable hub => Sys2Proof.Machine.execSeamUpStable hub s
  | .seamDownRetry hub => Sys2Proof.Machine.execSeamDownRetry hub s
  | .seamFlitError hub same => Sys2Proof.Machine.execSeamFlitError hub same s
  | .fence h => Sys2Proof.Machine.execFence h s
  | .fenceProbe number entry => Sys2Proof.Machine.execFenceProbe number entry s
  | .fenceWatermarkSend number entry => Sys2Proof.Machine.execFenceWatermarkSend number entry s
  | .fenceWatermarkArrive number entry => Sys2Proof.Machine.execFenceWatermarkArrive number entry s
  | .fenceTimeout number => Sys2Proof.Machine.execFenceTimeout number s
  | .pllLockLost die domain => Sys2Proof.Machine.execPllLockLost die domain s
  | .referenceLost osc => Sys2Proof.Machine.execReferenceLost osc s
  | .powerApplied mode => Sys2Proof.Machine.execPowerApplied mode s
  | .vinSample tenmv => Sys2Proof.Machine.execVinSample tenmv s
  | .powerLost => Sys2Proof.Machine.execPowerLost s
  | .powerReading watts average => Sys2Proof.Machine.execPowerReading watts average s
  | .powerMsBoundary temps => Sys2Proof.Machine.execPowerMsBoundary temps s
  | .throttleStep die => Sys2Proof.Machine.execThrottleStep die s
  | .thermalTrip die temp => Sys2Proof.Machine.execThermalTrip die temp s
  | .coolantFault tIn tOut flow => Sys2Proof.Machine.execCoolantFault tIn tOut flow s
  | .coolantClear tIn tOut flow => Sys2Proof.Machine.execCoolantClear tIn tOut flow s
  | .emergencyReset => Sys2Proof.Machine.execEmergencyReset s
  | .ethSpeedTry => Sys2Proof.Machine.execEthSpeedTry s
  | .ethLinkLoss => Sys2Proof.Machine.execEthLinkLoss s
  | .ethSpeedsWrite v => Sys2Proof.Machine.execEthSpeedsWrite v s
  | .ethRxFrame f => Sys2Proof.Machine.execEthRxFrame f s
  | .pfcRx prios quanta => Sys2Proof.Machine.execPfcRx prios quanta s
  | .pfcRefresh => Sys2Proof.Machine.execPfcRefresh s
  | .rdmaPacketRx p => Sys2Proof.Machine.execRdmaPacketRx p s
  | .rdmaCnpRx qp => Sys2Proof.Machine.execRdmaCnpRx qp s
  | .rdmaRateRecover qp => Sys2Proof.Machine.execRdmaRateRecover qp s
  | .rdmaAckTimeout qp => Sys2Proof.Machine.execRdmaAckTimeout qp s
  | .qpLoad qp => Sys2Proof.Machine.execQpLoad qp s
  | .qpToError qp => Sys2Proof.Machine.execQpToError qp s
  | .qpToReset qp => Sys2Proof.Machine.execQpToReset qp s
  | .negotiate h => Sys2Proof.Machine.execNegotiate h s
  | .close h => Sys2Proof.Machine.execClose h s
  | .csrRead h => Sys2Proof.Machine.execCsrRead h s
  | .csrWrite h => Sys2Proof.Machine.execCsrWrite h s
  | .memRead h => Sys2Proof.Machine.execMemRead h s
  | .memWrite h => Sys2Proof.Machine.execMemWrite h s
  | .doorbell h => Sys2Proof.Machine.execDoorbell h s
  | .ctxOpen h => Sys2Proof.Machine.execCtxOpen h s
  | .ctxClose h => Sys2Proof.Machine.execCtxClose h s
  | .ctxStopConfirmed ctx => Sys2Proof.Machine.execCtxStopConfirmed ctx s
  | .ctxClosed ctx => Sys2Proof.Machine.execCtxClosed ctx s
  | .ctxDrainLimit ctx => Sys2Proof.Machine.execCtxDrainLimit ctx s
  | .subscribe h => Sys2Proof.Machine.execSubscribe h s
  | .octSessionIdle src port session => Sys2Proof.Machine.execOctSessionIdle src port session s
  | .attestIdentity h => Sys2Proof.Machine.execAttestIdentity h s
  | .attestReport h => Sys2Proof.Machine.execAttestReport h s
  | .installFw h => Sys2Proof.Machine.execInstallFw h s
  | .installStream h => Sys2Proof.Machine.execInstallStream h s
  | .prefer h => Sys2Proof.Machine.execPrefer h s
  | .raiseSvn h => Sys2Proof.Machine.execRaiseSvn h s
  | .installBackgroundDone flashOk => Sys2Proof.Machine.execInstallBackgroundDone flashOk s
  | .daybreakStepComplete fails => Sys2Proof.Machine.execDaybreakStepComplete fails s
  | .daybreakGo => Sys2Proof.Machine.execDaybreakGo s
  | .pllLockTimeout die domain => Sys2Proof.Machine.execPllLockTimeout die domain s
  | .weaveStepTimeout die => Sys2Proof.Machine.execWeaveStepTimeout die s
  | .seamWaitTimeout => Sys2Proof.Machine.execSeamWaitTimeout s
  | .peerStepTimeout => Sys2Proof.Machine.execPeerStepTimeout s
  | .ethStepTimeout => Sys2Proof.Machine.execEthStepTimeout s
  | .announceRepeat => Sys2Proof.Machine.execAnnounceRepeat s
  | .watchdogExpire die block inst => Sys2Proof.Machine.execWatchdogExpire die block inst s
  | .fwWatchdogExpire => Sys2Proof.Machine.execFwWatchdogExpire s
  | .rstKick => Sys2Proof.Machine.execRstKick s
  | .resetEngine h => Sys2Proof.Machine.execResetEngine h s
  | .resetDie h => Sys2Proof.Machine.execResetDie h s
  | .resetHalf h => Sys2Proof.Machine.execResetHalf h s
  | .resetModule h => Sys2Proof.Machine.execResetModule h s
  | .duskDrained die => Sys2Proof.Machine.execDuskDrained die s
  | .duskLimit die outstanding => Sys2Proof.Machine.execDuskLimit die outstanding s
  | .dumpDone => Sys2Proof.Machine.execDumpDone s
  | .debugRingTimeout write die bank => Sys2Proof.Machine.execDebugRingTimeout write die bank s
  | .resetReleased die fails => Sys2Proof.Machine.execResetReleased die fails s
  | .resetEscalate die => Sys2Proof.Machine.execResetEscalate die s
  | .quarantineTurnEnd die inst => Sys2Proof.Machine.execQuarantineTurnEnd die inst s
  | .replayWindowExpire die inst => Sys2Proof.Machine.execReplayWindowExpire die inst s
  | .dumpOnDemand dies => Sys2Proof.Machine.execDumpOnDemand dies s
  | .j20UartCommand line => Sys2Proof.Machine.execJ20UartCommand line s
  | .j20TapAccess reg => Sys2Proof.Machine.execJ20TapAccess reg s
  | .pcsLock lanes => Sys2Proof.Machine.execPcsLock lanes s
  | .emrstNRelease => Sys2Proof.Machine.execEmrstNRelease s
  | .pauseQuantaExpire prio => Sys2Proof.Machine.execPauseQuantaExpire prio s
  | .nakReceived qp => Sys2Proof.Machine.execNakReceived qp s

end Sys2Proof.Machine
end

