-- ==== Sys2Proof/Machine/Idle.lean ====
section
/-!
DEFINITION. Time passing: what the clocks do in one millisecond in which no command arrives (DESIGN CHOICE: step on an empty
queue). Limits and other timed events are commands of their own.
-/

namespace Sys2Proof.Machine

/-- Cycles of a domain in one millisecond: its frequency in kHz. -/
def State.msCycles (s : State) (die k : Nat) : Nat := s.get R.CLK_DOMAIN_FREQ die 0 k

/-- R345, R354: every running domain counts its cycles. -/
def State.idleClocks (s : State) : State :=
  liveDies.foldl (fun (s : State) d =>
    (clkIdx d).foldl (fun (s : State) k =>
      if s.runs d k then s.count R.CLK_COUNT_COUNT (s.msCycles d k) d 0 k else s) s) s

/-- R365: input energy, and MX cycles under throttle. -/
def State.idlePower (s : State) : State :=
  let s := s.count R.PWR_ENERGY_COUNT (s.get R.PWR_INPUT_PIN 0) 0
  compDies.foldl (fun (s : State) d =>
    if s.runs d 0 && s.get R.PWR_STATUS_LEVEL d != 0 then s.count R.PWR_THROTTLED_COUNT (s.msCycles d 0) d else s) s

/-- R208: cycles that ingest engines wait for room or for input. -/
def State.idleIngest (s : State) : State :=
  hubs.foldl (fun (s : State) h =>
    (s.nodes h).foldl (fun (s : State) c =>
      if c.block = 0xFE ∨ !s.clocked h (engineClock c.block) then s
      else
        let n := s.msCycles h (engineClock c.block)
        match s.engineState h c.block c.inst with
        | 2 => s.eng h c 3 n
        | 3 => s.eng h c 4 n
        | _ => s) s) s

/-- R242: is a step of the partition under way? -/
def State.stepRuns (s : State) (p : Nat) : Bool := s.phase p != phIdle && s.phase p != phHalt

/-- R242: is every delivery ring of the partition on a hub empty, and is there one? -/
def State.ringsEmpty (s : State) (h p : Nat) : Bool :=
  let mine := (s.nodes h).filter (fun c => c.block == 0xFE && s.partOfDie (addrDie (c.par 0 8)) == some p)
  !mine.isEmpty && mine.all (fun c => (s.inode h c.node).n == (s.inode h c.node).cons)

/-- R242: does traffic of the partition wait at the hub's seam transmitter, or at one of its peer ports? Ring frames are the only
traffic that waits at either between commands (log 90). -/
def State.waits (s : State) (h p : Nat) (seam : Bool) : Bool :=
  s.waitTx.any fun w => w.1 / 32 == h && (if seam then w.1 % 32 == 0x10 else decide (w.1 % 32 < 16)) && w.2.any (fun o => o.1 == p)

/-- R242: the counts of the steps under way, once in each MGMT or SVC cycle. -/
def State.idleSteps (s : State) : State :=
  (List.range s.parts).foldl (fun (s : State) p =>
    if !s.stepRuns p then s
    else
      let s := (s.partHubs p).foldl (fun (s : State) h =>
        let n := s.msCycles h (if h = 0 then 5 else 4)
        let s := if s.ringsEmpty h p then s.countSat R.TEL_INGEST_STALL_COUNT n h 0 p else s
        let s := if s.waits h p true then s.countSat R.TEL_SEAM_STALL_COUNT n h 0 p else s
        if s.waits h p false then s.countSat R.TEL_PEER_STALL_COUNT n h 0 p else s) s
      (s.partDies p).foldl (fun (s : State) d =>
        if s.get R.UPD_STATUS_STATE d != 0 then s.countSat R.TEL_UPD_BUSY_COUNT (s.msCycles (hubOf d) (if hubOf d = 0 then 5 else 4)) d
        else s) s) s

/-- R262: deadline counters run down, in units of 1,024 hub PEER cycles. -/
def State.idleDeadlines (s : State) : State :=
  s.chans.foldl (fun (s : State) e =>
    let c := e.1
    let h := s.chanHome c
    let on := e.2.head.isSome || !e.2.inq.isEmpty
    if on && s.runs h 2 then
      s.put R.RED_CH_STATUS_DEADLINE (s.get R.RED_CH_STATUS_DEADLINE h c - s.msCycles h 2 / 1024) h c
    else s) s

/-- Reduction channels that waited for a weave or the seam go on once it is trained (R333). -/
def State.idleChans (s : State) : State :=
  s.chans.foldl (fun (s : State) e => if s.runs (s.chanHome e.1) 2 then s.chanPump e.1 else s) s

/-- One millisecond passes. Nothing does without the supply. -/
def State.idle (s : State) : State :=
  if s.aon.powered then s.idleClocks.idlePower.idleIngest.idleSteps.idleDeadlines.idleChans else s

end Sys2Proof.Machine
end

