-- ==== Sys2Proof/Safety.lean ====
section
/-!
DEFINITION. What counts as a safe state and a safe run: the invariants that every command keeps.
-/

namespace Sys2Proof.Machine

/-- Memory is in its canonical form. -/
def State.Sound (s : State) : Prop := s.mem.wf = true

/-- A run of n steps that neither faults nor is refused, and ends in a sound state. -/
def State.SafeRun (s : State) (n : Nat) : Prop := ∃ t, Sys2Proof.core.run n s = .next t ∧ t.Sound

/-- Nothing waits to be carried out between commands (no OCT request, no J20 access), and live trace is off (R379, R441,
R442): what a command leaves is then its own effect alone. -/
def State.Still (s : State) : Prop :=
  s.octQ = [] ∧ s.octBusy = none ∧ s.j20Wait = [] ∧ s.flag R.DBG_TRACE_CFG_EN 0 = false

/-- A still state with memory in its canonical form. -/
def State.Rest (s : State) : Prop := s.Still ∧ s.Sound

/-- Two states agree but for control registers, and in those but for the registers at the addresses listed. -/
def State.AgreeBut (s t : State) (l : List Nat) : Prop :=
  t = { s with csr := t.csr } ∧ ∀ a, a ∉ l → nfind a t.csr = nfind a s.csr

/-- What the power manager's decision leaves (R359): a cap level, every compute die in service ordered to that level or higher
(to its thermal level, and to 8 while the input is out of range), the excluded and held ones to none. -/
def State.OrderedAt (t : State) (c : Nat) : Prop :=
  t.get R.PWR_INPUT_CAP_LEVEL 0 = c ∧
  ∀ d, isComp d = true →
    ((t.excluded d = true ∨ t.isHeld d = true) → ngetD t.power.target d 0 = 0) ∧
    (t.excluded d = false → t.isHeld d = false →
      ngetD t.power.target d 0 = max (max c (ngetD t.power.thermal d 0)) (if t.power.vinFloor then 8 else 0))

/-- Every control register but those of the tables listed stands as it did, on every die, instance and index. -/
def State.RegsBut (s t : State) (l : List RegDef) : Prop :=
  ∀ a, (∀ r ∈ l, ∀ die inst idx, die < 16 → inst < 4096 → idx < max 1 r.count → a ≠ r.addr die inst idx) →
    nfind a t.csr = nfind a s.csr

/-- A register that a write from a die's control cores reaches, on a unit in service (R8, R29 to R31, R34). -/
def State.Reaches (s : State) (r : RegDef) (die inst idx : Nat) : Prop :=
  s.accessStatus false (r.addr die inst idx) = 0 ∧ s.regHere (r.addr die inst idx) = some (r, idx) ∧
  s.unitOut die r.block inst = false ∧ s.regIdle die inst r idx = false

/-- R84: what a doorbell does to a queue that takes it: the tail modulo the ring size where ENABLE is 1, unless that would
leave fewer descriptors than before; the tail as written where ENABLE is 0. -/
def State.TailTaken (s : State) (c : Instr) (q : QRegs) (die inst ctx tail : Nat) : Prop :=
  let n := 2 ^ s.get q.size die inst ctx
  let queued (t : Nat) : Nat := (t + n - s.get q.head die inst ctx % n) % n
  (s.flag q.enable die inst ctx = false → exec c s = .next (s.put q.tail tail die inst ctx)) ∧
  (s.flag q.enable die inst ctx = true →
    (queued (s.get q.tail die inst ctx) ≤ queued (tail % n) → exec c s = .next (s.put q.tail (tail % n) die inst ctx)) ∧
    (queued (tail % n) < queued (s.get q.tail die inst ctx) → exec c s = .next (s.put q.err 1 die inst)))

/-! ### OCT requests -/

/-- The state with a request of a session received, accepted in its order and in hand (R377): frames and requests are
counted, and the session expects the next sequence number. -/
def State.taken (s : State) (h : OctHdr) (x : Sess) : State :=
  let s := (s.count R.ETH_RX_FRAMES_COUNT 1 0).count R.OCT_REQUESTS_COUNT 1 0
  s.putSess { x with last := s.mgmt, next := (h.seq + 1) % 2 ^ 32,
                     answers := (x.answers ++ [(h.seq, none)]).drop (x.answers.length - 63) }

/-- A request that can be carried out at once: the link and MGMT run, nothing waits before it, it is the next of its open
session, its form is right for its opcode (R378, R380), and Daybreak is over. -/
def State.InTurn (s : State) (op : Nat) (h : OctHdr) (x : Sess) : Prop :=
  s.Rest ∧ s.octUp = true ∧ h.wf = true ∧ s.sess? h.src h.port h.session = some x ∧ h.version = x.version ∧
  h.seq = x.next ∧ x.held = [] ∧ (s.taken h x).octForm { op := op, hdr := h, opening := x.opening } = 0 ∧
  (s.taken h x).recovery = false ∧ (s.taken h x).waiting = false

/-- The state with the answer to a request sent, and kept with its session for duplicates (R376, R377). -/
def State.answered (s : State) (op : Nat) (h : OctHdr) (x : Sess) (status src detail count : Nat) (payload : List Byte) : State :=
  s.octAnswer { op := op, hdr := h, opening := x.opening } status src detail count payload

/-! ### Reduction frames -/

/-- A frame comes on a channel's IN_HOP while the channel's head is a started reduction that goes on after it (R252, R253): the
link is up, the context's work is not stale, more frames are still to come, and frames may leave on the OUT_HOP. -/
def State.Arrives (s : State) (hop part : Nat) (f : Frame) (c : Nat) (h : RHead) (q : RedReq) : Prop :=
  let p := if hop < 16 then s.partOfPort hop else part
  (s.Rest ∧ f.wf = true ∧ hop < 32 ∧ part < 4 ∧ s.cut ≠ 0 ∧ p < s.parts ∧
    (hop < 16 → s.flag R.PEER_STATUS_UP (hop / 8) hop = true)) ∧
  (f.channel < s.chanCount ∧ c = s.chanBase p + f.channel ∧ s.members? c ≠ 0 ∧ s.red R.RED_CH_ROUTE_IN_HOP c = hop ∧ s.running (redRegion c) = true ∧
    s.clocked (s.chanHome c) 2 = true ∧ s.hopUp (s.red R.RED_CH_ROUTE_OUT_HOP c) = true ∧ s.headLinked c h = true) ∧
  ((s.chan c).hung = false ∧ (s.chan c).inq = [] ∧ (s.chan c).head = some h ∧ h.req = some q ∧ h.absent = false ∧
    h.past = false ∧ h.closing = false ∧ s.ctxStale (q.ctx, q.gen) = false ∧ 1 < h.rneed)

end Sys2Proof.Machine
end

