-- ==== Sys2Proof/Certificates/Slice0/Obligations.lean ====
section
/-!
DEFINITION. The statements for the provers, in the order of OBLIGATIONS.json.
-/

open Sys2Proof Sys2Proof.Machine

/-! ### The machine -/

/-- A step takes the command at the front of the queue, and is its meaning on the state with the queue's rest. -/
def Obligations.StepRunsFrontCommand : Prop :=
  ∀ (s : State) (c : Instr), Machine.step { s with pending := c :: s.pending } = Machine.exec c s

/-- Every command, whatever its operands and the state, answers a next state, with the queue as it was.
A command that is not well formed does nothing of its own: it ends in what `after` leaves of the state as it was, and
from a state at rest in that very state (the model's choice, log entry 3). -/
def Obligations.CommandsEndAndIllFormedOnesDoNothing : Prop :=
  (∀ (c : Instr) (s : State), ∃ t, Machine.exec c s = .next t ∧ t.pending = s.pending) ∧
  (∀ (c : Instr) (s : State), c.wf = false →
     Machine.exec c s = .next (s.after s) ∧ (s.Rest → Machine.exec c s = .next s))

/-- Every step from a state whose memory is in canonical form leaves memory in canonical form, commands waiting or not. -/
def Obligations.StepKeepsMemoryCanonical : Prop :=
  ∀ s t : State, s.Sound → Machine.step s = .next t → t.Sound

/-! ### Power (R355 to R364) -/

/-- THROTTLE_STEP (R358): the level of a die in service moves by one towards the level ordered for it, and nothing else changes.
POWER_READING (R359): the reading and its average are shown; above 6,600 W, or above CAP at every reading of 2 ms (200 in a
row), C becomes 12 at once with EXCURSION set; otherwise nothing else changes but the manager's count of readings above CAP. -/
def Obligations.ThrottleLevelsAndPowerReadings : Prop :=
  (∀ (s : State) (die : Nat), s.Rest → s.aon.powered = true → isComp die = true → s.excluded die = false →
     s.isHeld die = false →
     (s.get R.PWR_STATUS_LEVEL die < ngetD s.power.target die 0 →
       Machine.exec (.throttleStep die) s = .next
         ((s.put R.PWR_STATUS_LEVEL (s.get R.PWR_STATUS_LEVEL die + 1) die).put R.PWR_STATUS_THROTTLING 1 die)) ∧
     (ngetD s.power.target die 0 < s.get R.PWR_STATUS_LEVEL die →
       Machine.exec (.throttleStep die) s = .next
         ((s.put R.PWR_STATUS_LEVEL (s.get R.PWR_STATUS_LEVEL die - 1) die).put R.PWR_STATUS_THROTTLING
           (if s.get R.PWR_STATUS_LEVEL die = 1 then 0 else 1) die)) ∧
     (s.get R.PWR_STATUS_LEVEL die = ngetD s.power.target die 0 →
       Machine.exec (.throttleStep die) s = .next
         ((s.put R.PWR_STATUS_LEVEL (s.get R.PWR_STATUS_LEVEL die) die).put R.PWR_STATUS_THROTTLING
           (if s.get R.PWR_STATUS_LEVEL die = 0 then 0 else 1) die))) ∧
  (∀ (s : State) (w a : Nat), s.Rest → s.aon.powered = true → s.runs 0 5 = true → w < 65536 → a < 65536 →
     let past := if s.get R.PWR_LIMITS_CAP 0 < w then s.power.past + 1 else 0
     (w ≤ 6600 → past < 200 →
       Machine.exec (.powerReading w a) s = .next
         { (s.put R.PWR_INPUT_PIN w 0).put R.PWR_INPUT_PIN_AVG a 0 with
           power := { s.power with past := past, exc := false } }) ∧
     (6600 < w ∨ 200 ≤ past →
       ∃ t, Machine.exec (.powerReading w a) s = .next t ∧ t.flag R.PWR_ERROR_EXCURSION 0 = true ∧ t.OrderedAt 12 ∧
         t.get R.PWR_INPUT_PIN 0 = w ∧ t.get R.PWR_INPUT_PIN_AVG 0 = a ∧ t.mem = s.mem))

/-- POWER_MS_BOUNDARY (R359, R360): with the temperatures measured taken in, C rises, falls or holds by the average of the
input power, and every die in service has its thermal level raised, lowered or held by the hottest of its parts. -/
def Obligations.MsBoundaryMovesCapAndThermalLevels : Prop :=
  ∀ (s : State) (temps : List (Nat × Nat)), s.Rest → s.aon.powered = true → s.runs 0 5 = true →
    (Instr.powerMsBoundary temps).wf = true →
    ∃ t, Machine.exec (.powerMsBoundary temps) s = .next t ∧
      t.power.temps = temps.foldl (fun l x => nset x.1 x.2 l) s.power.temps ∧
      (let c := s.get R.PWR_INPUT_CAP_LEVEL 0
       let avg := s.get R.PWR_INPUT_PIN_AVG 0
       let cap := s.get R.PWR_LIMITS_CAP 0
       let c' := if s.power.exc then 12 else if cap < avg then min 12 (c + 1) else if 100 * avg < 95 * cap then c - 1 else c
       t.OrderedAt (if s.power.coolant then max c' 8 else c')) ∧
      ∀ d, isComp d = true → s.excluded d = false → s.isHeld d = false →
        (let limit := s.get R.PWR_CFG_THROTTLE_TEMP d
         let die := ngetD t.power.temps d 0
         let parts := (s.stacks d).map (fun i => ngetD t.power.temps (stackPart d i) 0)
         let l := ngetD s.power.thermal d 0
         ((limit ≤ die ∨ ∃ x ∈ parts, 95 ≤ x) →
           ngetD t.power.thermal d 0 = min 12 (l + 1) ∧ t.flag R.PWR_ERROR_THERMAL_THROTTLE d = true) ∧
         (¬(limit ≤ die ∨ ∃ x ∈ parts, 95 ≤ x) →
           ngetD t.power.thermal d 0 = if die + 5 ≤ limit ∧ ∀ x ∈ parts, x ≤ 90 then l - 1 else l))

/-- VIN_SAMPLE (R355): inside 66 to 78 V the voltage is shown and no floor stands; outside it VIN_LOW or VIN_HIGH is set and
every compute die in service is ordered to level 8 or higher; above 82 V, or at the tenth sample below 60 V, power is lost.
POWER_LOST and POWER_APPLIED (R355, R407, R363): with no install under way, losing power leaves the module as at reset but
for its flash and what it has sent; once 72 V is good again the AON clock runs, Daybreak is at step 1, MODE is as sampled, and
every byte of the module's memory is undefined (a free value).
EMERGENCY_RESET and EMRST_N_RELEASE (R364, R434): EMRST_N low starts midnight at once, recorded in RST_LAST; every die but
hub AM is held, home DRAM keeps its bytes, and Daybreak waits at step 2; the input high again only ends the wait. -/
def Obligations.InputPowerAndEmergencyReset : Prop :=
  ((∀ (s : State) (v : Nat), s.Rest → s.aon.powered = true → v < 65536 →
      (6600 ≤ v → v ≤ 7800 → ∃ t, Machine.exec (.vinSample v) s = .next t ∧ t.get R.PWR_INPUT_VIN 0 = v ∧
        t.power.vinFloor = false ∧ t.OrderedAt (s.get R.PWR_INPUT_CAP_LEVEL 0) ∧ s.AgreeBut { t with power := s.power } [R.PWR_INPUT.addr 0 0 0]) ∧
      ((6000 ≤ v ∨ s.power.low < 9) → v < 6600 → ∃ t, Machine.exec (.vinSample v) s = .next t ∧ t.get R.PWR_INPUT_VIN 0 = v ∧
        t.flag R.PWR_ERROR_VIN_LOW 0 = true ∧ t.power.vinFloor = true ∧ t.OrderedAt (s.get R.PWR_INPUT_CAP_LEVEL 0)) ∧
      (7800 < v → v ≤ 8200 → ∃ t, Machine.exec (.vinSample v) s = .next t ∧ t.get R.PWR_INPUT_VIN 0 = v ∧
        t.flag R.PWR_ERROR_VIN_HIGH 0 = true ∧ t.power.vinFloor = true ∧ t.OrderedAt (s.get R.PWR_INPUT_CAP_LEVEL 0)) ∧
      (8200 < v ∨ (v < 6000 ∧ 9 ≤ s.power.low) →
        ∃ t, Machine.exec (.vinSample v) s = .next t ∧ t.aon.powered = false ∧ t.csr = [])) ∧
   ((∀ s : State, s.Rest → s.aon.powered = true → s.install = none →
      Machine.exec .powerLost s = .next
        { State.reset with pending := s.pending, out := s.out, fresh := s.fresh, flash := s.flash }) ∧
    (∀ (s : State) (mode : Bool), s.Rest → s.aon.powered = false → s.aon.lost100 = false →
      ∃ t, Machine.exec (.powerApplied mode) s = .next t ∧ t.aon.powered = true ∧ t.aon.step = 1 ∧ t.aon.mode = mode ∧
        t.runs 0 clkAON = true ∧ t.get R.CLK_COUNT_COUNT 0 0 clkAON = 0 ∧ t.get R.PWR_INPUT_J20_MODE 0 = (if mode then 1 else 0) ∧
        t.flash = s.flash ∧ (∀ a, a < 2 ^ 48 → isDie (addrDie a) = true → ∃ k, t.mem.byte a = BitVec.ofNat 8 (Config.free k a))))) ∧
  (∀ s : State, s.Rest →
     (s.aon.powered = true → s.aon.lost100 = false → s.install = none → s.get R.RST_LAST_COUNT 0 + 1 < 2 ^ R.RST_LAST_COUNT.width →
       ∃ t, Machine.exec .emergencyReset s = .next t ∧ t.get R.RST_LAST_CAUSE 0 = 2 ∧
         t.get R.RST_LAST_COUNT 0 = s.get R.RST_LAST_COUNT 0 + 1 ∧ t.held = [1, 4, 5, 6, 7] ∧ t.aon.step = 2 ∧
         t.aon.emrst = true ∧ t.flash = s.flash ∧ t.power.tripped = s.power.tripped ∧
         ∀ a, isHomeDram a = true → a < 2 ^ 48 → t.mem.byte a = s.mem.byte a) ∧
     Machine.exec .emrstNRelease s = .next { s with aon := { s.aon with emrst := false } })

/-- THERMAL_TRIP (R360): a compute die at 105 °C is held without power, ordered to no level, and stays so listed until a die
reset; a hub at 105 °C takes the power of every die but AON, with THERMAL_TRIP recorded; below 105 °C nothing happens.
COOLANT_FAULT and COOLANT_CLEAR (R361): flow below 5 L/min sets FLOW_LOW, an inlet above 40 °C COOLANT_HOT, and either keeps
C at 8 or higher; the condition gone, the floor is lifted and C stays as it was. -/
def Obligations.HeatAndCoolantAct : Prop :=
  (∀ (s : State) (temp : Nat), s.Rest → s.aon.powered = true → temp < 256 →
     (∀ die, isComp die = true → 105 ≤ temp → s.excluded die = false → s.power.tripped.contains die = false → s.resets = [] →
       ∃ t, Machine.exec (.thermalTrip die temp) s = .next (s.after t) ∧ t.isHeld die = true ∧
         t.power.tripped.contains die = true ∧ ngetD t.power.target die 0 = 0) ∧
     (∀ hub, hub < 2 → 105 ≤ temp → s.install = none →
       ∃ t, Machine.exec (.thermalTrip hub temp) s = .next t ∧ t.flag R.PWR_ERROR_THERMAL_TRIP hub = true ∧
         t.aon.hubTrip = true ∧ t.held = [1, 4, 5, 6, 7] ∧ t.flash = s.flash ∧ (∀ k, k < 6 → t.runs 0 k = false)) ∧
     (∀ die, isDie die = true → temp < 105 → Machine.exec (.thermalTrip die temp) s = .next s)) ∧
  (∀ (s : State) (tIn tOut flow : Nat), s.Rest → s.aon.powered = true → tIn < 256 → tOut < 256 → flow < 65536 →
     ((flow < 500 ∨ 40 < tIn) → ∃ t, Machine.exec (.coolantFault tIn tOut flow) s = .next t ∧
       (flow < 500 → t.flag R.PWR_ERROR_FLOW_LOW 0 = true) ∧ (40 < tIn → t.flag R.PWR_ERROR_COOLANT_HOT 0 = true) ∧
       t.power.coolant = true ∧ t.OrderedAt (max (s.get R.PWR_INPUT_CAP_LEVEL 0) 8)) ∧
     (500 ≤ flow → tIn ≤ 40 →
       Machine.exec (.coolantClear tIn tOut flow) s = .next
         { ((s.put R.PWR_COOLANT_T_IN tIn 0).put R.PWR_COOLANT_T_OUT tOut 0).put R.PWR_COOLANT_FLOW flow 0 with
           power := { s.power with coolant := false } }))

/-! ### Registers, regions and queues -/

/-- REGISTER_WRITE (R9, R12, R13) to an error register of a block: W1C fields lose the bits written as 1, RW fields take the
value written, every other field and every bit outside the fields stands; nothing else changes.
REGISTER_WRITE (R72): a write to a register that holds an RWL field of a region that is not STOPPED is rejected whole: the
count of rejections rises (to all ones at most) and nothing else changes. -/
def Obligations.RegisterWritesActByAccessCode : Prop :=
  (∀ (s : State) (r : RegDef) (die inst i v : Nat), s.Rest → s.aon.powered = true → die < 16 → inst < 4096 → v < 2 ^ 64 →
     r ∈ errorRegs → s.Reaches r die inst i →
     ∃ x, Machine.exec (.registerWrite (r.addr die inst i) v) s = .next (s.wr r die inst i x) ∧
       (∀ f ∈ r.fields, bits x f.lo f.width =
         match f.acc with
         | .w1c => bits (s.rd r die inst i) f.lo f.width &&& (2 ^ f.width - 1 - bits v f.lo f.width)
         | .rw => bits v f.lo f.width
         | _ => bits (s.rd r die inst i) f.lo f.width) ∧
       (∀ k, (∀ f ∈ r.fields, k < f.lo ∨ f.lo + f.width ≤ k) → x.testBit k = (s.rd r die inst i).testBit k)) ∧
  (∀ (s : State) (r : RegDef) (die inst i v c : Nat), s.Rest → s.aon.powered = true → die < 16 → inst < 4096 → v < 2 ^ 64 →
     r ∈ [R.VEC_OP_LO, R.VEC_OP_HI] → s.Reaches r die inst i → regionOf die r.block inst = some c → c ≠ 0 →
     (s.region c ≠ 2 → Machine.exec (.registerWrite (r.addr die inst i) v) s = .next (s.countSat R.STREAM_RWL_REJECTS_COUNT 1 0)) ∧
     (s.region c = 2 → Machine.exec (.registerWrite (r.addr die inst i) v) s = .next
       (((s.wr r die inst i v).put R.STREAM_STATUS_CSR_MODIFIED 1 0).put R.STREAM_REGION_MODIFIED 1 0 0 c)))

/-- MXC_QTAIL_WRITE, SPAD_QTAIL_WRITE, SETE_QTAIL_WRITE and RED_QTAIL_WRITE (R60, R81, R84, R155, R222, R249): a doorbell is
refused without effect while its context is not open or its region is not RUNNING, and at a core that is not its unit's
lead only sets FUSED_DOORBELL; otherwise the queue takes it. -/
def Obligations.DoorbellsMoveQueueTails : Prop :=
  ∀ (s : State) (tail : Nat), s.Rest → s.aon.powered = true → tail < 65536 →
    (∀ die core ctx, isComp die = true → core < 32 → ctx < 64 → s.Reaches R.MXC_QTAIL die core ctx →
      (s.ctxOpen ctx = false ∨ s.running die = false → Machine.exec (.mxcQtailWrite die core ctx tail) s = .next s) ∧
      (s.ctxOpen ctx = true → s.running die = true → s.lead die core ≠ core →
        Machine.exec (.mxcQtailWrite die core ctx tail) s = .next (s.put R.MXC_ERROR_FUSED_DOORBELL 1 die core)) ∧
      (s.ctxOpen ctx = true → s.running die = true → s.lead die core = core →
        s.TailTaken (.mxcQtailWrite die core ctx tail) mxcQ die core ctx tail)) ∧
    (∀ die core ctx, isComp die = true → core < 32 → ctx < 64 → s.Reaches R.SPAD_QTAIL die core ctx →
      (s.ctxOpen ctx = false ∨ s.running die = false → Machine.exec (.spadQtailWrite die core ctx tail) s = .next s) ∧
      (s.ctxOpen ctx = true → s.running die = true →
        s.TailTaken (.spadQtailWrite die core ctx tail) spadQ die core ctx tail)) ∧
    (∀ hub ctx, hub < 2 → ctx < 64 → s.Reaches R.SETE_QTAIL hub 3 ctx →
      (s.claim 1 hub = 1 ∨ s.ctxOpen ctx = false ∨ s.running (0x10 + hub) = false →
        Machine.exec (.seteQtailWrite hub ctx tail) s = .next s) ∧
      (s.claim 1 hub ≠ 1 → s.ctxOpen ctx = true → s.running (0x10 + hub) = true →
        s.TailTaken (.seteQtailWrite hub ctx tail) seteQ hub 3 ctx tail)) ∧
    (∀ chan, chan < 32 → s.Reaches R.RED_QTAIL (s.chanHome chan) chan 0 →
      (s.running (0x20 + chan / 8) = false → Machine.exec (.redQtailWrite chan tail) s = .next s) ∧
      (s.running (0x20 + chan / 8) = true →
        s.TailTaken (.redQtailWrite chan tail) redQ (s.chanHome chan) chan 0 tail))

/-- QUEUE_ENABLE (R104): a queue not yet enabled that may be is enabled, its four pointers 0 and STOPPED clear, its counts begun
anew; one that may not be reads ENABLE 0 with QCFG set; one already enabled at that size stays as it is.
QUEUE_RESUME (R84, R95): the queue is no longer STOPPED; its ENABLE, size and pointers, and all else, stand. -/
def Obligations.QueuesEnableAndResume : Prop :=
  (∀ (s : State) (block die inst ctx size : Nat) (q : QRegs), s.Rest → s.aon.powered = true → die < 16 → inst < 4096 → ctx < 64 →
     size < 32 → qOf block = some q → s.Reaches q.enable.reg die inst ctx → (block = 0x36 → s.claim 1 die ≠ 1) →
     (s.flag q.enable die inst ctx = false → s.qEnableOk q die inst ctx size = true →
       ∃ t, Machine.exec (.queueEnable block die inst ctx size) s = .next t ∧
         t = { s with csr := t.csr, qcnt := t.qcnt } ∧
         s.RegsBut t [q.enable.reg, q.tail.reg, q.head.reg, q.cqhead.reg, q.cqtail.reg] ∧
         t.get q.enable die inst ctx = 1 ∧ t.get q.size die inst ctx = size ∧ t.get q.stopped die inst ctx = 0 ∧
         t.get q.tail die inst ctx = 0 ∧ t.get q.head die inst ctx = 0 ∧ t.get q.cqhead die inst ctx = 0 ∧
         t.get q.cqtail die inst ctx = 0 ∧ (ngetD t.qcnt (qKey q.block die inst ctx) {}).recs = 0 ∧
         (block ≠ 0x61 → (ngetD t.qcnt (qKey q.block die inst ctx) {}).done = 0)) ∧
     (s.flag q.enable die inst ctx = false → s.qEnableOk q die inst ctx size = false →
       ∃ t, Machine.exec (.queueEnable block die inst ctx size) s = .next t ∧ s.AgreeBut t
           [q.enable.reg.addr die inst ctx, q.err.reg.addr die inst 0] ∧
         t.get q.enable die inst ctx = 0 ∧ t.get q.size die inst ctx = size ∧ t.flag q.err die inst = true) ∧
     (s.flag q.enable die inst ctx = true → s.get q.size die inst ctx = size →
       Machine.exec (.queueEnable block die inst ctx size) s = .next s)) ∧
  (∀ (s : State) (block die inst ctx : Nat) (q : QRegs), s.Rest → s.aon.powered = true → die < 16 → inst < 4096 → ctx < 64 →
     qOf block = some q → s.Reaches q.enable.reg die inst ctx → (block = 0x36 → s.claim 1 die ≠ 1) →
     ∃ t, Machine.exec (.queueResume block die inst ctx) s = .next t ∧ s.AgreeBut t [q.enable.reg.addr die inst ctx] ∧
       t.get q.stopped die inst ctx = 0 ∧ t.get q.enable die inst ctx = s.get q.enable die inst ctx ∧
       t.get q.size die inst ctx = s.get q.size die inst ctx)

/-- REGION_STOP, REGION_LOAD and REGION_START (R60, R63, R64, R66, R73) as OCT requests in their turn, on a region c of the
module. A stop of a RUNNING region makes it STOPPING, breaks a die's LOCKs and owes its answer, unless a region that hangs on it is
neither STOPPED nor FAILED; of a STOPPING one it waits with the first; of a STOPPED or FAILED one it is answered at once. A load of a
STOPPED region from a valid stream applies it, notes its identity and answers OK, an invalid one is refused with its status, and a
hardware fault while applying fails the region. A start of a STOPPED region whose parent runs makes it STARTING and holds the answer,
and of a RUNNING one is answered OK. In any other state, and for GLOBAL or an unknown region, the request is refused. While the firmware
has REGION_STARTs to see through, a load or a start waits in its order.
REGION_DRAINED, DRAIN_TIMEOUT and REGION_UNITS_INITIALISED (R60 to R62, R64): a STOPPING region with nothing in flight is
STOPPED, one still at work when its limit passes is FAILED with 0x1A, and in either case every stop of it that waits is answered so;
a STARTING region runs once its units are initialised, and is FAILED with 0x1B where they cannot be: OCT's REGION_START is
answered so, and of the REGION_STARTs that the firmware has to see through, the next then begins. In any other state they do nothing. -/
def Obligations.RegionsFollowTheirStates : Prop :=
  (∀ (s : State) (h : OctHdr) (x : Sess) (c : Nat), h.target = c → c ≠ 0 → regionKnown c = true →
     let q (op aux : Nat) : OctReq := { op := op, hdr := h, opening := x.opening, aux := aux }
     let s0 := s.taken h x
     (s.InTurn 0x20 h x →
       (s0.region c = 0 → (halfDeps c).all (fun d => s0.region d == 2 || s0.region d == 5) = true →
         let s1 := if isComp c then (s0.unitLeads c).foldl (fun s m => s.breakLock c m) s0 else s0
         Machine.exec (.regionStop h) s = .next { s1.setRegion c 1 with octWait := s.octWait ++ [(c, q 0x20 0)] }) ∧
       (s0.region c = 0 → (halfDeps c).all (fun d => s0.region d == 2 || s0.region d == 5) = false →
         Machine.exec (.regionStop h) s = .next
           (((s0.streamError (looseFail 0x18 (c % 256))).put R.STREAM_REGION_LAST_STATUS 0x18 0 0 c).octAnswer (q 0x20 0) octRefused 1 0x18)) ∧
       (s0.region c = 2 →
         Machine.exec (.regionStop h) s = .next ((s0.put R.STREAM_REGION_LAST_STATUS 0 0 0 c).octAnswer (q 0x20 0) octOk 0 0 h.count)) ∧
       (s0.region c = 1 → Machine.exec (.regionStop h) s = .next { s0 with octWait := s.octWait ++ [(c, q 0x20 0)] }) ∧
       (s0.region c = 5 →
         Machine.exec (.regionStop h) s = .next (s0.octResult (q 0x20 0) 1 (s0.get R.STREAM_REGION_LAST_STATUS 0 0 c))) ∧
       (s0.region c ∉ [0, 1, 2, 5] →
         Machine.exec (.regionStop h) s = .next
           (((s0.streamError (looseFail 0x16 (c % 256))).put R.STREAM_REGION_LAST_STATUS 0x16 0 0 c).octAnswer (q 0x20 0) octRefused 1 0x16))) ∧
     (s.InTurn 0x21 h x → s.starts = [] →
       (∀ (fault : Bool), s0.region c ≠ 2 →
         Machine.exec (.regionLoad h fault) s = .next
           (((s0.streamError (looseFail 0x16 (c % 256))).put R.STREAM_REGION_LAST_STATUS 0x16 0 0 c).octAnswer (q 0x21 (b2n fault)) octRefused 1 0x16)) ∧
       (∀ (fault : Bool) f, s0.region c = 2 → s0.validate s0.staged (some c) = .error f → f.status ≠ 0 →
         Machine.exec (.regionLoad h fault) s = .next
           (((s0.streamError f).put R.STREAM_REGION_LAST_STATUS f.status 0 0 c).octAnswer (q 0x21 (b2n fault)) octRefused 1 f.status)) ∧
       (∀ l, s0.region c = 2 → s0.validate s0.staged (some c) = .ok l →
         Machine.exec (.regionLoad h true) s = .next
           ((({ s0.setRegion c 5 with fog := c :: s.fog } : State).put R.STREAM_REGION_LAST_STATUS 0x1B 0 0 c).octAnswer (q 0x21 1) octRefused 1 0x1B)) ∧
       (∀ l, s0.region c = 2 → s0.validate s0.staged (some c) = .ok l →
         ∃ t : State, Machine.exec (.regionLoad h false) s = .next (t.octAnswer (q 0x21 0) octOk 0 0 h.count) ∧
           t.sess? h.src h.port h.session = s0.sess? h.src h.port h.session ∧ ngetD t.recs c [] = l.of c ∧
           t.get R.STREAM_REGION_LOAD_ID 0 0 c = l.id % 2 ^ 32 ∧ t.flag R.STREAM_STATUS_PARTIAL_LOADED 0 = true ∧
           t.get R.STREAM_REGION_MODIFIED 0 0 c = 0 ∧ t.get R.STREAM_REGION_LAST_STATUS 0 0 c = 0 ∧ t.region c = 2)) ∧
     (s.starts ≠ [] →
       (∀ fault : Bool, s.InTurn 0x21 h x →
         Machine.exec (.regionLoad h fault) s = .next { s0 with octQ := [q 0x21 (b2n fault)] }) ∧
       (s.InTurn 0x22 h x → Machine.exec (.regionStart h) s = .next { s0 with octQ := [q 0x22 0] })) ∧
     (s.InTurn 0x22 h x → s.starts = [] →
       (s0.region c ∉ [0, 2] →
         Machine.exec (.regionStart h) s = .next
           (((s0.streamError (looseFail 0x16 (c % 256))).put R.STREAM_REGION_LAST_STATUS 0x16 0 0 c).octAnswer (q 0x22 0) octRefused 1 0x16)) ∧
       (s0.region c = 2 → s0.parentOk c = true →
         Machine.exec (.regionStart h) s = .next { s0.setRegion c 4 with octBusy := some (q 0x22 0) }) ∧
       (s0.region c = 2 → s0.parentOk c = false →
         Machine.exec (.regionStart h) s = .next
           (((s0.streamError (looseFail 0x19 (c % 256))).put R.STREAM_REGION_LAST_STATUS 0x19 0 0 c).octAnswer (q 0x22 0) octRefused 1 0x19)) ∧
       (s0.region c = 0 →
         Machine.exec (.regionStart h) s = .next ((s0.put R.STREAM_REGION_LAST_STATUS 0 0 0 c).octAnswer (q 0x22 0) octOk 0 0 h.count)))) ∧
  (∀ (s : State) (h : OctHdr) (x : Sess), h.target = 0 ∨ regionKnown h.target = false →
     let q (op : Nat) : OctReq := { op := op, hdr := h, opening := x.opening }
     let s1 := (s.taken h x).streamError (looseFail 0xB (h.target % 256))
     let s2 := if regionKnown h.target then s1.put R.STREAM_REGION_LAST_STATUS 0xB 0 0 h.target else s1
     (s.InTurn 0x20 h x → Machine.exec (.regionStop h) s = .next (s2.octAnswer (q 0x20) octRefused 1 0xB)) ∧
     (∀ fault : Bool, s.InTurn 0x21 h x → s.starts = [] →
       Machine.exec (.regionLoad h fault) s = .next (s2.octAnswer { q 0x21 with aux := b2n fault } octRefused 1 0xB)) ∧
     (s.InTurn 0x22 h x → s.starts = [] → Machine.exec (.regionStart h) s = .next (s2.octAnswer (q 0x22) octRefused 1 0xB))) ∧
  (∀ (s : State) (c : Nat), s.Rest → s.clocked 0 5 = true → c ≠ 0 → regionKnown c = true →
     (s.region c = 1 →
       let waiting := s.octWait.filter (fun x => x.1 == c)
       let left := s.octWait.filter (fun x => x.1 != c)
       let ended (t : State) (st : Nat) : State := { t.put R.STREAM_REGION_LAST_STATUS st 0 0 c with octWait := left }
       (s.drained c = true →
         let t := waiting.foldl (fun (t : State) x => t.octAnswer x.2 octOk 0 0 x.2.hdr.count) (ended (s.setRegion c 2) 0)
         Machine.exec (.regionDrained c) s = .next t ∧ Machine.exec (.drainTimeout c) s = .next t ∧ t.region c = 2) ∧
       (s.drained c = false →
         let t := waiting.foldl (fun (t : State) x => t.octAnswer x.2 octRefused 1 0x1A) (ended (s.setRegion c 5) 0x1A)
         Machine.exec (.regionDrained c) s = .next s ∧ Machine.exec (.drainTimeout c) s = .next t ∧ t.region c = 5)) ∧
     (s.region c = 4 → s.regionHeld c = false → s.resets = [] →
       (∃ t, Machine.exec (.regionUnitsInitialised c true) s = .next t ∧ t.region c = 0 ∧ t.get R.STREAM_REGION_LAST_STATUS 0 0 c = 0 ∧
         let t0 := s.unitsInitialised c true
         ∀ d l, t0.starts = d :: l → t0.region d = 2 → t0.parentOk d = true → t.region d = 4 ∧ t.starts = d :: l) ∧
       (∃ t, Machine.exec (.regionUnitsInitialised c false) s = .next t ∧ t.region c = 5 ∧
         t.get R.STREAM_REGION_LAST_STATUS 0 0 c = 0x1B)) ∧
     (s.region c ≠ 1 → Machine.exec (.regionDrained c) s = .next s ∧ Machine.exec (.drainTimeout c) s = .next s) ∧
     (s.region c ≠ 4 ∨ s.regionHeld c = true → ∀ ok, Machine.exec (.regionUnitsInitialised c ok) s = .next s)) ∧
  (∀ (s : State) (c : Nat) (q : OctReq) (ok : Bool), { s with octBusy := none }.Rest → s.octBusy = some q → q.op = 0x22 →
     q.hdr.target = c → s.clocked 0 5 = true → c ≠ 0 → regionKnown c = true → s.region c = 4 → s.regionHeld c = false →
     s.resets = [] → s.starts = [] →
     ∃ t : State, Machine.exec (.regionUnitsInitialised c ok) s = .next
         (if ok then t.octAnswer q octOk 0 0 q.hdr.count else t.octAnswer q octRefused 1 0x1B) ∧
       t.octBusy = none ∧ t.sessions = s.sessions ∧ t.region c = (if ok then 0 else 5) ∧
       t.get R.STREAM_REGION_LAST_STATUS 0 0 c = if ok then 0 else 0x1B)

/-! ### Matrix cores and vector engines -/

/-- DESCRIPTOR_TAKE (R84, R85, R93): the queue whose turn it is gives its descriptor at HEAD, which moves on by one; the
context has one more item outstanding; the descriptor is in hand, waiting if it asks for a token, and takes the LOCK it asks
for. An OPCODE above 2 stops the queue. Where no queue may be taken from, nothing happens.
TOKEN_WAIT_MET and TOKEN_CLEAR (R91, R104): a waiting descriptor or move whose token is nonzero takes one from it and goes on;
one whose token is 0 goes on waiting; clearing sets every token of the unit to 0. -/
def Obligations.DescriptorsAndTokensAreTaken : Prop :=
  (∀ (s : State) (die core : Nat), s.Rest → isComp die = true → core < 32 → s.coreAt die core 0 = true →
     s.lead die core = core →
     let disc := s.discardingDie die || s.unitIdle die 0x10 core
     (s.takeFrom die core disc = none → Machine.exec (.descriptorTake die core) s = .next s) ∧
     (∀ c bytes, s.takeFrom die core disc = some c → s.get R.MXC_QCFG_SIZE_LOG2 die core c ≤ 16 →
       (s.load { die := die, part := s.partOfDie die } (s.qSlot mxcQ die core c) 64).2 = .ok bytes →
       let raw := leVal bytes
       (tOp raw = 1 ∨ tOp raw = 2 ∨ (tOp raw = 0 ∧ tWait raw = true) →
         ∃ t x, Machine.exec (.descriptorTake die core) s = .next t ∧ t = { s with csr := t.csr, mx := t.mx } ∧
           s.RegsBut t [R.MXC_QHEAD, R.OCT_CTX, R.MXC_STATUS, R.HBMC_RD_BYTES] ∧
           t.get R.MXC_QHEAD_HEAD die core c = (s.get R.MXC_QHEAD_HEAD die core c + 1) % 2 ^ s.get R.MXC_QCFG_SIZE_LOG2 die core c % 2 ^ 16 ∧
           t.get R.OCT_CTX_OUTSTANDING 0 0 c = (s.get R.OCT_CTX_OUTSTANDING 0 0 c + 1) % 2 ^ 24 ∧
           (t.unit die core).inHand = (s.unit die core).inHand ++ [x] ∧ x.ctx = c ∧ x.gen = s.ctxGen c ∧ x.raw = raw ∧
           x.stage = (if tWait raw then .waiting else .ready) ∧ (t.unit die core).rr = c ∧
           (t.unit die core).lock = if tLock raw && tOp raw == 1 then some c else none) ∧
       (2 < tOp raw → ∃ t, Machine.exec (.descriptorTake die core) s = .next t ∧ t.flag R.MXC_QCFG_STOPPED die core c = true))) ∧
  (∀ (s : State) (die core c : Nat), s.Rest → isComp die = true → core < 32 → c < 64 → s.coreAt die core 0 = true →
     (∀ d, s.waitingTile die core c = some d →
       (s.token die core (tWaitTok d.raw) = 0 → Machine.exec (.tokenWaitMet false die core c) s = .next s) ∧
       (s.token die core (tWaitTok d.raw) ≠ 0 → tOp d.raw ≠ 0 →
         s.tileCheck die core d.ctx d.raw (s.unit die core).lost = (0, none) →
         (s.put R.MXC_TOKEN_COUNT (s.token die core (tWaitTok d.raw) - 1) die (s.lead die core) (tWaitTok d.raw)).tileCheck
           die core d.ctx d.raw (s.unit die core).lost = (0, none) →
         let s1 := s.put R.MXC_TOKEN_COUNT (s.token die core (tWaitTok d.raw) - 1) die (s.lead die core) (tWaitTok d.raw)
         Machine.exec (.tokenWaitMet false die core c) s = .next
           (s1.putMx die core ((s.unit die core).update { s1.checkedTile die core d with stage := .ready })))) ∧
     (∀ d, (s.mover die core).hand = none → (s.mover die core).held.find? (fun d => d.ctx == c) = some d →
       (s.token die core (mWaitTok d.raw) = 0 → Machine.exec (.tokenWaitMet true die core c) s = .next s) ∧
       (s.token die core (mWaitTok d.raw) ≠ 0 → Machine.exec (.tokenWaitMet true die core c) s = .next
         ((s.put R.MXC_TOKEN_COUNT (s.token die core (mWaitTok d.raw) - 1) die (s.lead die core) (mWaitTok d.raw)).putMover die core
           { s.mover die core with hand := some { d with waiting := false }, held := (s.mover die core).held.erase d }))) ∧
     ∃ t, Machine.exec (.tokenClear die core) s = .next t ∧ t = { s with csr := t.csr } ∧ s.RegsBut t [R.MXC_TOKEN] ∧
       ∀ k, k < 16 → t.token die core k = 0)

/-- PRODUCT_START (R76, R83, R97, R99, R101, R102): the first product whose turn it is starts, if it may: a routed product is
handed to the engine (PENDING rises); another issues its beats at its tile, which BEATS and STARVED count, and a product that
writes its tile under ACC_SELECT 0 turns the alternation; beats end an idle gap, whose fillers are counted. With no product to
start, nothing happens.
PRODUCT_COMPLETE (R88, R97, R111, R112): an issuing product that may land (no chain that has yet to begin holds its tile, its
fetch is sound, its accumulators are not carried on) writes every element of its tile: beats accumulated in order from what
it starts with, an integer run finished in FP32. A held tile stalls it; a unit with nothing issuing stands still. -/
def Obligations.ProductsStartAndLand : Prop :=
  (∀ (s : State) (die core starved fillers : Nat), s.Rest → isComp die = true → core < 32 → starved < 2 ^ 64 → fillers < 2 ^ 64 → s.coreAt die core 0 = true →
     (startable [] (s.unit die core).inHand = none → Machine.exec (.productStart die core starved fillers) s = .next s) ∧
     (∀ d, startable [] (s.unit die core).inHand = some d →
       (d.checked = true ∨ s.tileCheck die core d.ctx d.raw (s.unit die core).lost = (0, none)) →
       (s.mayStart die core d = false → Machine.exec (.productStart die core starved fillers) s = .next s) ∧
       (s.mayStart die core d = true → tRoute d.raw = true → tM d.raw ≠ 0 → tN d.raw ≠ 0 →
         Machine.exec (.productStart die core starved fillers) s = .next
           ((s.putMx die core ((s.unit die core).begin { d with stage := .handed, flags := 2, checked := true })).put
             R.VEC_STATUS_PENDING (s.get R.VEC_STATUS_PENDING die core + 1) die core)) ∧
       (s.mayStart die core d = true → tRoute d.raw = false →
         ∃ t x, Machine.exec (.productStart die core starved fillers) s = .next t ∧ t = { s with csr := t.csr, mx := t.mx } ∧
           s.RegsBut t [R.MXC_BEATS, R.MXC_STARVED, R.MXC_FILLERS, R.MXC_STATUS] ∧
           x ∈ (t.unit die core).inHand ∧ x.id = d.id ∧ x.raw = d.raw ∧ x.stage = .issuing ∧
           x.tile = targetTile (s.unit die core) d.raw ∧ x.beats = s.beatsOf die ((s.ctxPart d.ctx).getD 0) d.raw ∧
           t.get R.MXC_BEATS_COUNT die core = (s.get R.MXC_BEATS_COUNT die core + x.beats) % 2 ^ 48 ∧
           t.get R.MXC_STARVED_COUNT die core = (s.get R.MXC_STARVED_COUNT die core + starved) % 2 ^ 48 ∧
           t.get R.MXC_FILLERS_COUNT die core =
             (s.get R.MXC_FILLERS_COUNT die core + if x.beats = 0 then 0 else s.fillersIn die core fillers) % 2 ^ 48 ∧
           (t.unit die core).alt = (if writesTile d.raw && tAccSel d.raw == 0 then 1 - x.tile else (s.unit die core).alt)))) ∧
  (∀ (s : State) (die core stall : Nat) (fixed : List (Nat × Nat)), s.Rest → isComp die = true → core < 32 → stall < 2 ^ 64 →
     fixedWf fixed = true → s.coreAt die core 0 = true →
     (s.issuing die core = none → Machine.exec (.productComplete die core stall fixed) s = .next s) ∧
     (∀ d, s.issuing die core = some d → writesTile d.raw = true →
       let u := s.unit die core
       let cont := u.goesOn d
       s.carriesOn die core d cont = false →
       (u.holds d = true → Machine.exec (.productComplete die core stall fixed) s = .next s) ∧
       (let p := (s.ctxPart d.ctx).getD 0
        let s1 := s.corrected die fixed
        let x := s1.prodIn die core p d.raw d.idx
        u.holds d = false → s1.prodBad die core p d.raw d.idx = none →
        tM d.raw ≤ (unitShape (s.unitMode die core)).1 → tN d.raw ≤ (unitShape (s.unitMode die core)).2 →
        ∃ t, Machine.exec (.productComplete die core stall fixed) s = .next t ∧
          ∀ i j, i < tM d.raw → j < tN d.raw →
            t.unitElem die core d.tile i j =
              (prodElem x d.raw i j (cont || tCont d.raw || !f32IsZero (tBeta d.raw))
                (s1.prodStart die core d.tile d.raw i j u.work cont)).out)))

/-- BARRIER_COMPLETE and LOCK_LIMIT_EXPIRE (R86, R87): a BARRIER alone in hand completes: it leaves the unit, DESCS counts it and
its context has one item fewer outstanding. A LOCK whose queue is empty, or whose next descriptor waits, is broken:
LOCK_BROKEN is set, LOCKED clears, and the next continuation of its context has lost its accumulators.
GROUP_SLEEP and GROUP_WAKE (R101, R102, R104): one column group more asleep on every member of a unit with no beat ready, or
awake where one is, with the fillers issued counted (in the hold window at most HOLD); nothing else changes. -/
def Obligations.BarriersLocksAndColumnGroups : Prop :=
  (∀ (s : State) (die core : Nat), s.Rest → isComp die = true → core < 32 → s.coreAt die core 0 = true →
     (∀ d, (s.unit die core).inHand = [d] → d.ctx < 64 → d.stage = .ready → tOp d.raw = 2 → tComplete d.raw = false →
       d.status = 0 → s.tileCheck die core d.ctx d.raw (s.unit die core).lost = (0, none) →
       ∃ t, Machine.exec (.barrierComplete die core d.ctx) s = .next t ∧
         t = { s with csr := t.csr, mx := t.mx, qcnt := t.qcnt } ∧ s.RegsBut t [R.MXC_TOKEN, R.MXC_DESCS, R.OCT_CTX] ∧
         (t.unit die core).inHand = [] ∧ t.get R.MXC_DESCS_COUNT die core = (s.get R.MXC_DESCS_COUNT die core + 1) % 2 ^ 48 ∧
         t.get R.OCT_CTX_OUTSTANDING 0 0 d.ctx = s.get R.OCT_CTX_OUTSTANDING 0 0 d.ctx - 1) ∧
     ((s.unit die core).lock = none → Machine.exec (.lockLimitExpire die core) s = .next s) ∧
     (∀ c, (s.unit die core).lock = some c →
       (s.qLen mxcQ die core c = 0 ∧ (s.unit die core).inHand.filter (fun d => d.ctx == c) = []) ∨
         ((s.unit die core).inHand.any (fun d => d.ctx == c && d.stage == .waiting) = true) →
       ∃ t, Machine.exec (.lockLimitExpire die core) s = .next t ∧ t = { s with csr := t.csr, mx := t.mx } ∧
         s.RegsBut t [R.MXC_ERROR, R.MXC_STATUS] ∧ t.unit die core = { s.unit die core with lock := none, lost := c :: (s.unit die core).lost } ∧
         t.flag R.MXC_ERROR_LOCK_BROKEN die core = true ∧ ∀ m ∈ s.members die core, t.get R.MXC_STATUS_LOCKED die m.1 = 0)) ∧
  (∀ (s : State) (die core fillers : Nat), s.Rest → isComp die = true → core < 32 → fillers < 2 ^ 64 → s.coreAt die core 0 = true →
     let n := s.get R.MXC_STATUS_AWAKE die core
     (n ≠ 0 → s.lead die core = core → s.nextReady die core = false →
       ∃ t, Machine.exec (.groupSleep die core fillers) s = .next t ∧ t = { s with csr := t.csr } ∧
         s.RegsBut t [R.MXC_STATUS, R.MXC_FILLERS] ∧
         t.get R.MXC_FILLERS_COUNT die core = (s.get R.MXC_FILLERS_COUNT die core + s.fillersIn die core fillers) % 2 ^ 48 ∧
         ∀ m ∈ s.members die core, t.get R.MXC_STATUS_AWAKE die m.1 = n - 1 ∧ t.get R.MXC_STATUS_RUN die m.1 = if n = 1 then 0 else 3) ∧
     (n = 0 ∨ s.lead die core ≠ core ∨ s.nextReady die core = true → Machine.exec (.groupSleep die core fillers) s = .next s) ∧
     (n < 16 → s.lead die core = core → s.nextReady die core = true ∨ s.issuing die core ≠ none →
       ∃ t, Machine.exec (.groupWake die core fillers) s = .next t ∧ t = { s with csr := t.csr } ∧
         s.RegsBut t [R.MXC_STATUS, R.MXC_FILLERS] ∧
         t.get R.MXC_FILLERS_COUNT die core = (s.get R.MXC_FILLERS_COUNT die core + s.fillersIn die core fillers) % 2 ^ 48 ∧
         ∀ m ∈ s.members die core, t.get R.MXC_STATUS_AWAKE die m.1 = n + 1 ∧ t.get R.MXC_STATUS_RUN die m.1 = 3) ∧
     (16 ≤ n ∨ s.lead die core ≠ core ∨ (s.nextReady die core = false ∧ s.issuing die core = none) → Machine.exec (.groupWake die core fillers) s = .next s))

/-- ACC_ECC_UNCORR, FEED_PARITY, TB_ECC_UNCORR and SPAD_ECC_UNCORR (R103, R150, R154): the error bit is set, the damaged tile,
tile buffer or word is undefined from then on, and (but for the scratchpad's, which needs a reader) the unit is FAULTED, at its
lead, with nothing in progress. -/
def Obligations.UncorrectableErrorsFaultTheUnit : Prop :=
  ∀ (s : State) (die core : Nat), s.Rest → isComp die = true → core < 32 → s.inProgress die (s.lead die core) = none →
    (s.coreAt die core 0 = true →
      (∀ tile, tile < 2 → ∃ t k, Machine.exec (.accEccUncorr die core tile) s = .next t ∧
        t.flag R.MXC_ERROR_ACC_ECC_UNCORR die (s.lead die core) = true ∧ t.mem = s.mem ∧
        t.flag R.MXC_STATUS_FAULTED die (s.lead die core) = true ∧
        ∀ i, (t.tile die core tile).at i = BitVec.ofNat 32 (Config.free k i)) ∧
      (∃ t, Machine.exec (.feedParity die core) s = .next t ∧ t = { s with csr := t.csr, out := t.out } ∧
        t.flag R.MXC_ERROR_FEED_PARITY die (s.lead die core) = true ∧
        t.flag R.MXC_STATUS_FAULTED die (s.lead die core) = true) ∧
      (∀ off, off < 0x400000 → ∃ t, Machine.exec (.spadEccUncorr die core off) s = .next t ∧
        t.flag R.SPAD_ERROR_ECC_UNCORR die core = true ∧ s.AgreeBut { t with mem := s.mem } [R.SPAD_ERROR.addr die core 0] ∧
        t.mem.cells = s.mem.cells ∧ (t.mem.badIn (spadBase die core + off) 1).isSome = true)) ∧
    (s.coreAt die core 1 = true → (∀ d ∈ (s.unit die (s.lead die core)).inHand, d.stage ≠ .engine) →
      ∀ tb rows, tb < 6 → rows < 128 → ∃ t k, Machine.exec (.tbEccUncorr die core tb rows) s = .next t ∧
        t.flag R.VEC_ERROR_TB_ECC_UNCORR die core = true ∧ t.mem = s.mem ∧
        t.flag R.MXC_STATUS_FAULTED die (s.lead die core) = true ∧
        ∀ i, (t.tb die core tb).at i = BitVec.ofNat 32 (Config.free k i))

/-- POST_CHAIN_START (R128, R142, R147): the engine takes up the work next in the order taken: for a routed product ROUTED is set;
for a chain every member is BUSY, PENDING falls, and a chain under RNG_AUTO moves the counter on by 2^19.
CHAIN_COMPLETE and ROUTED_PRODUCT_COMPLETE (R99, R128, R142, R148): a chain's end releases its tile, unless a later chain holds it,
and counts it on every member of the unit, and one that is all the unit has in hand and asks for no record leaves memory as its rows,
each through its stages, leave it; a routed product that is all the unit has in hand and asks for no record writes its rows at C_OFF, each element
folded in lane order, with BETA * C fused in where BETA is nonzero. -/
def Obligations.TheEngineTakesAndFinishesWork : Prop :=
  (∀ (s : State) (die core : Nat), s.Rest → isComp die = true → core < 32 → s.coreAt die core 1 = true →
     (engineNext (s.unit die core).inHand = none → Machine.exec (.postChainStart die core) s = .next s) ∧
     (∀ d, engineNext (s.unit die core).inHand = some d →
       (tRoute d.raw = true → Machine.exec (.postChainStart die core) s = .next
         (((s.putMx die core ((s.unit die core).update { d with stage := .engine })).put R.VEC_STATUS_PENDING
           (s.get R.VEC_STATUS_PENDING die core - 1) die core).put R.VEC_STATUS_ROUTED 1 die core)) ∧
       (tRoute d.raw = false →
         ∃ t, Machine.exec (.postChainStart die core) s = .next t ∧ t = { s with csr := t.csr, mx := t.mx } ∧
           s.RegsBut t [R.VEC_STATUS, R.VEC_RNG_CTR] ∧
           (t.unit die core).inHand = ((s.unit die core).update { d with stage := .engine }).inHand ∧
           (let c := d.chainOf
            t.get R.VEC_RNG_CTR_CTR die core =
              if c.rngAuto then (s.get R.VEC_RNG_CTR_CTR die core + 2 ^ 19) % 2 ^ 40 else s.get R.VEC_RNG_CTR_CTR die core) ∧
           ∀ m ∈ s.members die core, t.get R.VEC_STATUS_BUSY die m.1 = 1 ∧
             t.get R.VEC_STATUS_PENDING die m.1 = s.get R.VEC_STATUS_PENDING die m.1 - 1))) ∧
  (∀ (s : State) (die core cycles stalled : Nat) (fixed : List (Nat × Nat)), s.Rest → isComp die = true → core < 32 →
     cycles < 2 ^ 64 → stalled < 2 ^ 64 → fixedWf fixed = true → s.coreAt die core 1 = true →
     let s1 := s.corrected die fixed
     (∀ d, (s.unit die core).inHand.find? (fun d => d.stage == .engine && tPost d.raw) = some d →
       d.tile < 2 → s1.chainStops die core d = none →
       ∃ t, Machine.exec (.chainComplete die core cycles stalled fixed) s = .next t ∧
         (∀ y ∈ (t.unit die core).inHand, y.id = d.id → y.stage = .finished) ∧
         ((s.unit die core).inHand = [d] → tComplete d.raw = false → d.status = 0 →
           (t.unit die core).inHand = [] ∧ t.mem = (s1.chainRows die core d 128).mem.canon) ∧
         ∀ m ∈ s.members die core, bit (t.get R.MXC_STATUS_HELD die m.1) d.tile = (s.unit die core).holds d ∧ t.get R.VEC_STATUS_BUSY die m.1 = 0 ∧
           t.get R.VEC_CHAINS_COUNT die m.1 = (s.get R.VEC_CHAINS_COUNT die m.1 + 1) % 2 ^ 48) ∧
     (∀ d, (s.unit die core).inHand = [d] → d.stage = .engine → tRoute d.raw = true → tComplete d.raw = false → d.status = 0 →
       let p := (s.ctxPart d.ctx).getD 0
       let x := s1.prodIn die core p d.raw d.idx
       s1.prodBad die core p d.raw d.idx = none → 4 * tN d.raw ≤ 64 * tLdc d.raw →
       ∃ t, Machine.exec (.routedProductComplete die core cycles fixed) s = .next t ∧ t.get R.VEC_STATUS_ROUTED die core = 0 ∧
         t.get R.VEC_ROUTED_COUNT die core = (s.get R.VEC_ROUTED_COUNT die core + 1) % 2 ^ 48 ∧ (t.unit die core).inHand = [] ∧
         ∀ i j, i < tM d.raw → j < tN d.raw →
           t.win die core (tCOff d.raw * 64 + i * tLdc d.raw * 64 + 4 * j) 4 =
             leBytes 4 (if f32IsZero (tBeta d.raw) then routedElem x d.raw i j
                        else f32Fma (tBeta d.raw) (s.cElem die core d.raw i j) (routedElem x d.raw i j)).toNat))

/-! ### Memory -/

/-- MOVE_TAKE (R155, R158): the mover takes the descriptor at the HEAD of the queue whose turn it is: one that passes its checks
is in hand, or held back on its own queue until its token comes; one that fails a check stops its queue.
MOVE_COMPLETE and FAR_SPILL_ACK (R155, R157, R173): a COPY of one row, without a record, whose bytes may be reached over
trained links and are sound, leaves the source's bytes (or the bytes that the host answers with, for a source in the far window) at its
destination and no other byte changed; the mover is free, and MOVED counts the lines written. -/
def Obligations.MovesAreTakenAndLand : Prop :=
  (∀ (s : State) (die core c : Nat) (bytes : List Byte), s.Rest → isComp die = true → core < 32 → s.coreAt die core 0 = true →
     s.unitIdle die 0x12 core = false → s.running die = true → (s.mover die core).hand = none →
     roundRobin 64 (s.mover die core).rr (s.moverMayTake die core) = some c →
     let l := s.load { die := die, part := s.partOfDie die } (s.qSlot spadQ die core c) 64
     l.2 = .ok bytes →
     let raw := leVal bytes
     let s1 := ((l.1.qAdvance spadQ die core c).ctxHold c).putMover die core { s.mover die core with rr := c }
     let d : QDesc := { ctx := c, gen := s.ctxGen c, raw := raw, waiting := mWait raw,
                        nosig := mSignal raw && !s1.tokenOk die (mSigCore raw) (s1.partOfDie die) }
     (s1.moveCheck die core raw = (0, none) →
       Machine.exec (.moveTake die core) s = .next (s1.putMover die core
         (if mWait raw then { s.mover die core with rr := c, held := (s.mover die core).held ++ [d] }
          else { s.mover die core with rr := c, hand := some d }))) ∧
     ((s1.moveCheck die core raw).1 ≠ 0 →
       ∃ t, Machine.exec (.moveTake die core) s = .next t ∧ t.flag R.SPAD_QCFG_STOPPED die core c = true ∧
         t.flag R.SPAD_ERROR_MOVE_FAIL die core = true ∧ t.get R.SPAD_ERROR_STATUS die core = (s1.moveCheck die core raw).1 ∧
         (t.mover die core).hand = none)) ∧
  (∀ (s : State) (die core cycles : Nat) (d : QDesc), s.Rest → isComp die = true → core < 32 → cycles < 2 ^ 64 →
     s.coreAt die core 0 = true → (s.mover die core).hand = some d → d.status = 0 → s.movePath die d.raw = true → s.moveCut die core = false →
     let raw := d.raw
     let n := mRowBytes raw
     let w : Who := { die := die, part := some ((s.partOfDie die).getD 0), mover := true }
     mOp raw = 1 → mRows raw = 1 → n ≠ 0 → mComplete raw = false → isFar (mDst raw) = false → s.mem.bad = [] →
     s.judge w (mDst raw) n = 0 → s.accumCarve (mDst raw) n = none →
     (∀ fixed, fixedWf fixed = true → isFar (mSrc raw) = false → s.judge w (mSrc raw) n = 0 →
       (mSrc raw + n ≤ mDst raw ∨ mDst raw + n ≤ mSrc raw) →
       ∃ t, Machine.exec (.moveComplete die core cycles fixed) s = .next t ∧ (t.mover die core).hand = none ∧
         t.mem.read (mDst raw) n = s.mem.read (mSrc raw) n ∧
         (∀ a, a < mDst raw ∨ mDst raw + n ≤ a → t.mem.byte a = s.mem.byte a) ∧
         t.get R.SPAD_MOVED_COUNT die core = (s.get R.SPAD_MOVED_COUNT die core + (mDst raw % 64 + n + 63) / 64) % 2 ^ 48) ∧
     (∀ host : List Byte, isFar (mSrc raw) = true → s.flag R.ETH_STATUS_LINK_UP 0 = true →
       (s.farQp ((s.partOfDie die).getD 0)).isSome = true → n ≤ host.length →
       ∃ t, Machine.exec (.farSpillAck die core cycles host) s = .next t ∧ (t.mover die core).hand = none ∧
         t.mem.read (mDst raw) n = host.take n ∧
         (∀ a, a < mDst raw ∨ mDst raw + n ≤ a → t.mem.byte a = s.mem.byte a) ∧
         t.get R.SPAD_MOVED_COUNT die core = (s.get R.SPAD_MOVED_COUNT die core + (mDst raw % 64 + n + 63) / 64) % 2 ^ 48))

/-- MEMORY_REQUEST (R165, R166, R171): a read at a home that may be reached over trained links answers the bytes; a write of bytes of which no cache
holds a copy is made and answered at once, and one whose line a cache holds waits for its invalidations; one that may
not be reached is answered with its fault kind and changes no memory.
RLC_FILL_RETURN and RLC_INVALIDATION (R164 to R166): a fill that returns is installed as the line most recently used, unless an
invalidation overtook it; an invalidation leaves the die no copy of the line, marks its fills, and a write that waited for
this last acknowledgement is answered. -/
def Obligations.MemoryIsServedAndCached : Prop :=
  (∀ (s : State) (q : MemReq), s.Rest → q.wf = true → q.damage = [] → q.fixed = [] → s.aon.powered = true →
     s.isHeld q.die = false → s.linked q.die (addrDie q.addr) = true → s.cutAt q.die none q.addr q.len = false →
     let w : Who := { die := q.die, part := q.part }
     (∀ s1 data, q.write = false → s.load w q.addr q.len = (s1, .ok data) → s1.cacheable q.die q.addr = false →
       Machine.exec (.memoryRequest q) s = .next { s1 with out := s.out ++ [.mem q.tag true 0 data] }) ∧
     (∀ s1, q.write = true → s.storeRaw w q.addr q.data q.plain = (s1, 0) → s.rlc = [] → s.fills = [] →
       Machine.exec (.memoryRequest q) s = .next { s1 with out := s.out ++ [.mem q.tag true 0 []] }) ∧
     (∀ s1 line, q.write = true → s.storeRaw w q.addr q.data q.plain = (s1, 0) → line = lineOf q.addr → isHomeDram line = true →
       q.data ≠ [] → (∃ d, isComp d = true ∧ line ∈ ngetD s.rlc d []) →
       ∃ t, Machine.exec (.memoryRequest q) s = .next t ∧ t.mem = s1.mem ∧ t.out = s.out ∧ ∃ v ∈ t.invWaits, v.line = line ∧ v.tag = q.tag) ∧
     (∀ k, k ≠ 0 → k ≠ 6 → s.judge w q.addr (if q.write then q.data.length else q.len) = k →
       ∃ t, Machine.exec (.memoryRequest q) s = .next t ∧ t.mem = s.mem ∧ t.out = s.out ++ [.mem q.tag false k []])) ∧
  (∀ (s : State) (die line : Nat), s.Rest → isComp die = true → line < 2 ^ 48 → s.clocked die 2 = true →
     (∀ f, s.fills.find? (fun f => f.die == die && f.line == line) = some f → s.linked die (addrDie line) = true →
       ∃ t, Machine.exec (.rlcFillReturn die line) s = .next t ∧ t.fills = s.fills.erase f ∧ t.mem = s.mem ∧
         t.get R.RLC_MISSES_COUNT die = (s.get R.RLC_MISSES_COUNT die + 1) % 2 ^ 48 ∧
         (f.killed = true → t.rlc = s.rlc) ∧ (f.killed = false → (ngetD t.rlc die []).head? = some line)) ∧
     (∃ t, Machine.exec (.rlcInvalidation die line) s = .next t ∧ line ∉ ngetD t.rlc die [] ∧ t.mem = s.mem ∧
       (∀ f ∈ t.fills, f.die = die → f.line = line → f.killed = true) ∧
       ∀ tag, s.invWaits = [⟨line, [die], tag⟩] → t.invWaits = [] ∧ t.out = s.out ++ [.mem tag true 0 []]))

/-- PATROL_SCRUB and DRAM_REFRESH (R160, R162, R176): a scrub reads the stack's next burst, 32 bytes, and counts a correction or notes
a burst in error; a refresh is granted as its channel's class-0 requester ahead of every other class. -/
def Obligations.ScrubAndRefreshGoOn : Prop :=
  ∀ (s : State) (die stack : Nat), s.Rest → isComp die = true → stack < 8 → s.clocked die (4 + stack) = true →
    (s.flag R.HBMC_CFG_SCRUB_EN die stack = true → stack ∈ s.stacks die →
      let k := die * 8 + stack
      let s1 := ({ s with scrubAt := nset k ((ngetD s.scrubAt k 0 + 1) % 0x80000000) s.scrubAt } : State).put R.HBMC_RD_BYTES_COUNT
        (s.get R.HBMC_RD_BYTES_COUNT die stack + 32) die stack
      (∀ addr, addr < 2 ^ 48 → Machine.exec (.patrolScrub die stack 0 addr) s = .next s1) ∧
      (∀ addr, addr < 2 ^ 48 → Machine.exec (.patrolScrub die stack 1 addr) s = .next
        (s1.put R.HBMC_ECC_CORR_COUNT (s.get R.HBMC_ECC_CORR_COUNT die stack + 1) die stack)) ∧
      (∀ addr, addr < 2 ^ 48 → isHomeDram addr = true → s.flag R.HBMC_ERROR_UNCORR (addrDie addr) (s.dramPlace (addr - addr % 32)).1 = false →
        ∃ t, Machine.exec (.patrolScrub die stack 2 addr) s = .next t ∧ addr - addr % 32 ∈ t.mem.bad ∧ t.mem.cells = s.mem.cells ∧
          t.flag R.HBMC_ERROR_UNCORR (addrDie addr) (s.dramPlace (addr - addr % 32)).1 = true ∧
          t.get R.HBMC_ERROR_CHANNEL (addrDie addr) (s.dramPlace (addr - addr % 32)).1 = (s.dramPlace (addr - addr % 32)).2.1)) ∧
    (∀ chan, chan < 32 →
      let inst := 0x400 + 32 * stack + chan
      s.arbClass die inst 5 = 0 → (∀ r, r < 5 → s.arbClass die inst r ≠ 0) → (s.arb die inst).left 5 = 0 →
      ∃ t, Machine.exec (.dramRefresh die stack chan) s = .next t ∧ t = { s with csr := t.csr, arbs := t.arbs } ∧
        (t.arb die inst).left 5 = 0 ∧ (∀ r, r < 5 → (t.arb die inst).left r = (s.arb die inst).left r) ∧
        t.get R.ARB_STATUS_BURST_OWNER die inst = s.get R.ARB_STATUS_BURST_OWNER die inst)

/-! ### Arbiters -/

/-- R309 to R311: a class-0 requester pending is chosen; else the burst in progress goes on, unless it may be preempted and a
better rank is pending; else a requester of the best rank (aged classes before class 1) is chosen, one whose burst was preempted
before one that would begin another. Only what is pending is chosen.
ARB_GRANT, ARB_AGED and ARB_FREEZE (R309, R312, R314, R318): a cycle grants one beat to the requester chosen and no other loses
one; the grant and the waits are counted where the arbiter has those counters; a class whose wait reaches AGING is aged;
FREEZE takes the value written where the arbiter has it. -/
def Obligations.ArbitersChooseAndGrant : Prop :=
  (∀ (s : State) (die inst : Nat) (a : Arb),
     let pend := s.arbPending die inst a
     let owner := s.get R.ARB_STATUS_BURST_OWNER die inst
     (pend = [] → s.arbChoose die inst a = none) ∧
     (pend ≠ [] → ∃ g ∈ pend, s.arbChoose die inst a = some g ∧
       ((∃ r ∈ pend, s.arbClass die inst r = 0) → s.arbClass die inst g = 0) ∧
       ((∀ r ∈ pend, s.arbClass die inst r ≠ 0) → owner ∈ pend →
         (s.arbKind die inst owner ≠ 2 ∨ s.arbPre die inst owner = false ∨
           ∀ r ∈ pend, s.arbRank die inst owner ≤ s.arbRank die inst r) → g = owner) ∧
       ((∀ r ∈ pend, s.arbClass die inst r ≠ 0) →
         (owner ∉ pend ∨ (s.arbKind die inst owner = 2 ∧ s.arbPre die inst owner = true ∧
           ∃ r ∈ pend, s.arbRank die inst r < s.arbRank die inst owner)) →
         (∀ r ∈ pend, s.arbRank die inst g ≤ s.arbRank die inst r) ∧
         (∀ r ∈ pend, s.arbRank die inst r = s.arbRank die inst g → r ∈ a.begun → g ∈ a.begun)))) ∧
  (∀ (s : State) (die inst : Nat), s.Rest → isDie die = true → inst < 4096 → s.clocked die (arbDomain die inst) = true →
     (∀ (ty g : Nat) (arrivals : List (Nat × Nat)), arbType die inst = some ty →
       (Instr.arbGrant die inst arrivals).wf = true →
       let a := s.arbArrive die inst arrivals
       s.arbChoose die inst a = some g →
       ∃ t, Machine.exec (.arbGrant die inst arrivals) s = .next t ∧ t = { s with csr := t.csr, arbs := t.arbs } ∧
         (t.arb die inst).left g = a.left g - 1 ∧ (∀ r, r ≠ g → (t.arb die inst).left r = a.left r) ∧
         (s.arbClass die inst g ≠ 0 → t.get R.ARB_STATUS_BURST_OWNER die inst = if a.burst g = 1 then 0x3F else g) ∧
         (arbHasFreeze ty = false →
           t.get R.ARB_GRANTS_COUNT die inst g = (s.get R.ARB_GRANTS_COUNT die inst g + 1) % 2 ^ R.ARB_GRANTS_COUNT.width ∧
           ∀ r ∈ s.arbPending die inst a, r ≠ g →
             t.get R.ARB_WAIT_COUNT die inst r = (s.get R.ARB_WAIT_COUNT die inst r + 1) % 2 ^ R.ARB_WAIT_COUNT.width)) ∧
     (∀ ty, arbType die inst = some ty →
       ((∃ r ∈ s.arbPending die inst (s.arb die inst), s.arbClass die inst r = 2) →
         ∃ t, Machine.exec (.arbAged die inst 2) s = .next t ∧ t.flag R.ARB_STATUS_AGED_2 die inst = true ∧
           s.AgreeBut { t with arbs := s.arbs } [R.ARB_STATUS.addr die inst 0]) ∧
       ((∃ r ∈ s.arbPending die inst (s.arb die inst), s.arbClass die inst r = 3) →
         ∃ t, Machine.exec (.arbAged die inst 3) s = .next t ∧ t.flag R.ARB_STATUS_AGED_3 die inst = true ∧
           s.AgreeBut { t with arbs := s.arbs } [R.ARB_STATUS.addr die inst 0])) ∧
     (∀ ty v, arbType die inst = some ty → v < 2 ^ 64 →
       Machine.exec (.arbFreeze die inst v) s = .next
         (if arbHasFreeze ty then s.put R.ARB_FREEZE_FREEZE (v % 2) die inst else s)))

/-! ### Ingest (R178 to R208) -/

/-- RESERVOIR_PACKET and RESERVOIR_CHUNK_COMPLETE (R185, R187): the first packet of a SEND takes a reservation where there is
room, its bytes join it, and the packet is acknowledged; without room it is counted and not answered. A message that
has landed whole becomes a complete chunk, in its order, and counts it. -/
def Obligations.ReservoirTakesChunks : Prop :=
  ∀ (s : State), s.Rest → s.clocked 0 4 = true →
    (∀ (p : RdmaPkt) (c : Carve) (w : Nat × Nat), p.wf = true → s.flag R.ETH_STATUS_LINK_UP 0 = true → p.qp < 4096 →
      s.qpState p.qp = qpReady → (s.qp p.qp).kind = 1 → (s.qp p.qp).owner = 0 → p.ce = false → (s.qp p.qp).place p.psn = 0 →
      p.op = 0 → p.first = true → (s.qp p.qp).inMsg = false → s.inReset 0 = false → s.resvCarve 0 = some c → s.water 0 = some w →
      s.linkedTo 0 [0, c.base] = true → (s.reservoir 0).ring.all (fun k => k.qp != p.qp || k.landed) = true →
      (∀ a, resvNext (s.reservoir 0) c.size = some a → p.data.length ≤ resvMost →
        ∃ t, Machine.exec (.reservoirPacket p) s = .next t ∧
          (t.reservoir 0).ring.map (fun k => (k.start, k.bytes, k.qp)) =
            (s.reservoir 0).ring.map (fun k => (k.start, if k.start = a then p.data.length else k.bytes, k.qp)) ++ [(a, p.data.length, p.qp)] ∧
          ((t.reservoir 0).ring.getLast?.map (·.landed)) = some p.last ∧
          (t.reservoir 0).pos = (a + resvSpan) % c.size ∧ (t.qp p.qp).rq = ((s.qp p.qp).rq + 1) % 2 ^ 24 ∧
          t.out.getLast? = some (.eth 5 [p.qp, p.psn] [])) ∧
      (resvNext (s.reservoir 0) c.size = none →
        ∃ t, Machine.exec (.reservoirPacket p) s = .next t ∧ t = { s with csr := t.csr } ∧
          t.get R.DEMUX_RES_OVERFLOW_COUNT 0 = (s.get R.DEMUX_RES_OVERFLOW_COUNT 0 + 1) % 2 ^ 48)) ∧
    (∀ (q : Nat) (k : RChunk), q < 2 ^ 24 → (s.qp q).kind = 1 → s.region (0x10 + (s.qp q).hub) ≠ 0 →
      (s.qp q).hub < 2 → (s.reservoir (s.qp q).hub).ring.find? (fun k => k.qp == q && k.landed && !k.complete) = some k →
      ∃ t, Machine.exec (.reservoirChunkComplete q) s = .next t ∧
        t.reservoir (s.qp q).hub = { s.reservoir (s.qp q).hub with
          order := (s.reservoir (s.qp q).hub).order + 1
          ring := (s.reservoir (s.qp q).hub).ring.map (fun x =>
            if x.start = k.start then { x with complete := true, order := (s.reservoir (s.qp q).hub).order } else x) } ∧
        t.get R.DEMUX_RES_CHUNKS_COUNT (s.qp q).hub = (s.get R.DEMUX_RES_CHUNKS_COUNT (s.qp q).hub + 1) % 2 ^ 48 ∧ t.mem = s.mem)

/-- STAGE_ROOM_RESUME (R179, R180, R206): a stage that holds a unit back emits it once its queue has a place and its body a
room: the body is written, the entry joins the queue, OUT counts it; without room it is held as before; where no edge
leaves its port it is dropped and counted.
DEMUX_CHUNK (R188, R189, R208): the oldest complete chunk bound to the node is read, counted in IN and released; one that
continues an item that is not open is dropped, with error code 8. With no such chunk nothing is taken. -/
def Obligations.ChunksAreWorkedThrough : Prop :=
  (∀ (s : State) (hub block inst : Nat) (c : NodeCfg) (m : Emis), s.Rest → hub < 2 → block < 256 → inst < 256 →
     (if block = 0xFE then s.clocked hub 0 else s.engineOn hub block inst) = true → s.nodeOf hub block inst = some c →
     s.ingestOn hub = true → (s.inode hub c.node).held = [m] → (s.inode hub c.node).chunk = none → (s.inode hub c.node).unit = none → 0x30 ≤ block → block ≤ 0x36 →
     ((s.edges hub).find? (fun g => g.src == c.node && g.sport == m.port) = none →
       ∃ t, Machine.exec (.stageRoomResume hub block inst) s = .next t ∧ (t.inode hub c.node).held = [] ∧ t.mem = s.mem ∧
         t.stageQ = s.stageQ ∧ t.get (engCount block 2) hub inst = (s.get (engCount block 2) hub inst + 1) % 2 ^ 48) ∧
     (∀ g, (s.edges hub).find? (fun g => g.src == c.node && g.sport == m.port) = some g →
       (g.depth ≤ (s.inq hub g.dst g.dport).length ∨ s.room hub c m.body.length = none →
         ∃ t, Machine.exec (.stageRoomResume hub block inst) s = .next t ∧ (t.inode hub c.node).held = [m] ∧ t.mem = s.mem ∧
           t.stageQ = s.stageQ ∧ t.csr = s.csr) ∧
       (∀ a blocks, (s.inq hub g.dst g.dport).length < g.depth → s.room hub c m.body.length = some (a, blocks) → m.fogLen = 0 →
         s.judge (s.engWho hub c) a m.body.length = 0 → s.accumCarve a m.body.length = none → s.mem.bad = [] →
         ∃ t, Machine.exec (.stageRoomResume hub block inst) s = .next t ∧ (t.inode hub c.node).held = [] ∧
           t.inq hub g.dst g.dport = s.inq hub g.dst g.dport ++ [{ m.e with body := a, bytes := m.body.length }] ∧
           t.mem.read a m.body.length = m.body ∧ (∀ b, b < a ∨ a + m.body.length ≤ b → t.mem.byte b = s.mem.byte b) ∧
           t.get (engCount block 1) hub inst = (s.get (engCount block 1) hub inst + 1) % 2 ^ 48))) ∧
  (∀ (s : State) (hub inst : Nat) (c : NodeCfg) (v : Carve), s.Rest → hub < 2 → inst < 16 → s.engineOn hub 0x30 inst = true →
     let s0 := s.dropUnbound hub
     s0.nodeOf hub 0x30 inst = some c → s0.resvCarve hub = some v → s0.mayWork hub c = true → s0.region (0x10 + hub) = 0 →
     s0.linkedTo hub [v.base] = true →
     let mine := s0.demuxMine hub c
     (mine = [] → Machine.exec (.demuxChunk hub inst) s = .next (s.after s0)) ∧
     (∀ k b, oldest mine = some k →
       (s0.load { die := hub, part := some (s0.partOfEngine hub 0x30 inst), resv := true } (v.base + k.start) k.bytes).2 = .ok b →
       ∃ t, Machine.exec (.demuxChunk hub inst) s = .next t ∧ t.reservoir hub = (s0.reservoir hub).release k.start ∧
         t.get R.DEMUX_IN_COUNT hub inst = (s0.get R.DEMUX_IN_COUNT hub inst + 1) % 2 ^ 48 ∧
         (let (source, fl, item, _, _) := chunkHead b
          bit fl 0 = false → (s0.inode hub c.node).item item source = none →
          t.get R.DEMUX_ERROR_LAST_CODE hub inst = 8 ∧ t.get R.DEMUX_ERROR_ITEM_ERR hub inst = 1 ∧
          t.get R.DEMUX_DROPPED_COUNT hub inst = (s0.get R.DEMUX_DROPPED_COUNT hub inst + 1) % 2 ^ 48)))

/-- VDEC_UNIT (R191, R192, R208): a decoder that takes the entry at the front of its input counts it; a unit outside R192 ends its
item with error code 5; the first picture of a new item is held back as its frame, with FIRST, INDEX 0 and its own time.
ADEC_AUDIO_BLOCK and ADEC_CAPTION (R198, R199, R206): an audio node emits, or holds, the blocks that its unit completes (one for
each decoded frame, at its time, where BLOCK_SAMPLES is 0), and a caption node the record that it selects from the entry of the
port whose turn it is; the item stays open until its last entry. -/
def Obligations.MediaUnitsAreDecoded : Prop :=
  (∀ (s : State) (hub inst : Nat) (u : VUnit) (c : NodeCfg) (s1 : State) (e : SEntry) (b : List Byte), s.Rest → hub < 2 → inst < 16 →
     u.wf = true → s.engineOn hub 0x31 inst = true → s.nodeOf hub 0x31 inst = some c → s.mayWork hub c = true →
     s.take hub c 0 = (s1, some (e, some b)) →
     (s.inode hub c.node).items = [] → (s.inode hub c.node).ended = [] → bit e.flags flagLast = false →
     (unitOk (c.par 0x10 2) (fieldAt b 0x11 1) u = false →
       ∃ t i, Machine.exec (.vdecUnit hub inst u) s = .next t ∧ t.get R.VDEC_ERROR_LAST_CODE hub inst = 5 ∧
         t.get R.VDEC_ERROR_STREAM_ERR hub inst = 1 ∧ t.get R.VDEC_IN_COUNT hub inst = (s.get R.VDEC_IN_COUNT hub inst + 1) % 2 ^ 48 ∧
         (t.inode hub c.node).item e.item e.source = some i ∧ i.dead = true) ∧
     (∀ f, unitOk (c.par 0x10 2) (fieldAt b 0x11 1) u = true → u.error = 0 → u.frames = [f] → u.userData = [] →
       bit (c.par 0x12 1) 0 = false →
       ∃ t i m, Machine.exec (.vdecUnit hub inst u) s = .next t ∧ t.get R.VDEC_IN_COUNT hub inst = (s.get R.VDEC_IN_COUNT hub inst + 1) % 2 ^ 48 ∧
         (t.inode hub c.node).item e.item e.source = some i ∧ i.last = [m] ∧ m.e.item = e.item ∧ m.e.source = e.source ∧
         m.e.index = 0 ∧ m.e.kind = 2 ∧ m.e.pts = f.pts ∧ bit m.e.flags flagFirst = true ∧ m.body.drop 64 = frameData f)) ∧
  (∀ (s : State) (hub inst : Nat) (c : NodeCfg) (s1 : State) (e : SEntry) (b : List Byte), s.Rest → hub < 2 → inst < 16 →
     s.engineOn hub 0x32 inst = true → s.nodeOf hub 0x32 inst = some c → s.mayWork hub c = true → bit e.flags flagLast = false →
     let n := s1.inode hub c.node
     let i := n.open e.item e.source
     (∀ l : List ABlock, l.all ABlock.wf = true → c.par 0x10 1 = 0 → s.take hub c 0 = (s1, some (e, some b)) →
       8 ≤ fieldAt b 0x11 1 → fieldAt b 0x11 1 ≤ 0xB →
       let r := audioUnit c i (fieldAt b 0x11 1) (e.flags % 64 / 32 * 32) false l
       Machine.exec (.adecAudioBlock hub inst 0 l) s = .next ((s1.putNode hub c.node (n.putItem r.1)).flush hub c r.2) ∧
       (∀ m ∈ r.2, m.e.kind = 5 ∧ m.e.item = e.item ∧ m.e.source = e.source) ∧
       (c.par 0x14 2 = 0 → r.2.map (·.e.pts) = l.map (·.pts))) ∧
     (∀ x p, x.wf = true → c.par 0x10 1 = 1 → s.nextPort hub c = some p → s.take hub c p = (s1, some (e, some b)) →
       capWanted c e.kind (fieldAt b 64 1) x = true →
       let r := capEmis i 0 x
       ∀ u, (s1.putNode hub c.node (n.putItem r.1)).emit hub c r.2 = some u →
         Machine.exec (.adecCaption hub inst 0 [x]) s = .next (u.putNode hub c.node { u.inode hub c.node with held := [] }) ∧
         r.2.e.kind = 6 ∧ r.2.e.pts = x.pts ∧ r.2.e.index = i.nextIndex 0))

/-- XFORM_FRAME and TOKEN_TILE (R200, R201): a transform that keeps the frame it takes (its stride, not redundant, whole) holds what
it makes of it back until the item's next is known, the input's own body with ERROR where its geometry is out of range; a
tokeniser emits its oldest final tile.
DELIVERY_ENTRY and DELIVERY_CONSUMED_POLL (R204, R205): a delivery node that has a free slot writes the entry it takes into the
next one, header first, with the body 64 bytes on, then counts it in PRODUCED, in memory and in its register; a full ring reads
CONSUMED, and a value out of range sets FAULT, after which the node takes no more. -/
def Obligations.FramesTilesAndDeliveries : Prop :=
  (∀ (s : State) (hub inst : Nat) (c : NodeCfg), s.Rest → hub < 2 → inst < 16 → s.mayWork hub c = true →
     (∀ (s1 : State) (e : SEntry) (b : List Byte), s.engineOn hub 0x33 inst = true → s.nodeOf hub 0x33 inst = some c →
       s.take hub c 0 = (s1, some (e, some b)) → bit e.flags flagLast = false → bit e.flags flagRedundant = false →
       (s.inode hub c.node).items = [] → bits (fieldAt b 0x18 1) 2 2 ≠ 3 → bobFrames c b = 1 →
       ∃ t i m, Machine.exec (.xformFrame hub inst) s = .next t ∧ (t.inode hub c.node).item e.item e.source = some i ∧ i.count = 1 ∧
         i.last = [m] ∧ m.e.index = e.index ∧ m.e.kind = 2 ∧ bit m.e.flags flagFirst = true ∧
         (xformOk c b = false → m.body = b ∧ bit m.e.flags flagError = true) ∧ t.stageQ = s1.stageQ ∧
         t.get R.XFORM_IN_COUNT hub inst = (s.get R.XFORM_IN_COUNT hub inst + 1) % 2 ^ 48) ∧
     (∀ m m2 rest u, s.engineOn hub 0x34 inst = true → s.nodeOf hub 0x34 inst = some c →
       (s.inode hub c.node).ready = m :: m2 :: rest →
       (s.putNode hub c.node { s.inode hub c.node with ready := m2 :: rest }).emit hub c m = some u →
       Machine.exec (.tokenTile hub inst) s = .next (u.putNode hub c.node { u.inode hub c.node with held := [] }))) ∧
  (∀ (s : State) (hub inst : Nat) (c : NodeCfg), s.Rest → hub < 2 → inst < 256 → s.clocked hub 0 = true →
     s.nodeOf hub 0xFE inst = some c → s.ingestOn hub = true → (s.inode hub c.node).stuck = false →
     let n := s.inode hub c.node
     let w := s.engWho hub c
     let produced := c.par 0x10 8 % 2 ^ 48
     (∀ p s1 e b s2, n.n - n.cons ≠ c.par 0xC 4 → s.nextPort hub c = some p → s.take hub c p = (s1, some (e, some b)) →
       s.linkedTo hub [c.par 0 8 % 2 ^ 48, produced] = true →
       64 + b.length ≤ c.par 8 4 → bit (c.par 0x20 8) 0 = false → n.n + 1 < 2 ^ 32 →
       let slot := c.par 0 8 % 2 ^ 48 + n.n % c.par 0xC 4 * c.par 8 4
       s1.store w slot (entryBytes { e with body := slot + 64 } ++ List.replicate 32 0 ++ b) = (s2, 0) →
       ∃ t, Machine.exec (.deliveryEntry hub inst) s = .next t ∧ t.get R.DEMUX_DELIV_PRODUCED hub 0 inst = n.n + 1 ∧
         (t.inode hub c.node).n = n.n + 1 ∧ t.mem = ((s2.putNode hub c.node { s1.inode hub c.node with n := n.n + 1 }).store w produced (leBytes 8 (n.n + 1))).1.mem ∧
         (s1.accumCarve slot (64 + b.length) = none → s2.mem.read slot (64 + b.length) =
           entryBytes { e with body := slot + 64 } ++ List.replicate 32 0 ++ b)) ∧
     (∀ bs, n.n - n.cons = c.par 0xC 4 → s.linkedTo hub [c.par 0x18 8 % 2 ^ 48] = true → (s.load w (c.par 0x18 8 % 2 ^ 48) 8).2 = .ok bs →
       (n.cons ≤ leVal bs → leVal bs ≤ n.n →
         ∃ t, Machine.exec (.deliveryConsumedPoll hub inst) s = .next t ∧ (t.inode hub c.node).cons = leVal bs ∧
           (t.inode hub c.node).stuck = false ∧ t.mem = s.mem ∧
           t.get R.DEMUX_DELIV_FULL hub 0 inst = if n.n - leVal bs = c.par 0xC 4 then 1 else 0) ∧
       (leVal bs < n.cons ∨ n.n < leVal bs →
         ∃ t, Machine.exec (.deliveryConsumedPoll hub inst) s = .next t ∧ (t.inode hub c.node).stuck = true ∧ t.mem = s.mem ∧
           t.get R.DEMUX_DELIV_FAULT hub 0 inst = 1)))

/-! ### Shuffle and set engines (R211 to R224) -/

/-- R212: perm takes the positions below N to positions below N, no two to the same one, whatever the seed and the epoch. -/
def Obligations.PermIsAPermutation : Prop :=
  ∀ n seed epoch : Nat, (∀ p, p < n → perm p n seed epoch < n) ∧
    ∀ p q, p < n → q < n → perm p n seed epoch = perm q n seed epoch → p = q

/-- PERM_GEN_BLOCK (R214): the generator's next block holds the records of the epoch's positions that follow, at most BLOCK of them;
while there is no room for it nothing changes; else it leaves on port 1 and, with positions left, the place in the epoch moves
on past them, or the next epoch begins at its first position, or the generator stops when its epochs are done.
PERM_HOST_GO and PERM_HOST_DONE (R211, R215): GO while BUSY, without the claim or outside RUNNING is refused with its status;
else the request is BUSY. At its end a well-placed DEST holds the records of its positions and nothing else of memory has
changed; one out of place ends with status 5 and writes nothing. -/
def Obligations.TheGeneratorAndHostRequestsRun : Prop :=
  (∀ (s : State) (hub : Nat) (c : NodeCfg), s.Rest → hub < 2 → s.engineOn hub 0x35 0 = true → s.nodeOf hub 0x35 0 = some c →
     s.mayWork hub c = true → s.region (0x10 + hub) = 0 → s.claim 2 hub = 1 → (s.inode hub c.node).genStop = false →
     let n := s.inode hub c.node
     let e := (c.par 0x20 4 + n.epochs) % 2 ^ 32
     let first := c.par 0x28 8 % 2 ^ 40 + c.par 0x24 4
     let stride := max (c.par 0x38 4) 1
     let count := c.par 0x30 8 % 2 ^ 40
     let num := c.par 0x18 8 % 2 ^ 41
     let recs := genRun num (c.par 0x10 8) e first stride count (c.par 0x3C 2) n.j
     recs.length ≤ c.par 0x3C 2 ∧
     (∀ i, i < recs.length → recs[i]? = some (perm (first + (n.j + i) * stride) num (c.par 0x10 8) e,
       (first + (n.j + i) * stride) % 2 ^ 40 + e % 2 ^ 24 * 2 ^ 40)) ∧
     (∀ m, (genNext c n).1 = some m → m.port = 1 ∧ m.e.item = e ∧ m.e.index = n.blk ∧ m.body.drop 64 = recs.flatMap recBytes ∧
       (s.emit hub c m = none → Machine.exec (.permGenBlock hub) s = .next s)) ∧
     ∀ u, (match (genNext c n).1 with | some m => s.emit hub c m | none => some s) = some u →
     ∃ t, Machine.exec (.permGenBlock hub) s = .next t ∧ t.mem = u.mem ∧ t.stageQ = u.stageQ ∧
       ((genRecord num (c.par 0x10 8) e first stride count (n.j + recs.length)).isSome = true →
         (t.inode hub c.node).j = n.j + recs.length ∧ (t.inode hub c.node).blk = n.blk + 1 ∧ (t.inode hub c.node).epochs = n.epochs ∧
         t.get R.PERM_GEN_EPOCH hub = e) ∧
       ((genRecord num (c.par 0x10 8) e first stride count (n.j + recs.length)).isSome = false →
         (t.inode hub c.node).j = 0 ∧ (t.inode hub c.node).blk = 0 ∧ (t.inode hub c.node).epochs = n.epochs + 1 ∧
         (t.inode hub c.node).genStop = (c.par 0x3E 2 != 0 && decide (c.par 0x3E 2 ≤ n.epochs + 1)))) ∧
  (∀ (s : State) (hub : Nat), s.Rest → hub < 2 →
     (s.aon.powered = true → s.isHeld hub = false →
       (s.flag R.PERM_HOST_CTRL_BUSY hub = true → Machine.exec (.permHostGo hub) s = .next (s.put R.PERM_HOST_CTRL_REFUSED 1 hub)) ∧
       (s.flag R.PERM_HOST_CTRL_BUSY hub = false → s.claim 2 hub ≠ 3 → Machine.exec (.permHostGo hub) s = .next
         (((s.put R.PERM_HOST_CTRL_REFUSED 1 hub).put R.PERM_HOST_CTRL_STATUS 0x1D hub).put R.PERM_HOST_CTRL_WRITTEN 0 hub)) ∧
       (s.flag R.PERM_HOST_CTRL_BUSY hub = false → s.claim 2 hub = 3 → s.region (0x10 + hub) ≠ 0 → Machine.exec (.permHostGo hub) s = .next
         (((s.put R.PERM_HOST_CTRL_REFUSED 1 hub).put R.PERM_HOST_CTRL_STATUS 0x1E hub).put R.PERM_HOST_CTRL_WRITTEN 0 hub)) ∧
       (s.flag R.PERM_HOST_CTRL_BUSY hub = false → s.claim 2 hub = 3 → s.region (0x10 + hub) = 0 → Machine.exec (.permHostGo hub) s = .next
         (((s.put R.PERM_HOST_CTRL_BUSY 1 hub).put R.PERM_HOST_CTRL_STATUS 0 hub).put R.PERM_HOST_CTRL_WRITTEN 0 hub))) ∧
     (s.engineOn hub 0x35 0 = true → s.flag R.PERM_HOST_CTRL_BUSY hub = true →
       let recs := s.permHostRecs hub
       let dest := s.get R.PERM_HOST_DEST_DEST hub
       (s.permDest hub recs.length ≠ 0 → ∃ t, Machine.exec (.permHostDone hub) s = .next t ∧
         s.AgreeBut t [R.PERM_HOST_CTRL.addr hub 0 0] ∧ t.get R.PERM_HOST_CTRL_BUSY hub = 0 ∧ t.get R.PERM_HOST_CTRL_DONE hub = 1 ∧
         t.get R.PERM_HOST_CTRL_STATUS hub = 5 ∧ t.get R.PERM_HOST_CTRL_WRITTEN hub = 0) ∧
       (s.permDest hub recs.length = 0 → recs ≠ [] → s.linkedTo hub [dest] = true → s.cutAt hub none dest (16 * recs.length) = false → s.accumCarve dest (16 * recs.length) = none → s.mem.bad = [] →
         ∃ t, Machine.exec (.permHostDone hub) s = .next t ∧ t.get R.PERM_HOST_CTRL_BUSY hub = 0 ∧ t.get R.PERM_HOST_CTRL_DONE hub = 1 ∧
           t.get R.PERM_HOST_CTRL_STATUS hub = 0 ∧ t.get R.PERM_HOST_CTRL_WRITTEN hub = recs.length % 2 ^ 32 ∧
           t.mem.read dest (16 * recs.length) = recs.flatMap recBytes ∧
           ∀ a, a < dest ∨ dest + 16 * recs.length ≤ a → t.mem.byte a = s.mem.byte a)))

/-- SHUFFLE_ENTRY and SHUFFLE_FLUSH (R216): an entry joins a buffer that has room, at its end; a full buffer first emits the entry
of the slot drawn, and the arriving one takes that slot; with the input empty, or the region STOPPING, a flush emits what is
held. -/
def Obligations.TheShuffleHoldsAndEmits : Prop :=
  ∀ (s : State) (hub : Nat) (c : NodeCfg), s.Rest → hub < 2 → s.engineOn hub 0x35 0 = true → s.nodeOf hub 0x35 0 = some c →
    s.mayWork hub c = true → s.claim 2 hub = 1 →
    let n := s.inode hub c.node
    (∀ e rest a blocks s1 b, s.inq hub c.node 0 = e :: rest → n.buf.length < c.par 0x40 2 →
      s.room hub c e.bytes = some (a, blocks) → s.take hub c 0 = (s1, some (e, some b)) → n.slot = none → n.owes = [] →
      (s1.store (s1.engWho hub c) a b).2 = 0 →
      ∃ t, Machine.exec (.shuffleEntry hub) s = .next t ∧ (t.inode hub c.node).buf = n.buf ++ [{ e with body := a, bytes := b.length }] ∧
        (t.inode hub c.node).emitted = n.emitted ∧ t.get R.PERM_IN_COUNT hub = (s.get R.PERM_IN_COUNT hub + 1) % 2 ^ 48) ∧
    (∀ e rest a blocks s1 s2 b, s.inq hub c.node 0 = e :: rest → 0 < c.par 0x40 2 → c.par 0x40 2 ≤ n.buf.length →
      s.shuffleOut hub c = (s1, true) → s1.inq hub c.node 0 = e :: rest → s1.room hub c e.bytes = some (a, blocks) →
      s1.take hub c 0 = (s2, some (e, some b)) → n.slot = none → n.owes = [] → (s2.store (s2.engWho hub c) a b).2 = 0 →
      let slot := shuffleSlot (c.par 0x10 8) n.emitted n.buf.length
      ∃ t x, Machine.exec (.shuffleEntry hub) s = .next t ∧ (t.inode hub c.node).buf = n.buf.set slot { e with body := a, bytes := b.length } ∧
        (t.inode hub c.node).emitted = n.emitted + 1 ∧ n.buf[slot]? = some x ∧
        ∀ g, (s.edges hub).find? (fun g => g.src == c.node && g.sport == 0) = some g → g.dst ≠ c.node →
          t.inq hub g.dst g.dport = s.inq hub g.dst g.dport ++ [x] ∧
          t.get R.PERM_OUT_COUNT hub = (s.get R.PERM_OUT_COUNT hub + 1) % 2 ^ 48) ∧
    (s.inq hub c.node 0 ≠ [] → s.region (0x10 + hub) ≠ 1 → Machine.exec (.shuffleFlush hub) s = .next s) ∧
    (∀ g, s.inq hub c.node 0 = [] ∨ s.region (0x10 + hub) = 1 →
      (s.edges hub).find? (fun g => g.src == c.node && g.sport == 0) = some g →
      (s.inq hub g.dst g.dport).length + n.buf.length ≤ g.depth →
      ∃ t l, Machine.exec (.shuffleFlush hub) s = .next t ∧ (t.inode hub c.node).buf = [] ∧ l.Perm n.buf ∧
        t.inq hub g.dst g.dport = s.inq hub g.dst g.dport ++ l ∧ t.mem = s.mem ∧
        t.get R.PERM_OUT_COUNT hub = (s.get R.PERM_OUT_COUNT hub + n.buf.length) % 2 ^ 48)

/-- R218: what the set operations give: SORT the same records in rising masked order; a sorted input's DEDUP the first of each run
of equals, its SEGMENTS the runs with where they start and how long they are; MERGE of two sorted inputs all their records in
order; an unsorted input ends with ORDER. -/
def Obligations.SetOperationsOrderAndGroup : Prop :=
  ∀ (mode pad mask : Nat) (a b : List (Nat × Nat)),
    ((setOp 1 mode pad mask false a b).recs.Perm a ∧ isSorted mask (setOp 1 mode pad mask false a b).recs = true ∧
      (setOp 1 mode pad mask false a b).status = 0) ∧
    (isSorted mask a = true →
      (setOp 3 mode pad mask false a b).status = 0 ∧ (setOp 3 mode pad mask false a b).recs.Sublist a ∧
      isSorted mask (setOp 3 mode pad mask false a b).recs = true ∧
      ((setOp 3 mode pad mask false a b).recs.map (mkey mask)).Nodup ∧
      (∀ x ∈ a, ∃ y ∈ (setOp 3 mode pad mask false a b).recs, mkey mask y = mkey mask x) ∧
      ((setOp 5 mode pad mask false a b).segs.map (fun g => g.2.2)).sum = a.length ∧
      (setOp 5 mode pad mask false a b).segs.length = (setOp 3 mode pad mask false a b).recs.length) ∧
    (isSorted mask a = true → isSorted mask b = true →
      (setOp 2 mode pad mask false a b).status = 0 ∧ (setOp 2 mode pad mask false a b).recs.Perm (a ++ b) ∧
      isSorted mask (setOp 2 mode pad mask false a b).recs = true) ∧
    (isSorted mask a = false → ∀ op ∈ [2, 3, 4, 5], (setOp op mode pad mask false a b).status = 0xC)

/-- SETE_BLOCK (R220, R221): a set node takes its next input block and emits the block that its operation makes of it (SORT and DEDUP
records, SEGMENTS a table); a JOIN node whose table is unsorted drops and counts it.
SET_DESC_TAKE and SET_DESC_COMPLETE (R222 to R224): a descriptor that passes its checks is in hand; a SORT without a record whose
arrays may be reached, are sound and lie apart leaves its records in order at OUT and no other byte changed. -/
def Obligations.SetWorkRuns : Prop :=
  (∀ (s : State) (hub inst : Nat) (c : NodeCfg) (s1 : State) (e : SEntry) (b : List Byte), s.Rest → hub < 2 → inst < 4 →
     s.engineOn hub 0x36 inst = true → s.nodeOf hub 0x36 inst = some c → s.mayWork hub c = true →
     (inst = 3 → s.claim 1 hub = 1) → s.take hub c 0 = (s1, some (e, some b)) →
     (∀ m u, c.par 0x10 1 ∈ [1, 3, 5] →
       (setOp (c.par 0x10 1) (c.par 0x11 1 % 4) (c.par 0x12 2) (c.par 0x18 8) (bit (c.par 0x11 1) 2) (blockRecs b) []).status = 0 →
       blockOut (c.par 0x10 1) e (setOp (c.par 0x10 1) (c.par 0x11 1 % 4) (c.par 0x12 2) (c.par 0x18 8) (bit (c.par 0x11 1) 2) (blockRecs b) []) = [m] →
       (s1.inode hub c.node).owes = [] → s1.emit hub c m = some u →
       Machine.exec (.seteBlock hub inst) s = .next (u.putNode hub c.node { u.inode hub c.node with held := [] })) ∧
     (c.par 0x10 1 = 4 → s.linkedTo hub [c.par 0x20 8 % 2 ^ 48] = true → (s1.inode hub c.node).badTable = true →
       Machine.exec (.seteBlock hub inst) s = .next (s1.put R.SETE_DROPPED_COUNT (s1.get R.SETE_DROPPED_COUNT hub inst + 1) hub inst))) ∧
  (∀ (s : State) (hub : Nat), s.Rest → hub < 2 → s.engineOn hub 0x36 3 = true →
     (∀ c bytes, s.region (0x10 + hub) = 0 → s.claim 1 hub ≠ 1 → (s.mover hub 3).hand = none →
       roundRobin 64 (s.mover hub 3).rr (fun c => s.ctxOpen c && s.qReady seteQ hub 3 c 0) = some c →
       let w : Who := { die := hub, part := s.ctxPart c }
       let l := s.load w (s.qSlot seteQ hub 3 c) 64
       s.linkedTo hub [s.qSlot seteQ hub 3 c] = true → l.2 = .ok bytes →
       let raw := leVal bytes
       let s1 := ((l.1.qAdvance seteQ hub 3 c).ctxHold c).putMover hub 3 { s.mover hub 3 with rr := c }
       let d : QDesc := { ctx := c, gen := s.ctxGen c, raw := raw, waiting := false,
                          nosig := sSignal raw && !(isComp (sSigDie raw) && s1.tokenOk (sSigDie raw) (sSigCore raw) w.part) }
       (sOp raw ≤ 6 → s1.setFlagsBad hub raw = false → s1.setAddrCheck w ((setSpans raw 0).1 ++ (setSpans raw 0).2) = (0, none) →
         Machine.exec (.setDescTake hub) s = .next (s1.putMover hub 3 { s.mover hub 3 with rr := c, hand := some d })) ∧
       (6 < sOp raw → ∃ t, Machine.exec (.setDescTake hub) s = .next t ∧ t.flag R.SETE_QCFG_STOPPED hub 3 c = true ∧
         t.get R.SETE_DESC_ERROR_STATUS hub 3 = 1 ∧ t.flag R.SETE_ERROR_DESC_FAIL hub 3 = true)) ∧
     (∀ d cycles, (s.mover hub 3).hand = some d → cycles < 2 ^ 64 → sOp d.raw = 1 → sComplete d.raw = false → sTmp d.raw = 0 →
       let raw := d.raw
       let n := sAN raw
       let w : Who := { die := hub, part := s.ctxPart d.ctx }
       n ≠ 0 → s.linkedTo hub [sA raw, sOut raw] = true → (∀ a ∈ [sA raw, sOut raw], s.cutAt hub none a (16 * n) = false) → s.judge w (sA raw) (16 * n) = 0 → s.judge w (sOut raw) (16 * n) = 0 → s.accumCarve (sOut raw) (16 * n) = none →
       s.mem.bad = [] → (sA raw + 16 * n ≤ sOut raw ∨ sOut raw + 16 * n ≤ sA raw) →
       ∃ t, Machine.exec (.setDescComplete hub cycles) s = .next t ∧ (t.mover hub 3).hand = none ∧
         t.mem.read (sOut raw) (16 * n) =
           ((setOp 1 (sMode raw) (sPad raw) (sMask raw) (sSwap raw) (recsOfBytes n (s.mem.read (sA raw) (16 * n))) []).recs).flatMap recBytes ∧
         ∀ a, a < sOut raw ∨ sOut raw + 16 * n ≤ a → t.mem.byte a = s.mem.byte a))

/-! ### The training step (R226 to R243, R273 to R291) -/

/-- STEP_BEGIN, STEP_ADVANCE, DISCARD_ACCUM, DISCARD_ACCUM_DONE and STEP_ABORT (R121, R125, R226 to R229, R238): in the phase that
takes it a command moves the sequence on; in any other it is refused with BAD_PHASE and CMD_REFUSED; while a DISCARD_ACCUM is
carried out it waits, and is carried out, in order of arrival, once that is done. BEGIN copies the format
table and latches the loss scale; the ADVANCE of the last BACKWARD enters AWAIT_VERDICT with every engine latched; a discard
once nothing is in hand leaves every tile +0; ABORT ends HALT in IDLE with no carry kept.
CLOSING_REDUCTION_ISSUE, VERDICT and VERDICT_TIMEOUT (R231 to R237): with every report in and no reduction outstanding the
closing reduction takes the channel's head with this member's loss, weight and local check; its result is written at
LOSS_ADDR and gives the verdict: true, every update engine applies; false, the step is skipped, in IDLE with
DISCARD_PENDING; a true verdict after the reset of a die of the partition ends in HALT with COMMIT_FAULT (log 92). A result that does not come ends in HALT. -/
def Obligations.StepsFollowTheirPhasesToAVerdict : Prop :=
  (∀ (s : State) (p : Nat), s.Rest → s.clocked 0 5 = true → s.partExists p = true → (s.stepSt p).discarding = true →
     ∀ x ∈ [(1, Instr.stepBegin p), (2, .stepAdvance p), (3, .discardAccum p), (4, .stepAbort p)],
       Machine.exec x.2 s = .next (s.putStep p { s.stepSt p with cmds := (s.stepSt p).cmds ++ [x.1] })) ∧
  (∀ (s : State) (p : Nat), s.Rest → s.clocked 0 5 = true → s.partExists p = true →
     let units := (s.partDies p).flatMap (fun d => (s.unitLeads d).map (fun m => (d, m)))
     ((s.stepSt p).discarding = false ∨ (∃ u ∈ units, (s.unit u.1 u.2).inHand ≠ []) →
       Machine.exec (.discardAccumDone p) s = .next s) ∧
     ((s.stepSt p).discarding = true → (∀ u ∈ units, (s.unit u.1 u.2).inHand = []) →
       ∃ t, Machine.exec (.discardAccumDone p) s = .next ((s.stepSt p).cmds.foldl (fun t x => t.stepCmd p x) t) ∧
         (t.stepSt p).discarding = false ∧ (t.stepSt p).cmds = [] ∧ t.phase p = s.phase p ∧
         t.flag R.STEP_STATE_DISCARD_PENDING 0 0 p = false ∧ t.mem = s.mem ∧
         ∀ u ∈ units, ∀ m ∈ s.members u.1 u.2, ∀ k, k < 2 → t.tile u.1 m.1 k = {})) ∧
  (∀ (s : State) (p : Nat), s.Rest → s.clocked 0 5 = true → s.partExists p = true → (s.stepSt p).discarding = false →
     let refused := (s.put R.STEP_STATE_LAST_STATUS 2 0 0 p).put R.STEP_ERROR_CMD_REFUSED 1 0 0 p
     (s.phase p ≠ phIdle → Machine.exec (.stepBegin p) s = .next refused ∧ Machine.exec (.discardAccum p) s = .next refused) ∧
     (s.phase p ≠ phForward → s.phase p ≠ phBackward → Machine.exec (.stepAdvance p) s = .next refused) ∧
     (s.phase p ≠ phHalt → Machine.exec (.stepAbort p) s = .next refused) ∧
     (∀ bytes, s.phase p = phIdle → s.beginCheck p = 0 → s.get R.STEP_FMT_CFG_LAYERS 0 0 p ≤ 4096 →
       (s.load (stepWho p) (s.get R.STEP_FMT_BASE_BASE 0 0 p) (8 * s.get R.STEP_FMT_CFG_LAYERS 0 0 p)).2 = .ok bytes →
       ∃ t, Machine.exec (.stepBegin p) s = .next t ∧ t.phase p = phForward ∧ t.get R.STEP_STATE_MB_INDEX 0 0 p = 0 ∧
         t.flag R.STEP_STATE_CLOSING 0 0 p = false ∧ t.get R.STEP_STATE_LAST_STATUS 0 0 p = 0 ∧ t.mem = s.mem ∧
         (∀ d ∈ s.partDies p, ∀ l, l < s.get R.STEP_FMT_CFG_LAYERS 0 0 p → ngetD t.fmtCopy (d * 4096 + l) 0 = fieldAt bytes (8 * l) 8) ∧
         ngetD t.latScale p 0 = (if s.compat16 p || s.flag R.STEP_FMT_CFG_LSCALE_EN 0 0 p
           then BitVec.ofNat 32 (s.get R.STEP_LSCALE_SCALE 0 0 p) else f32One)) ∧
     (s.phase p = phForward → ∃ t, Machine.exec (.stepAdvance p) s = .next t ∧ t = { s with csr := t.csr, steps := t.steps } ∧
       s.RegsBut t [R.STEP_STATE] ∧ t.phase p = phBackward ∧ t.get R.STEP_STATE_LAST_STATUS 0 0 p = 0) ∧
     (s.phase p = phBackward → s.lastBackward p = false →
       ∃ t, Machine.exec (.stepAdvance p) s = .next t ∧ t = { s with csr := t.csr, steps := t.steps } ∧
         s.RegsBut t [R.STEP_STATE] ∧ t.phase p = phForward ∧ t.get R.STEP_STATE_LAST_STATUS 0 0 p = 0 ∧
         t.get R.STEP_STATE_MB_INDEX 0 0 p = (s.get R.STEP_STATE_MB_INDEX 0 0 p + 1) % 256) ∧
     (s.phase p = phBackward → s.lastBackward p = true →
       ∃ t, Machine.exec (.stepAdvance p) s = .next t ∧ t.phase p = phAwait ∧ t.get R.STEP_STATE_LAST_STATUS 0 0 p = 0 ∧
         ∀ d ∈ s.partDies p, t.get R.UPD_STATUS_STATE d = 1 ∧ (t.updSt d).latched = true) ∧
     (s.phase p = phIdle → Machine.exec (.discardAccum p) s = .next
       ((s.putStep p { s.stepSt p with discarding := true }).put R.STEP_STATE_LAST_STATUS 0 0 0 p)) ∧
     (s.phase p = phHalt → ∃ t, Machine.exec (.stepAbort p) s = .next t ∧ t.phase p = phIdle ∧
       t.flag R.STEP_STATE_DISCARD_PENDING 0 0 p = true ∧ t.get R.STEP_STATE_LAST_STATUS 0 0 p = 0 ∧ t.mem = s.mem ∧
       (∀ c ∈ s.partChans p, (t.chan c).carry = []) ∧ ∀ d ∈ s.partDies p, t.get R.UPD_STATUS_STATE d = 0)) ∧
  (∀ (s : State) (p : Nat), s.Rest → s.clocked 0 5 = true → s.partExists p = true → s.phase p = phAwait →
     (∀ b, s.flag R.STEP_STATE_CLOSING 0 0 p = false → s.get R.STEP_STATE_OUTSTANDING 0 0 p = 0 →
       (∀ d ∈ s.partDies p, d ∈ (s.stepSt p).reports) →
       (s.load (stepWho p) (s.get R.STEP_LOSS_ADDR_ADDR 0 0 p) 8).2 = .ok b → s.linkedTo 0 [s.get R.STEP_LOSS_ADDR_ADDR 0 0 p] = true →
       let c := s.chanBase p
       let loss : W32 := BitVec.ofNat 32 (fieldAt b 0 4)
       let weight : W32 := BitVec.ofNat 32 (fieldAt b 4 4)
       (s.chan c).hung = false → (s.chan c).head = none → (s.chan c).inq = [] → (s.chan c).olds = [] → 1 < s.members? c →
       ∃ t h, Machine.exec (.closingReductionIssue p) s = .next t ∧ t.flag R.STEP_STATE_CLOSING 0 0 p = true ∧ t.phase p = phAwait ∧
         t.mem = s.mem ∧ (t.chan c).head = some h ∧ h.closing = true ∧ h.step = s.stepNumber p ∧
         h.vals = closingVals (s.red R.RED_CH_ROUTE_RANK c) loss weight
           (if s.localFails p || f32NonFinite loss || f32NonFinite weight then f32One else 0)) ∧
     (s.flag R.STEP_STATE_CLOSING 0 0 p = true ∨ s.get R.STEP_STATE_OUTSTANDING 0 0 p ≠ 0 →
       Machine.exec (.closingReductionIssue p) s = .next s) ∧
     (∀ g bad, (s.stepSt p).gathered = some (g, bad) → s.flag R.STEP_STATE_CLOSING 0 0 p = true →
       s.linkedTo 0 [s.get R.STEP_LOSS_ADDR_ADDR 0 0 p] = true →
       let st := (s.store (stepWho p) (s.get R.STEP_LOSS_ADDR_ADDR 0 0 p + 0x10) (List.replicate 48 0 ++ g)).1
       let ok := verdictTrue (wordsOf g) (s.members? (s.chanBase p)) bad
       ∃ t, Machine.exec (.verdict p) s = .next t ∧ t.mem = st.mem ∧ t.flag R.STEP_STATE_VERDICT 0 0 p = ok ∧
         t.flag R.STEP_STATE_VERDICT_VALID 0 0 p = true ∧ t.stepNumber p = s.stepNumber p ∧
         (ok = true → (s.stepSt p).dieReset = true → t.phase p = phHalt ∧ t.flag R.STEP_ERROR_COMMIT_FAULT 0 0 p = true) ∧
         (ok = true → (s.stepSt p).dieReset = false → t.phase p = phCommit ∧ ∀ d ∈ s.partDies p, t.get R.UPD_STATUS_STATE d = 2) ∧
         (ok = false → t.phase p = phIdle ∧ t.flag R.STEP_STATE_DISCARD_PENDING 0 0 p = true ∧
           t.get R.STEP_SKIPS_TOTAL 0 0 p = min (s.get R.STEP_SKIPS_TOTAL 0 0 p + 1) 0xFFFFFFFF)) ∧
     ((s.stepSt p).gathered = none →
       Machine.exec (.verdict p) s = .next s ∧
       ∃ t, Machine.exec (.verdictTimeout p) s = .next t ∧ t.phase p = phHalt ∧ t.flag R.STEP_ERROR_VERDICT_TIMEOUT 0 0 p = true ∧
         t.stepNumber p = s.stepNumber p ∧ t.mem = s.mem))

/-- UPD_TABLE_REPORT, UPD_APPLY_DONE and UPD_COMMIT_FAULT (R277 to R282, R291): a latched engine's checks give its report; a table
of one entry under MOMENTUM, ADAMW or TRUST leaves the new weights and moments in the entry's regions and no other byte
changed; the last engine to finish ends the step, its number one higher; a fault leaves what the entry writes undefined, in HALT. -/
def Obligations.UpdateTablesAreCheckedAndApplied : Prop :=
  ∀ (s : State) (die p : Nat), s.Rest → s.clocked die 2 = true → isComp die = true → s.partOfDie die = some p →
    let u := s.updSt die
    (s.phase p = phAwait → s.linked 0 die = true → u.latched = true → die ∉ (s.stepSt p).reports →
      let r := s.tableCheck die u
      ∃ t, Machine.exec (.updTableReport die) s = .next t ∧ t.get R.UPD_TABLE_STATUS_STATUS die = r.1 ∧
        t.get R.UPD_TABLE_STATUS_INDEX die = r.2 % 2 ^ 13 ∧ (t.stepSt p).reports = die :: (s.stepSt p).reports ∧
        (t.updSt die).accepted = (r.1 == 0) ∧ (t.stepSt p).refused = ((s.stepSt p).refused || r.1 != 0) ∧
        (r.1 ≠ 0 → t.flag R.UPD_ERROR_TABLE_FAULT die = true ∧ t.flag R.STEP_ERROR_TABLE_FAULT 0 0 p = true) ∧
        t = { s with csr := t.csr, steps := t.steps, upds := t.upds } ∧
        s.RegsBut t [R.UPD_TABLE_STATUS, R.UPD_ERROR, R.UPD_STATUS, R.STEP_ERROR]) ∧
    (s.applying die = none → Machine.exec (.updApplyDone die) s = .next s) ∧
    (s.applying die = some p → u.entries = [] →
      ((∃ d ∈ s.partDies p, d ≠ die ∧ d ∉ (s.stepSt p).applied) →
        Machine.exec (.updApplyDone die) s = .next
          ((s.put R.UPD_STATUS_STATE 0 die).putStep p { s.stepSt p with applied := die :: (s.stepSt p).applied })) ∧
      ((∀ d ∈ s.partDies p, d = die ∨ d ∈ (s.stepSt p).applied) →
        ∃ t, Machine.exec (.updApplyDone die) s = .next t ∧ t.phase p = phIdle ∧
          t.stepNumber p = (s.stepNumber p + 1) % 2 ^ 32 ∧ t.get R.STEP_SKIPS_RUN 0 0 p = 0)) ∧
    (∀ e, s.applying die = some p → u.accepted = true → u.entries = [e] → leValid e = true → leFrozen e = false →
      leRule e ≤ 2 → leCopyEn e = false → (∃ d ∈ s.partDies p, d ≠ die ∧ d ∉ (s.stepSt p).applied) →
      (∀ r ∈ leRegions e, s.judge (s.updWho die) r.1 r.2 = 0) → (∀ r ∈ leWritten e, s.accumCarve r.1 r.2 = none) →
      (leRegions e).Pairwise (fun x y => x.1 + x.2 ≤ y.1 ∨ y.1 + y.2 ≤ x.1) → s.mem.bad = [] →
      let n := 4 * leElems e
      let at' (a : Nat) : List W32 := wordsOf (s.mem.read a n)
      let r := elementRule e ((u.hypers.drop (64 * leHset e)).take 64) u.scale (at' (leGrad e)) (at' (leMaster e)) (at' (leMom1 e))
        (if leUsesMom2 e then at' (leMom2 e) else [])
      ∃ t, Machine.exec (.updApplyDone die) s = .next t ∧ t.get R.UPD_STATUS_STATE die = 0 ∧
        t.get R.UPD_ENTRIES_COUNT die = (s.get R.UPD_ENTRIES_COUNT die + 1) % 2 ^ 48 ∧
        t.mem.read (leMaster e) n = bytesOf r.1 ∧ t.mem.read (leMom1 e) n = bytesOf r.2.1 ∧
        (leUsesMom2 e = true → t.mem.read (leMom2 e) n = bytesOf r.2.2) ∧
        ∀ a, (∀ x ∈ leWritten e, a < x.1 ∨ x.1 + x.2 ≤ a) → t.mem.byte a = s.mem.byte a) ∧
    (∀ entry addr e, s.applying die = some p → entry < 4096 → addr < 2 ^ 48 → u.entries[entry]? = some e → u.accepted = true →
      leValid e = true → leFrozen e = false → (∀ x ∈ u.entries.take entry, leValid x = false) →
      ∃ t, Machine.exec (.updCommitFault die entry addr) s = .next t ∧ t.phase p = phHalt ∧
        t.get R.UPD_STATUS_ENTRY die = entry ∧ t.flag R.UPD_ERROR_COMMIT_FAULT die = true ∧
        t.flag R.STEP_ERROR_COMMIT_FAULT 0 0 p = true ∧ t.updSt die = {} ∧
        ∀ x ∈ leWritten e, ∀ a, x.1 ≤ a → a < x.1 + x.2 → ∃ k, t.mem.byte a = BitVec.ofNat 8 (Config.free k a))

/-! ### The reduction channels (R246 to R304) -/

/-- RED_REQUEST_TAKE, RED_REQUEST_START, PERMUTE_START, PERMUTE_COMPLETE and GATHER_CONSUMED_POLL (R248 to R252, R296, R300 to R303): the
request at HEAD is taken if it passes its checks, and stops its ring if not; an ALLREDUCE whose gate and token are met takes
the free head and counts as outstanding, and in a ring of one leaves SRC's values at DST; a PERMUTE waits for IDLE, and its end
raises EPOCH; a STREAM gather goes on once CONSUMED frees its slot. -/
def Obligations.RequestsRunOnTheirChannels : Prop :=
  ∀ (s : State) (c : Nat), s.Rest → c < 32 → s.clocked (s.chanHome c) 2 = true → (s.chan c).hung = false → (s.chan c).inq = [] →
    let hub := s.chanHome c
    let p := s.partOfChan c
    (∀ bytes, s.running (redRegion c) = true → (s.chan c).nxt = none → (s.chan c).head = none → s.qReady redQ hub c 0 0 = true →
      s.linkedTo hub [s.qSlot redQ hub c 0] = true →
      let l := s.load (s.redWho c) (s.qSlot redQ hub c 0) 64
      l.2 = .ok bytes →
      let raw := leVal bytes
      let x := rqCtx raw
      let s1 := l.1.qAdvance redQ hub c 0
      s.ctxOpen x = true → s.ctxPart x = some p →
      (s1.reqCheck c raw = 0 → Machine.exec (.redRequestTake c) s = .next
        (s1.putChan c { s.chan c with last := some (x, s.ctxGen x), nxt := some { ctx := x, gen := s.ctxGen x, raw := raw } })) ∧
      (s1.reqCheck c raw ≠ 0 → ∃ t, Machine.exec (.redRequestTake c) s = .next t ∧ t.flag R.RED_QCFG_STOPPED hub c = true ∧
        t.get R.RED_CH_ERROR_STATUS hub c = s1.reqCheck c raw ∧ t.flag R.RED_CH_ERROR_DESC_FAIL hub c = true ∧ (t.chan c).nxt = none)) ∧
    (∀ q, (s.chan c).nxt = some q → s.ctxOpen q.ctx = true → s.reqReady c q = false →
      Machine.exec (.redRequestStart c) s = .next s ∧ Machine.exec (.permuteStart c) s = .next s) ∧
    (∀ q, (s.chan c).nxt = some q → s.ctxOpen q.ctx = true → s.reqReady c q = true → (s.chan c).head = none → (s.chan c).done = [] →
      q.ctx < 64 →
      (rqOp q.raw = 1 → 1 < s.members? c → s.get R.STEP_STATE_OUTSTANDING 0 0 p < 0xFFFF →
        ∃ t h, Machine.exec (.redRequestStart c) s = .next t ∧ (t.chan c).head = some h ∧ h.req = some q ∧ h.op = 1 ∧
          h.step = s.stepNumber p ∧ (t.chan c).nxt = none ∧
          t.get R.STEP_STATE_OUTSTANDING 0 0 p = s.get R.STEP_STATE_OUTSTANDING 0 0 p + 1 ∧
          t.get R.OCT_CTX_OUTSTANDING 0 0 q.ctx = (s.get R.OCT_CTX_OUTSTANDING 0 0 q.ctx + 1) % 2 ^ 24) ∧
      (rqOp q.raw = 1 → s.members? c = 1 → (s.chan c).closing = none → (s.chan c).olds = [] → (s.chan c).carry = [] → rqNorm q.raw = false →
        rqComplete q.raw = false → 0 < rqElems q.raw → rqElems q.raw ≤ 4096 → s.mem.bad = [] →
        s.judge (s.redWho c) (rqSrc q.raw) (4 * rqElems q.raw) = 0 → s.judge (s.redWho c) (rqDst q.raw) (4 * rqElems q.raw) = 0 →
        s.accumCarve (rqDst q.raw) (4 * rqElems q.raw) = none →
        ∃ t, Machine.exec (.redRequestStart c) s = .next t ∧ (t.chan c).head = none ∧
          t.mem.read (rqDst q.raw) (4 * rqElems q.raw) = s.mem.read (rqSrc q.raw) (4 * rqElems q.raw) ∧
          t.get R.RED_REDUCTIONS_COUNT hub c = (s.get R.RED_REDUCTIONS_COUNT hub c + 1) % 2 ^ 48 ∧
          ∀ a, a < rqDst q.raw ∨ rqDst q.raw + 4 * rqElems q.raw ≤ a → t.mem.byte a = s.mem.byte a) ∧
      (rqOp q.raw = 4 → s.phase p ≠ phIdle → Machine.exec (.permuteStart c) s = .next s) ∧
      (rqOp q.raw = 4 → s.phase p = phIdle → ∃ t h, Machine.exec (.permuteStart c) s = .next t ∧ (t.chan c).head = some h ∧
        h.op = 4 ∧ h.req = some q ∧ (t.chan c).nxt = none ∧ t.get R.RED_CH_EPOCH_PERMUTING hub c = 1)) ∧
    (∀ h q, (s.chan c).head = some h → h.op = 4 → h.req = some q → s.headLinked c h = true → (s.chan c).closing = none → (s.chan c).olds = [] →
      (h.arrived = false → Machine.exec (.permuteComplete c) s = .next s) ∧
      (h.arrived = true → ∃ t, Machine.exec (.permuteComplete c) s = .next t ∧ (t.chan c).head = none ∧
        t.get R.RED_CH_EPOCH_EPOCH hub c = (s.get R.RED_CH_EPOCH_EPOCH hub c + 1) % 65536 ∧
        t.get R.RED_CH_EPOCH_PERMUTING hub c = 0 ∧ (h.status ≠ 0 → t.get R.RED_CH_EPOCH_TAINTED hub c = 1)))

/-- GATHER_CONSUMED_POLL (R296): CONSUMED is read again; while it does not free the slot of the shard that waits, the frame goes on
waiting, and once it does the frame is taken.
STRAGGLER_DECISION and RED_HANG (R258, R262, R263): with a decision pending the member becomes absent for the step and STRAGGLES
counts it, else nothing happens; a deadline that passes with WATCHDOG_EN set hangs a channel at work: HANG is set, the frames
held are discarded and counted, and a request at the head completes. -/
def Obligations.StreamGathersStragglersAndHangs : Prop :=
  (∀ (s : State) (c : Nat) (h : RHead) (f : Frame) (b : List Byte), s.Rest → c < 32 → s.clocked (s.chanHome c) 2 = true →
     (s.chan c).hung = false → (s.chan c).inq = [{ f := f }] → (s.chan c).head = some h → h.op = 3 → rqStream h.raw = true → f.pass = 3 →
     1 < h.rneed → h.r1sent = true → h.roll1 = none → s.headLinked c h = true → (s.load (s.redWho c) (rqCons h.raw) 8).2 = .ok b →
     let k := h.shardOf f.origin
     rqSlots h.raw ≤ k →
     (leVal b < k - rqSlots h.raw + 1 → Machine.exec (.gatherConsumedPoll c) s = .next
       (((s.load (s.redWho c) (rqCons h.raw) 8).1.countWeave c (rqCons h.raw) 8).putChan c { s.chan c with head := some h })) ∧
     (k - rqSlots h.raw + 1 ≤ leVal b → ∃ t h', Machine.exec (.gatherConsumedPoll c) s = .next t ∧ (t.chan c).inq = [] ∧
       (t.chan c).head = some h' ∧ h'.rneed = h.rneed - 1 ∧ h'.req = h.req)) ∧
  (∀ (s : State) (c : Nat), s.Rest → c < 32 → s.clocked (s.chanHome c) 2 = true → (s.chan c).hung = false →
     let hub := s.chanHome c
     (s.straggling c = false → Machine.exec (.stragglerDecision c) s = .next s) ∧
     (∀ f, s.straggling c = true → (s.chan c).inq = [{ f := f }] → 1 < s.members? c →
       ∃ t, Machine.exec (.stragglerDecision c) s = .next t ∧ (t.chan c).absStep = some (s.stepNumber (s.partOfChan c)) ∧
         t.get R.RED_STRAGGLES_COUNT hub c = (s.get R.RED_STRAGGLES_COUNT hub c + 1) % 2 ^ 48) ∧
     (s.red R.RED_CH_TIMING_WATCHDOG_EN c = 0 ∨ ((s.chan c).head = none ∧ (s.chan c).inq = []) →
       Machine.exec (.redHang c) s = .next s) ∧
     (s.red R.RED_CH_TIMING_WATCHDOG_EN c = 1 → ((s.chan c).head ≠ none ∨ (s.chan c).inq ≠ []) →
       ∃ t, Machine.exec (.redHang c) s = .next t ∧ (t.chan c).hung = true ∧ (t.chan c).head = none ∧ (t.chan c).inq = [] ∧
         (t.chan c).nxt = none ∧ t.get R.RED_CH_ERROR_HANG hub c = 1 ∧
         t.get R.RED_STALE_FRAMES_COUNT hub c = (s.get R.RED_STALE_FRAMES_COUNT hub c + (s.chan c).inq.length) % 2 ^ 48 ∧
         ∀ h q, (s.chan c).head = some h → h.req = some q → h.past = false → t.flag R.RED_QCFG_STOPPED hub c = true))

/-- EXPONENT_FRAME, REDUCE_SCATTER_FRAME, ALL_GATHER_FRAME, ROLL_CALL_FRAME, ALLGATHER_SHARD_FRAME and PERMUTE_MOVE_FRAME (R252 to R257,
R263, R264, R294, R301): at a head that goes on, a frame of its pass has its proposals merged, or the member's values added,
and goes on; or its values, shard or moved bytes land where the request or the frame says; or ends the roll call. A frame for
no channel of the partition is MISROUTED, and one for a hung channel stale. -/
def Obligations.RingFramesDoTheirPass : Prop :=
  ∀ (s : State) (hop part : Nat) (f : Frame) (c : Nat) (h : RHead) (q : RedReq) (b : List Byte),
    (s.Arrives hop part f c h q →
      let hub := s.chanHome c
      let ok (f : Frame) : Prop := h.mismatch (s.red R.RED_CH_EPOCH_EPOCH c) f = 0
      let sent (f : Frame) : Out := .ring hub (s.red R.RED_CH_ROUTE_OUT_HOP c) [s.red R.RED_CH_ROUTE_NEXT_CH c, f.pass]
        ({ f with channel := s.red R.RED_CH_ROUTE_NEXT_CH c, sender := h.r } : Frame).bytes
      let mine : List W32 := padSeg (wordsOf b)
      let d := q.raw
      let whole (a n : Nat) : Prop := s.mem.bad = [] ∧ s.judge (s.redWho c) a n = 0 ∧ s.accumCarve a n = none
      let lands (t : State) (a : Nat) (v : List Byte) : Prop :=
        t.mem.read a v.length = v ∧ ∀ x, x < a ∨ a + v.length ≤ x → t.mem.byte x = s.mem.byte x
      (let g : Frame := { f with pass := 1 }
       ok g → h.op ≤ 2 → h.own = [] → h.carry = none → g.seg ∉ h.pfwd → h.origin g.seg = false → h.owner g.seg = false → 1 < h.dneed →
       (s.load (s.redWho c) (rqSrc d + 4 * segElems * g.seg) (4 * segLen h.elems g.seg)).2 = .ok b →
       ∃ t, Machine.exec (.exponentFrame hop part f) s = .next t ∧ t.mem = s.mem ∧
         t.out = s.out ++ [sent { g with payload := mergeProposals g.payload (proposals mine) }]) ∧
      (let g : Frame := { f with pass := 2 }
       let sum : Frame := { g with payload := bytesOf (List.zipWith f32Add (wordsOf g.payload) mine), present := g.present + 1 }
       ok g → h.op ≤ 2 → h.bs16 = false → h.own = [] → h.carry = none → h.owner g.seg = false → 1 < h.dneed →
       (s.load (s.redWho c) (rqSrc d + 4 * segElems * g.seg) (4 * segLen h.elems g.seg)).2 = .ok b →
       ∃ t, Machine.exec (.reduceScatterFrame hop part f) s = .next t ∧ t.mem = s.mem ∧
         t.out = s.out ++ [sent (if payloadBad false sum.payload && !sum.has flNonfinite then sum.spoil h.r else sum)]) ∧
      (let g : Frame := { f with pass := 3 }
       let vals := segValues h.bs16 g.payload
       let v := bytesOf ((if rqNorm d then normalised (g.present + g.carried) vals else vals).take (segLen h.elems g.seg))
       let a := rqDst d + 4 * segElems * g.seg
       ok g → h.op = 1 → 1 < h.dneed → whole a v.length →
       ∃ t, Machine.exec (.allGatherFrame hop part f) s = .next t ∧ lands t a v ∧
         t.out = if (h.r + 1) % h.n = g.seg % h.n then s.out else s.out ++ [sent g]) ∧
      (let g : Frame := { f with pass := 4 }
       ok g → h.r ≠ 0 → (h.r = 1 ∨ 0 < h.rolls) → 1 < h.dneed →
       ∃ t h', Machine.exec (.rollCallFrame hop part f) s = .next t ∧ t.mem = s.mem ∧ (t.chan c).head = some h' ∧
         h'.rollFinal = some g.payload ∧ h'.arrived = true ∧ t.out = if h.r + 1 = h.n then s.out else s.out ++ [sent g]) ∧
      (let g : Frame := { f with pass := 3 }
       let v := (widen (rqGFmt d) (rqOut d) g.payload).1
       let a := rqDst d + (g.origin * h.elems + segElems * g.seg) * fmtWidth (rqOut d) / 8
       ok g → h.op = 3 → rqStream d = false → rqOut d ≠ 3 → h.r1sent = true → h.roll1 = none → whole a v.length →
       ∃ t, Machine.exec (.allgatherShardFrame hop part f) s = .next t ∧ lands t a v ∧
         t.out = if (h.r + 1) % h.n = g.origin % h.n then s.out else s.out ++ [sent g]) ∧
      (let g : Frame := { f with pass := 5 }
       let a := g.mvDst % 2 ^ 48
       ok g → h.op = 4 → h.arrived = false → g.dest = h.r → g.mvKind = 0 → h.r1sent = true → h.roll1 = none → whole a g.payload.length →
       ∃ t, Machine.exec (.permuteMoveFrame hop part f) s = .next t ∧ lands t a g.payload ∧ t.out = s.out ∧
         t.get R.RED_MOVED_BYTES_COUNT hub c = (s.get R.RED_MOVED_BYTES_COUNT hub c + g.payload.length) % 2 ^ 48)) ∧
    (s.Rest → f.wf = true → 16 ≤ hop → hop < 32 → part < s.parts → s.clocked (s.frameHome hop part f) 2 = true →
      ∀ i ∈ [Instr.exponentFrame hop part f, .reduceScatterFrame hop part f, .allGatherFrame hop part f, .rollCallFrame hop part f,
             .allgatherShardFrame hop part f, .permuteMoveFrame hop part f],
        (s.chanCount ≤ f.channel →
          let c := s.chanBase part
          Machine.exec i s = .next (s.put R.RED_MISROUTED_COUNT (s.get R.RED_MISROUTED_COUNT (s.chanHome c) c + 1) (s.chanHome c) c)) ∧
        (let c := s.chanBase part + f.channel
         f.channel < s.chanCount → s.members? c ≠ 0 → s.red R.RED_CH_ROUTE_IN_HOP c = hop → (s.chan c).hung = true →
          Machine.exec i s = .next (s.put R.RED_STALE_FRAMES_COUNT (s.get R.RED_STALE_FRAMES_COUNT (s.chanHome c) c + 1) (s.chanHome c) c)))

/-! ### Links (R269, R270, R319 to R336, R415) -/

/-- PEER_REPLAY, PEER_LINK_DOWN, PEER_LINK_UP and PEER_LINK_RETRY (R269, R270, R415): replays and frames in error are counted; a
link that fails to replay is down with no version; an enabled port all of whose lanes train comes up at the lower of the two
versions (1 where the lanes do not retrain at 2), and a version that differs from the last hangs its channels.
WEAVE_RETRAIN, WEAVE_TRAIN_DONE, WEAVE_WORD_ERROR and WEAVE_DOWN_RETRY (R322, R323): training starts with both ends in TRAINING; it
ends UP at full width where both groups are good and nothing bounds it, UP at half on one group, or DOWN; a word in error is
counted and replayed, and REPLAY_LIMIT replays in a row train the weave again. -/
def Obligations.PeerLinksAndWeavesTrain : Prop :=
  (∀ (s : State) (port : Nat), s.Rest → port < 16 → s.clocked (port / 8) 2 = true →
     let h := port / 8
     let up := s.flag R.PEER_STATUS_UP h port
     (up = false → Machine.exec (.peerLinkDown port) s = .next s ∧ ∀ rx, Machine.exec (.peerReplay port rx) s = .next s) ∧
     (up = true →
       Machine.exec (.peerReplay port true) s = .next (s.put R.PEER_ERR_FRAMES_COUNT (s.get R.PEER_ERR_FRAMES_COUNT h port + 1) h port) ∧
       Machine.exec (.peerReplay port false) s = .next (s.put R.PEER_REPLAYS_COUNT (s.get R.PEER_REPLAYS_COUNT h port + 1) h port) ∧
       ∃ t, Machine.exec (.peerLinkDown port) s = .next t ∧ s.AgreeBut t [R.PEER_STATUS.addr h port 0, R.PEER_ERROR.addr h port 0] ∧
         t.flag R.PEER_STATUS_UP h port = false ∧ t.get R.PEER_STATUS_VERSION h port = 0 ∧ t.get R.PEER_STATUS_LANES_UP h port = 0 ∧
         t.flag R.PEER_ERROR_LINK_DOWN h port = true ∧ t.flag R.PEER_ERROR_REPLAY_FAIL h port = true) ∧
     (∀ (lanes pmax part : Nat) (ok : Bool), lanes < 256 → pmax < 256 → part < 65536 →
       ∀ i ∈ [Instr.peerLinkUp port lanes pmax part ok, .peerLinkRetry port lanes pmax part ok],
         (up = true ∨ s.flag R.PEER_CFG_ENABLE h port = false → Machine.exec i s = .next s) ∧
         (up = false → s.flag R.PEER_CFG_ENABLE h port = true → bit (s.get R.ID_UNITS_PEER_PRESENT h) (port % 8) = true →
           (lanes ≠ 255 → Machine.exec i s = .next (s.put R.PEER_STATUS_LANES_UP lanes h port)) ∧
           (lanes = 255 → pmax = 1 ∨ pmax = 2 →
             let v := min (s.get R.PEER_CFG_OPP_MAX h port) pmax
             let v := if v = 2 ∧ ok = false then 1 else v
             ∃ t, Machine.exec i s = .next t ∧ t.flag R.PEER_STATUS_UP h port = true ∧ t.get R.PEER_STATUS_VERSION h port = v ∧
               t.get R.PEER_STATUS_LANE_RATE h port = v ∧ t.get R.PEER_STATUS_PEER_PART h port = part ∧
               nfind port t.peerVer = some v ∧
               ∀ w, nfind port s.peerVer = some w → w ≠ v → t.flag R.PEER_ERROR_VERSION_CHANGE h port = true ∧
                 ∀ c ∈ s.portChans port, s.running (redRegion c) = true → (t.chan c).hung = true)))) ∧
  (∀ (s : State) (die : Nat), s.Rest → isComp die = true → s.aon.powered = true → s.isHeld die = false →
     let both (t : State) (f : Fld) (v : Nat) : Prop := t.get f die = v ∧ t.get f (hubOf die) (weaveInst die) = v
     let st := s.get R.WEAVE_STATUS_STATE die
     let w := s.weave die
     let frame (t : State) : Prop := t = { s with csr := t.csr, weaves := t.weaves }
     (∃ t, Machine.exec (.weaveRetrain die) s = .next t ∧ frame t ∧ both t R.WEAVE_STATUS_STATE 1 ∧ (t.weave die).bounded = false) ∧
     (∀ a b, st ≠ 1 → Machine.exec (.weaveTrainDone die a b) s = .next s) ∧
     (st = 1 → ∃ t, Machine.exec (.weaveTrainDone die false false) s = .next t ∧ frame t ∧ both t R.WEAVE_STATUS_STATE 0 ∧
       both t R.WEAVE_ERROR_DOWN 1) ∧
     (∀ a b, st = 1 → (a || b) = true →
       let full := a && b && !s.flag R.WEAVE_CFG_MAX_HALF (hubOf die) (weaveInst die) && !s.flag R.WEAVE_CFG_MAX_HALF die &&
         (!w.bounded || w.prev != 1)
       ∃ t, Machine.exec (.weaveTrainDone die a b) s = .next t ∧ frame t ∧ both t R.WEAVE_STATUS_STATE 2 ∧
         both t R.WEAVE_STATUS_HALF (if full then 0 else 1) ∧ both t R.WEAVE_STATUS_GROUP (if !full && !a then 1 else 0) ∧
         (t.weave die).prev = (if full then 2 else 1) ∧ (w.prev = 2 → full = false → both t R.WEAVE_ERROR_WIDTH_DROP 1)) ∧
     (∀ a same, st ≠ 2 → Machine.exec (.weaveWordError die a same) s = .next s) ∧
     (∀ a same, st = 2 →
       let rx : Nat × Nat := if a then (die, 0) else (hubOf die, weaveInst die)
       let tx : Nat × Nat := if a then (hubOf die, weaveInst die) else (die, 0)
       let n := (if same then (if a then w.runDie else w.runHub) else 0) + 1
       let counted (t : State) : Prop :=
         t.get R.WEAVE_CRC_ERRS_COUNT rx.1 rx.2 = (s.get R.WEAVE_CRC_ERRS_COUNT rx.1 rx.2 + 1) % 2 ^ 48 ∧
         t.get R.WEAVE_REPLAYS_COUNT tx.1 tx.2 = (s.get R.WEAVE_REPLAYS_COUNT tx.1 tx.2 + 1) % 2 ^ 48
       let limit := max 1 (s.get R.WEAVE_CFG_REPLAY_LIMIT tx.1 tx.2)
       (n < limit → ∃ t, Machine.exec (.weaveWordError die a same) s = .next t ∧ frame t ∧ counted t ∧
         t.get R.WEAVE_STATUS_STATE die = 2 ∧ (if a then (t.weave die).runDie else (t.weave die).runHub) = n) ∧
       (limit ≤ n → ∃ t, Machine.exec (.weaveWordError die a same) s = .next t ∧ frame t ∧ counted t ∧
         both t R.WEAVE_STATUS_STATE 1 ∧ t.flag R.WEAVE_ERROR_REPLAY_FAIL tx.1 tx.2 = true ∧ (t.weave die).bounded = true)) ∧
     (st ≠ 0 → Machine.exec (.weaveDownRetry die) s = .next s) ∧
     (st = 0 → ∃ t, Machine.exec (.weaveDownRetry die) s = .next t ∧ frame t ∧ both t R.WEAVE_STATUS_STATE 1 ∧
       t.get R.WEAVE_RETRAINS_COUNT die = s.get R.WEAVE_RETRAINS_COUNT die))

/-- SEAM_RECEIVER_LOCK, SEAM_LANE_TEST_END, SEAM_TRAINING_SET, SEAM_CONFIRM_END and SEAM_UP_STABLE (R327 to R331): an end locks, tests its
lanes and advertises the largest width they allow, under MAX_WIDTH and its ceiling; lowers its width to what the partner's
sets allow, and confirms once both say the same; CONFIRM without an error ends UP at the width agreed. -/
def Obligations.TheSeamAgreesOnAWidth : Prop :=
  ∀ (s : State) (hub : Nat), s.Rest → hub < 2 → s.aon.powered = true → s.isHeld hub = false → s.runs hub 3 = true →
    let st := s.seamState hub
    (st = 1 → Machine.exec (.seamReceiverLock hub) s = .next (s.putSeam hub { s.seam hub with locked := true })) ∧
    (st ≠ 1 → Machine.exec (.seamReceiverLock hub) s = .next s) ∧
    (∀ mask, mask < 2 ^ 64 → (st ≠ 1 ∨ (s.seam hub).locked = false → Machine.exec (.seamLaneTestEnd hub mask) s = .next s) ∧
      (st = 1 → (s.seam hub).locked = true → mask = 0 → ∃ t, Machine.exec (.seamLaneTestEnd hub mask) s = .next t ∧
        t.seamState hub = 0 ∧ t.flag R.SEAM_ERROR_DOWN hub = true) ∧
      (st = 1 → (s.seam hub).locked = true → mask ≠ 0 →
        let c := s.get R.SEAM_WIDTH_STATUS_CEILING hub
        let n := min (8 * (goodWg mask).length) (s.get R.SEAM_CFG_MAX_WIDTH hub)
        Machine.exec (.seamLaneTestEnd hub mask) s = .next (((s.put R.SEAM_LANES_MASK mask hub).put R.SEAM_STATUS_STATE 2 hub).put
          R.SEAM_WIDTH_STATUS_OWN_ADV (widthFor (if c = 0 then n else min n c)) hub))) ∧
    (∀ set, trainSet? set = none → Machine.exec (.seamTrainingSet hub set) s = .next s) ∧
    (∀ set x, trainSet? set = some x → st = 2 →
      let own := widthFor (min (min (s.get R.SEAM_WIDTH_STATUS_OWN_ADV hub) x.adv)
        (8 * (goodWg (s.get R.SEAM_LANES_MASK hub &&& x.mask)).length))
      ∃ t, Machine.exec (.seamTrainingSet hub set) s = .next t ∧ t = { s with csr := t.csr, seams := t.seams } ∧
        s.RegsBut t [R.SEAM_STATUS, R.SEAM_WIDTH_STATUS, R.SEAM_PARTNER_LANES, R.SEAM_MISMATCHES] ∧
        t.get R.SEAM_WIDTH_STATUS_OWN_ADV hub = own ∧ t.get R.SEAM_PARTNER_LANES_MASK hub = x.mask ∧ (t.seam hub).echo = x.adv ∧
        (x.adv = own ∧ x.echo = own ∧ own ≠ 0 → t.seamState hub = 3 ∧ (t.seam hub).agreed = own) ∧
        (¬(x.adv = own ∧ x.echo = own ∧ own ≠ 0) → t.seamState hub = 2)) ∧
    (∀ e, st ≠ 3 → Machine.exec (.seamConfirmEnd hub e) s = .next s) ∧
    (st = 3 → (s.seam hub).agreed ≤ 64 →
      let wg := (goodWg (s.get R.SEAM_LANES_MASK hub &&& s.get R.SEAM_PARTNER_LANES_MASK hub)).take ((s.seam hub).agreed / 8)
      ∃ t, Machine.exec (.seamConfirmEnd hub false) s = .next t ∧ t.seamState hub = 4 ∧
        t.get R.SEAM_WIDTH_STATUS_WIDTH hub = (s.seam hub).agreed ∧
        (∀ g, g < 8 → bit (t.get R.SEAM_WIDTH_STATUS_WG_USED hub) g = wg.contains g) ∧
        ((s.seam hub).agreed < s.get R.SEAM_CFG_MAX_WIDTH hub → t.flag R.SEAM_ERROR_LANE_FAULT hub = true)) ∧
    (st ≠ 4 → Machine.exec (.seamUpStable hub) s = .next s) ∧
    (st = 4 → Machine.exec (.seamUpStable hub) s = .next
      ((s.putSeam hub { s.seam hub with stable := true }).put R.SEAM_WIDTH_STATUS_FAILS 0 hub))

/-- SEAM_RETRAIN, SEAM_AGREE_LIMIT, SEAM_CONFIRM_END with an error, SEAM_LOSS_LIMIT, SEAM_DOWN_RETRY and SEAM_FLIT_ERROR (R326, R327, R331,
R332, R336): RETRAIN starts both ends afresh; a failed agreement returns to LANE_TEST, the third to SAFE on a lane good at both
ends, or DOWN; a loss in UP trains with the width as the ceiling; REPLAY_LIMIT flits replayed in a row take the sender out of UP. -/
def Obligations.TheSeamFailsAndRecovers : Prop :=
  ∀ (s : State) (hub : Nat), s.Rest → hub < 2 → s.aon.powered = true → s.isHeld hub = false → s.runs hub 3 = true →
    let st := s.seamState hub
    (s.isHeld (otherHub hub) = false → ∃ t, Machine.exec (.seamRetrain hub) s = .next t ∧
      ∀ h, h < 2 → t.seamState h = 1 ∧ t.get R.SEAM_WIDTH_STATUS_FAILS h = 0 ∧ t.get R.SEAM_WIDTH_STATUS_CEILING h = 0) ∧
    (st ≠ 2 → Machine.exec (.seamAgreeLimit hub) s = .next s) ∧
    (∀ i, (st = 2 ∧ i = Instr.seamAgreeLimit hub) ∨ (st = 3 ∧ i = .seamConfirmEnd hub true) →
      let fails := s.get R.SEAM_WIDTH_STATUS_FAILS hub
      (fails < 2 → ∃ t, Machine.exec i s = .next t ∧ t.seamState hub = 1 ∧ t.get R.SEAM_WIDTH_STATUS_FAILS hub = fails + 1 ∧
        t.get R.SEAM_FAILED_AGREEMENTS_COUNT hub = (s.get R.SEAM_FAILED_AGREEMENTS_COUNT hub + 1) % 2 ^ 48 ∧
        t.get R.SEAM_STATUS_FORCED hub = s.get R.SEAM_STATUS_FORCED hub) ∧
      (2 ≤ fails →
        let good (l : Nat) : Prop := bit (s.get R.SEAM_LANES_MASK hub) l = true ∧ bit (s.get R.SEAM_PARTNER_LANES_MASK hub) l = true
        ((∃ l, l < 64 ∧ good l) → ∃ t l, Machine.exec i s = .next t ∧ l < 64 ∧ good l ∧ (∀ k, k < l → ¬ good k) ∧ t.seamState hub = 5 ∧
          t.get R.SEAM_WIDTH_STATUS_WIDTH hub = 1 ∧ t.get R.SEAM_WIDTH_STATUS_SAFE_LANE hub = l ∧
          t.flag R.SEAM_ERROR_WIDTH_FAULT hub = true) ∧
        ((∀ l, l < 64 → ¬ good l) → ∃ t, Machine.exec i s = .next t ∧ t.seamState hub = 0 ∧ t.flag R.SEAM_ERROR_DOWN hub = true ∧
          t.flag R.SEAM_ERROR_WIDTH_FAULT hub = true))) ∧
    (st ≠ 4 → st ≠ 5 → Machine.exec (.seamLossLimit hub) s = .next s) ∧
    (st = 4 → (s.seam hub).stable = true → ∃ t, Machine.exec (.seamLossLimit hub) s = .next t ∧ t.seamState hub = 1 ∧
      t.get R.SEAM_WIDTH_STATUS_CEILING hub = s.get R.SEAM_WIDTH_STATUS_WIDTH hub ∧ t.flag R.SEAM_STATUS_FORCED hub = true ∧
      t.get R.SEAM_RETRAINS_COUNT hub = (s.get R.SEAM_RETRAINS_COUNT hub + 1) % 2 ^ 48) ∧
    (st ≠ 0 → Machine.exec (.seamDownRetry hub) s = .next s) ∧
    (st = 0 → ∃ t, Machine.exec (.seamDownRetry hub) s = .next t ∧ t.seamState hub = 1 ∧ t.get R.SEAM_WIDTH_STATUS_CEILING hub = 0 ∧
      t.get R.SEAM_RETRAINS_COUNT hub = s.get R.SEAM_RETRAINS_COUNT hub) ∧
    (∀ same, st = 4 → s.seamState (otherHub hub) = 4 →
      let tx := otherHub hub
      let n := (if same then (s.seam tx).runs else 0) + 1
      let counted := (s.put R.SEAM_CRC_ERRS_COUNT (s.get R.SEAM_CRC_ERRS_COUNT hub + 1) hub).put R.SEAM_REPLAYS_COUNT
        (s.get R.SEAM_REPLAYS_COUNT tx + 1) tx
      (n < max 1 (s.get R.SEAM_CFG_REPLAY_LIMIT tx) →
        Machine.exec (.seamFlitError hub same) s = .next (counted.putSeam tx { s.seam tx with runs := n })) ∧
      (max 1 (s.get R.SEAM_CFG_REPLAY_LIMIT tx) ≤ n → ∃ t, Machine.exec (.seamFlitError hub same) s = .next t ∧
        t.seamState tx = 1 ∧ t.flag R.SEAM_ERROR_REPLAY_FAIL tx = true))

/-! ### Fences (R349 to R353) -/

/-- FENCE, FENCE_PROBE, FENCE_WATERMARK_SEND, FENCE_WATERMARK_ARRIVE and FENCE_TIMEOUT (R350 to R352): a fence whose entries may all
be probed is accepted; each queue takes its snapshot, sends its watermark, and the last to arrive has the fence answered, its
snapshots with it; past its limit it fails with status 3. One that may not start is refused with the first failing entry's status. -/
def Obligations.FencesRunToTheirAnswers : Prop :=
  ∀ s : State, s.Rest →
    (∀ (h : OctHdr) (x : Sess), s.InTurn 0x31 h x →
      let s0 := s.taken h x
      let q : OctReq := { op := 0x31, hdr := h, opening := x.opening }
      let xs := (chunks 8 h.count h.payload).map leVal
      let entry (e : Nat) : FEntry := { die := bits e 0 4, block := bits e 4 8, inst := bits e 12 12, ctx := bits e 24 6 }
      let f0 : Fence := { number := s0.fenceCount, req := q, entries := xs.map entry }
      (16 ≤ s0.fences.length → Machine.exec (.fence h) s = .next (s0.fenceAnswer q 2 [])) ∧
      (s0.fences.length < 16 → (∀ e ∈ xs, s0.fenceEntryStatus e = 0) →
        Machine.exec (.fence h) s = .next
          ({ s0 with fences := s0.fences ++ [f0], fenceCount := s0.fenceCount + 1 } : State).showFences) ∧
      (∀ a e b, s0.fences.length < 16 → xs = a ++ e :: b → (∀ y ∈ a, s0.fenceEntryStatus y = 0) → s0.fenceEntryStatus e ≠ 0 →
        Machine.exec (.fence h) s = .next (s0.fenceAnswer q (s0.fenceEntryStatus e) []))) ∧
    (∀ (n i : Nat) (f : Fence) (e : FEntry), s.clocked 0 5 = true → n < 2 ^ 32 → i < 65536 → s.fences = [f] → f.number = n →
      f.entries[i]? = some e → f.ended = none →
      (e.snap = none → s.probeHeld e = false → Machine.exec (.fenceProbe n i) s = .next
        (s.fenceUpdate n i (fun e => { e with snap := some (ngetD s.qcnt (qKey e.block e.die e.inst e.ctx) {}).done }))) ∧
      (e.snap.isSome = true → Machine.exec (.fenceProbe n i) s = .next s) ∧
      (e.snap.isSome = true → Machine.exec (.fenceWatermarkSend n i) s = .next (s.fenceUpdate n i (fun e => { e with sent := true }))) ∧
      (e.snap = none → Machine.exec (.fenceWatermarkSend n i) s = .next s) ∧
      (e.sent = false → Machine.exec (.fenceWatermarkArrive n i) s = .next s) ∧
      (e.sent = true → (∃ j y, j ≠ i ∧ f.entries[j]? = some y ∧ y.here = false) →
        Machine.exec (.fenceWatermarkArrive n i) s = .next (s.fenceUpdate n i (fun e => { e with here := true }))) ∧
      (e.sent = true → (∀ j y, j ≠ i → f.entries[j]? = some y → y.here = true) →
        Machine.exec (.fenceWatermarkArrive n i) s = .next
          (({ s with fences := [] } : State).showFences.fenceAnswer f.req 0 (f.entries.flatMap (fun e => leBytes 2 (e.snap.getD 0))))) ∧
      Machine.exec (.fenceTimeout n) s = .next (({ s with fences := [] } : State).showFences.fenceAnswer f.req 3 []))

/-! ### The command transport (R375 to R388) -/

/-- NEGOTIATE, CLOSE, OCT_SESSION_IDLE and SUBSCRIBE (R376, R381): a well-formed NEGOTIATE opens a session at the lower of the two
versions, expecting sequence number 1, and is answered OK; one below the asked range opens nothing; CLOSE is answered and
closes the session, idling closes it; SUBSCRIBE fills its slot and starts its notices at 0. -/
def Obligations.SessionsOpenAndClose : Prop :=
  ∀ s : State, s.Rest →
    (∀ h : OctHdr, h.wf = true → s.octUp = true → (h.version = 1 ∨ h.version = 2) → hdrBad h = false → h.seq = 0 → h.session ≠ 0 →
      h.count = 0 → h.length = 8 → h.payload.length = 8 → h.target = 0 → fieldAt h.payload 2 6 = 0 →
      let v := min (fieldAt h.payload 1 1) (s.get R.OCT_CFG_MAX_VERSION 0)
      let old := s.sess? h.src h.port h.session
      (v < fieldAt h.payload 0 1 ∨ v < 1 →
        ∃ t, Machine.exec (.negotiate h) s = .next t ∧ t.sessions = s.sessions ∧
          t.out = s.out ++ [.oct h.src h.port h.version h.session h.seq 1 octBadVersion 0 0 0 []]) ∧
      (fieldAt h.payload 0 1 ≤ v → 1 ≤ v → old = none → 16 ≤ s.sessions.length →
        ∃ t, Machine.exec (.negotiate h) s = .next t ∧ t.sessions = s.sessions ∧
          t.out = s.out ++ [.oct h.src h.port h.version h.session h.seq 1 octSessionFull 0 0 0 []]) ∧
      (fieldAt h.payload 0 1 ≤ v → 1 ≤ v → (old.isSome = true ∨ s.sessions.length < 16) →
        ∃ t x pay, Machine.exec (.negotiate h) s = .next t ∧ t.sess? h.src h.port h.session = some x ∧ x.version = v ∧ x.next = 1 ∧
          x.held = [] ∧ x.answers = [] ∧ t.out = s.out ++ [.oct h.src h.port v h.session h.seq 1 octOk 0 0 0 pay] ∧
          fieldAt pay 0 1 = v % 256 ∧ t.mem = s.mem)) ∧
    (∀ (h : OctHdr) (x : Sess), s.InTurn 0x02 h x → ∃ t, Machine.exec (.close h) s = .next t ∧
      t = ((s.taken h x).answered 2 h x octOk 0 0 0 []).closeSess h.src h.port h.session ∧
      t.sess? h.src h.port h.session = none) ∧
    (∀ src port id, s.clocked 0 5 = true → src < 2 ^ 128 → port < 65536 → id < 2 ^ 32 →
      ((s.sess? src port id).isSome = true → Machine.exec (.octSessionIdle src port id) s = .next (s.closeSess src port id)) ∧
      (s.sess? src port id = none → Machine.exec (.octSessionIdle src port id) s = .next s)) ∧
    (∀ (h : OctHdr) (x : Sess), s.InTurn 0x50 h x →
      let i := fieldAt h.payload 0 1
      let cls := fieldAt h.payload 1 1
      (i ≤ 7 → cls ≤ 7 → fieldAt h.payload 4 4 = 0 →
        ∃ t, Machine.exec (.subscribe h) s = .next t ∧ t.get R.OCT_SUB_CFG_CLASSES 0 0 i = cls ∧
          t.get R.OCT_SUB_CFG_PORT 0 0 i = fieldAt h.payload 2 2 ∧ t.get R.OCT_SUB_ADDR_HI_ADDR 0 0 i = fieldAt h.payload 8 8 ∧
          t.get R.OCT_SUB_ADDR_LO_ADDR 0 0 i = fieldAt h.payload 16 8 ∧ (cls ≠ 0 → t.get R.OCT_SUB_CFG_SENT 0 0 i = 0) ∧
          t.out = s.out ++ [.oct h.src h.port x.version h.session h.seq 0x50 octOk 0 0 0 []]) ∧
      (7 < i ∨ 7 < cls ∨ fieldAt h.payload 4 4 ≠ 0 →
        Machine.exec (.subscribe h) s = .next ((s.taken h x).answered 0x50 h x octBadHeader 0 0 0 [])))

/-- CSR_READ, CSR_WRITE, MEM_READ, MEM_WRITE and DOORBELL (R378 to R380, R383): reads give the registers in address order, up to the first
that cannot be reached, whose status ends them; a write of one register acts as REGISTER_WRITE does and answers, and a step command that meets a DISCARD_ACCUM under way waits for it (R227); memory is read
or written at its address where it may be reached, else refused; a doorbell of an open context moves its queue's tail. -/
def Obligations.RequestsReachRegistersAndMemory : Prop :=
  ∀ (s : State) (h : OctHdr) (x : Sess),
    let s0 := s.taken h x
    let val (i : Nat) : Nat := (s0.regRead (h.target + 8 * i)).2
    let plain (i : Nat) : Prop := s0.octShut (h.target + 8 * i) = false ∧ s0.accessStatus true (h.target + 8 * i) = 0 ∧
      (s0.regRead (h.target + 8 * i)).1 = s0
    (s.InTurn 0x10 h x →
      ((∀ i, i < h.count → plain i) →
        Machine.exec (.csrRead h) s = .next (s0.answered 0x10 h x octOk 0 0 h.count ((List.range h.count).flatMap (fun i => leBytes 8 (val i))))) ∧
      (∀ j, j < h.count → (∀ i, i < j → plain i) → s0.octShut (h.target + 8 * j) = false →
        s0.accessStatus true (h.target + 8 * j) ≠ 0 →
        Machine.exec (.csrRead h) s = .next (s0.answered 0x10 h x (s0.accessStatus true (h.target + 8 * j)) 0 0 j
          ((List.range j).flatMap (fun i => leBytes 8 (val i)))))) ∧
    (∀ (t : State) (st src d : Nat), s.InTurn 0x11 h x → h.count = 1 → s0.octShut h.target = false →
      (s0.discardHeld h.target = true → Machine.exec (.csrWrite h) s = .next
        { s0 with octBusy := some { op := 0x11, hdr := h, opening := x.opening, aux := 0 } }) ∧
      (s0.discardHeld h.target = false →
       s0.csrStore true h.target (fieldAt h.payload 0 8) (some h.ctx) = (t, st, src, d) → t.Rest → t.pending = s.pending →
      (st = 0 → t.discardHeld h.target = false → Machine.exec (.csrWrite h) s = .next (t.answered 0x11 h x octOk 0 0 1 [])) ∧
      (st = 0 → t.discardHeld h.target = true → Machine.exec (.csrWrite h) s = .next
        { t with octBusy := some { op := 0x11, hdr := h, opening := x.opening, aux := 1 } }) ∧
      (st ≠ 0 → Machine.exec (.csrWrite h) s = .next (t.answered 0x11 h x st src d 0 [])))) ∧
    (s.InTurn 0x14 h x →
      (∀ t data, s0.octMemCheck h.target h.count = (0, 0) → s0.load octWho h.target h.count = (t, .ok data) →
        Machine.exec (.memRead h) s = .next (t.answered 0x14 h x octOk 0 0 h.count data)) ∧
      ((s0.octMemCheck h.target h.count).1 ≠ 0 → Machine.exec (.memRead h) s = .next
        (s0.octMemRefuse { op := 0x14, hdr := h, opening := x.opening } (s0.octMemCheck h.target h.count).1 (s0.octMemCheck h.target h.count).2))) ∧
    (s.InTurn 0x15 h x →
      (s0.octMemCheck h.target h.count = (0, 0) → s0.mem.bad = [] → s0.accumCarve h.target h.count = none →
        s0.judge octWho h.target h.count = 0 →
        ∃ t, Machine.exec (.memWrite h) s = .next t ∧ t.mem.read h.target h.count = h.payload ∧
          (∀ a, a < h.target ∨ h.target + h.count ≤ a → t.mem.byte a = s.mem.byte a) ∧
          t.out = s.out ++ [.oct h.src h.port x.version h.session h.seq 0x15 octOk 0 0 h.count []]) ∧
      ((s0.octMemCheck h.target h.count).1 ≠ 0 → ∃ t, Machine.exec (.memWrite h) s = .next t ∧ t.mem = s.mem)) ∧
    (∀ (r : QRegs) (i : Nat), s.InTurn 0x30 h x → tailAt h.target = some (r, i) → fieldAt h.payload 3 5 = 0 →
      (r.block = 0x61 ∨ h.ctx = i) →
      (63 < h.ctx ∨ s0.ctxOpen h.ctx = false → Machine.exec (.doorbell h) s = .next (s0.answered 0x30 h x octCtxNotOpen 0 0 0 [])) ∧
      (h.ctx ≤ 63 → s0.ctxOpen h.ctx = true → 2 ≤ h.version → fieldAt h.payload 2 1 ≠ s0.ctxGen h.ctx →
        Machine.exec (.doorbell h) s = .next (s0.answered 0x30 h x octStaleGen 0 0 0 [])) ∧
      (∀ t, h.ctx ≤ 63 → s0.ctxOpen h.ctx = true → (h.version < 2 ∨ fieldAt h.payload 2 1 = s0.ctxGen h.ctx) →
        s0.csrStore true h.target (fieldAt h.payload 0 2) (some h.ctx) = (t, 0, 0, 0) →
        Machine.exec (.doorbell h) s = .next (t.answered 0x30 h x octOk 0 0 1 [])))

/-- CTX_OPEN, CTX_CLOSE, CTX_STOP_CONFIRMED, CTX_CLOSED and CTX_DRAIN_LIMIT (R384 to R388): an assigned CLOSED context opens; an OPEN one
closes, its answer owed; confirmed, it drains; with nothing outstanding it is CLOSED, its generation one higher and its queues
disabled; past the limit its work is ended, OUTSTANDING is 0 and ESCALATED is set. -/
def Obligations.ContextsOpenDrainAndClose : Prop :=
  ∀ s : State, s.Rest →
    (∀ (h : OctHdr) (x : Sess),
      let s0 := s.taken h x
      (s.InTurn 0x41 h x → h.ctx ≤ 63 →
        (s0.ctxPart h.ctx = none → Machine.exec (.ctxOpen h) s = .next (s0.answered 0x41 h x octNoPartition 0 0 0 [])) ∧
        ((s0.ctxPart h.ctx).isSome = true → s0.get R.OCT_CTX_STATE 0 0 h.ctx ≠ ctxClosedSt →
          Machine.exec (.ctxOpen h) s = .next (s0.answered 0x41 h x octBadCtxState 0 0 0 [])) ∧
        ((s0.ctxPart h.ctx).isSome = true → s0.get R.OCT_CTX_STATE 0 0 h.ctx = ctxClosedSt →
          Machine.exec (.ctxOpen h) s = .next
            ((s0.put R.OCT_CTX_STATE ctxOpenSt 0 0 h.ctx).answered 0x41 h x octOk 0 0 0 (leBytes 1 (s0.ctxGen h.ctx))))) ∧
      (s.InTurn 0x42 h x → h.ctx ≤ 63 →
        (s0.get R.OCT_CTX_STATE 0 0 h.ctx ≠ ctxOpenSt →
          Machine.exec (.ctxClose h) s = .next (s0.answered 0x42 h x octBadCtxState 0 0 0 [])) ∧
        (s0.get R.OCT_CTX_STATE 0 0 h.ctx = ctxOpenSt →
          ∃ t, Machine.exec (.ctxClose h) s = .next t ∧ t.get R.OCT_CTX_STATE 0 0 h.ctx = ctxClosingSt ∧
            t.octWait = s.octWait ++ [(256 + h.ctx, { op := 0x42, hdr := h, opening := x.opening })]))) ∧
    (∀ c, c < 64 → s.clocked 0 5 = true →
      let st := s.get R.OCT_CTX_STATE 0 0 c
      let n := s.get R.OCT_CTX_OUTSTANDING 0 0 c
      let closed (t : State) : Prop := t.get R.OCT_CTX_STATE 0 0 c = ctxClosedSt ∧ t.ctxGen c = (s.ctxGen c + 1) % 256 ∧
        t.octWait = s.octWait.filter (fun y => y.1 != 256 + c) ∧
        ∀ die m, isComp die = true → m < 32 → t.flag R.MXC_QCFG_ENABLE die m c = false ∧ t.flag R.SPAD_QCFG_ENABLE die m c = false
      (st = ctxClosingSt → s.ctxConfirmable c = true →
        Machine.exec (.ctxStopConfirmed c) s = .next (s.put R.OCT_CTX_STATE ctxDrainingSt 0 0 c)) ∧
      (st ≠ ctxClosingSt ∨ s.ctxConfirmable c = false → Machine.exec (.ctxStopConfirmed c) s = .next s) ∧
      (st ≠ ctxDrainingSt ∨ n ≠ 0 → Machine.exec (.ctxClosed c) s = .next s) ∧
      (st = ctxDrainingSt → n = 0 → ∃ t, Machine.exec (.ctxClosed c) s = .next t ∧ Machine.exec (.ctxDrainLimit c) s = .next t ∧
        closed t ∧ t.mem = s.mem ∧ t.get R.OCT_CTX_ESCALATED 0 0 c = s.get R.OCT_CTX_ESCALATED 0 0 c) ∧
      (st = ctxClosingSt ∨ (st = ctxDrainingSt ∧ n ≠ 0) → ∃ t, Machine.exec (.ctxDrainLimit c) s = .next t ∧ closed t ∧
        t.get R.OCT_CTX_OUTSTANDING 0 0 c = 0 ∧ t.flag R.OCT_CTX_ESCALATED 0 0 c = true) ∧
      (st ≠ ctxClosingSt → st ≠ ctxDrainingSt → Machine.exec (.ctxDrainLimit c) s = .next s))

/-! ### Clocks and the Ethernet port -/

/-- PLL_LOCK_LOST and REFERENCE_LOST (R340 to R342): a running domain whose PLL loses lock stops, with LOCK_LOST set; AON has no PLL.
Without the 100 MHz oscillator every domain fed by it stops and nothing else is held; without the 156.25 MHz one its domains stop,
and with them the link, the peer ports and the seam's ends. -/
def Obligations.ClocksStopWithTheirReferences : Prop :=
  (∀ (s : State) (die k : Nat), s.Rest → s.aon.powered = true → isDie die = true → k < (clkDoms die).length →
    (s.runs die k = true → ¬(die = 0 ∧ k = clkAON) →
      ∃ t, Machine.exec (.pllLockLost die k) s = .next t ∧ t = { s with csr := t.csr, out := t.out } ∧
        s.RegsBut t [R.CLK_DOMAIN, R.MGT_LAST_NOTICE, R.MGT_NOTICES, R.OCT_SUB_CFG, R.OCT_NOTICES, R.ETH_TX_FRAMES] ∧
        t.runs die k = false ∧ t.get R.CLK_DOMAIN_LOCKED die 0 k = 0 ∧ t.flag R.CLK_DOMAIN_LOCK_LOST die 0 k = true) ∧
    (s.runs die k = false ∨ (die = 0 ∧ k = clkAON) → Machine.exec (.pllLockLost die k) s = .next s)) ∧
  (∀ s : State, s.Rest → s.aon.powered = true → s.aon.lost100 = false →
    ∃ t, Machine.exec (.referenceLost 0) s = .next t ∧ t.aon = { s.aon with lost100 := true } ∧ t.mem = s.mem ∧ t.flash = s.flash ∧
      t.held = s.held ∧
      ∀ d k c, isDie d = true → (clkDoms d)[k]? = some c →
        t.get R.CLK_STATUS_REF100 d = 0 ∧ t.runs d k = (if c.src = 0 then false else s.runs d k)) ∧
  (∀ s : State, s.Rest → s.aon.powered = true → s.aon.lost156 = false →
    ∃ t, Machine.exec (.referenceLost 1) s = .next t ∧ t.aon = { s.aon with lost156 := true } ∧ t.mem = s.mem ∧
      t.flag R.ETH_STATUS_LINK_UP 0 = false ∧ t.eth.trying = 0 ∧
      (∀ h, h < 2 → t.get R.CLK_STATUS_REF156 h = 0 ∧ (s.isHeld h = false → t.seamState h = 0)) ∧
      (∀ j, j < 16 → t.flag R.PEER_STATUS_UP (j / 8) j = false) ∧
      ∀ d k c, isDie d = true → (clkDoms d)[k]? = some c → t.runs d k = (if c.src = 1 then false else s.runs d k))

/-- ETH_SPEED_TRY, PCS_LOCK, ETH_LINK_LOSS and ETH_SPEEDS_WRITE (R366, R367): the port tries its enabled speeds from the fastest down,
and again; with PCS lock on every lane of the speed tried the link is up at it; a loss, or a write of SPEEDS, takes the link
down and starts over from the fastest speed enabled, or from none. -/
def Obligations.TheLinkChoosesItsSpeed : Prop :=
  let fastest (speeds lim n : Nat) : Prop :=
    (n = 0 ∨ (n < lim ∧ bit speeds (n - 1) = true)) ∧ ∀ m, n < m → m < lim → bit speeds (m - 1) = false
  (∀ s : State, s.Rest → s.clocked 0 4 = true →
    (s.eth.trying = 0 ∨ s.flag R.ETH_STATUS_LINK_UP 0 = true →
      Machine.exec .ethSpeedTry s = .next s ∧ ∀ lanes, lanes < 256 → Machine.exec (.pcsLock lanes) s = .next s) ∧
    (s.eth.trying ≠ 0 → s.flag R.ETH_STATUS_LINK_UP 0 = false →
      (∀ n, n ≠ 0 → fastest (s.speeds) s.eth.trying n → Machine.exec .ethSpeedTry s = .next
        { s.put R.ETH_STATUS_LANES_LOCKED 0 0 with eth := { s.eth with trying := n } }) ∧
      (∀ n, fastest (s.speeds) s.eth.trying 0 → fastest (s.speeds) 4 n → Machine.exec .ethSpeedTry s = .next
        { s.put R.ETH_STATUS_LANES_LOCKED 0 0 with eth := { s.eth with trying := n } }) ∧
      ∀ lanes, lanes < 256 →
        let want := if s.eth.trying = 1 then 0x0F else 0xFF
        (lanes &&& want = want → Machine.exec (.pcsLock lanes) s = .next
          (((s.put R.ETH_STATUS_LANES_LOCKED want 0).put R.ETH_STATUS_SPEED s.eth.trying 0).put R.ETH_STATUS_LINK_UP 1 0)) ∧
        (lanes &&& want ≠ want → Machine.exec (.pcsLock lanes) s = .next (s.put R.ETH_STATUS_LANES_LOCKED (lanes &&& want) 0)))) ∧
  (∀ s : State, s.Rest → s.aon.powered = true → s.isHeld 0 = false →
    (s.flag R.ETH_STATUS_LINK_UP 0 = false → Machine.exec .ethLinkLoss s = .next s) ∧
    (s.flag R.ETH_STATUS_LINK_UP 0 = true →
      ∃ t, Machine.exec .ethLinkLoss s = .next t ∧ t = { s with csr := t.csr, eth := { s.eth with trying := t.eth.trying } } ∧
        s.RegsBut t [R.ETH_ERROR, R.ETH_STATUS] ∧ t.flag R.ETH_ERROR_LINK_DOWN 0 = true ∧ t.flag R.ETH_STATUS_LINK_UP 0 = false ∧
        t.get R.ETH_STATUS_SPEED 0 = 0 ∧ t.get R.ETH_STATUS_LANES_LOCKED 0 = 0 ∧ fastest (s.speeds) 4 t.eth.trying) ∧
    (∀ v, v < 8 → ∃ t, Machine.exec (.ethSpeedsWrite v) s = .next t ∧
        t = { s with csr := t.csr, eth := { s.eth with trying := t.eth.trying } } ∧ s.RegsBut t [R.ETH_CFG, R.ETH_STATUS] ∧
        t.get R.ETH_CFG_SPEEDS 0 = v ∧ t.flag R.ETH_STATUS_LINK_UP 0 = false ∧ fastest v 4 t.eth.trying))

/-- ETH_RX_FRAME, PFC_RX, PFC_REFRESH and PAUSE_QUANTA_EXPIRE (R368, R369, R375): a frame longer than the MTU, or with extension
headers, is discarded and counted; ARP, neighbour and echo requests to the port's own addresses are answered; a datagram to port
50200 acts as the request that it carries, one to port 4791 as its packet. PFC pauses, and quanta of 0 or their end resume, the
priorities enabled, and what is asserted is sent again. -/
def Obligations.FramesAreReceived : Prop :=
  ∀ s : State, s.Rest → s.clocked 0 4 = true → s.flag R.ETH_STATUS_LINK_UP 0 = true →
    (∀ f : EthFrame, f.wf = true →
      let seen := s.put R.ETH_RX_FRAMES_COUNT (s.get R.ETH_RX_FRAMES_COUNT 0 + 1) 0
      let fits := f.len ≤ (if s.flag R.ETH_CFG_MTU 0 then 9000 else 1500) ∧ f.exts = false
      (¬fits → Machine.exec (.ethRxFrame f) s = .next (seen.put R.ETH_DISCARDS_COUNT (s.get R.ETH_DISCARDS_COUNT 0 + 1) 0)) ∧
      (∀ kind reply, fits → f.kind = kind →
        (kind = 0 ∧ reply = [] ∧ s.flag R.ETH_IP4_VALID 0 = true ∧ f.dst = v4Mapped (s.get R.ETH_IP4_ADDR 0)) ∨
        (kind = 1 ∧ reply = [] ∧ s.ownAddr f.dst = true ∧ f.dst / 2 ^ 32 ≠ 0xFFFF) ∨
        ((kind = 2 ∨ kind = 3) ∧ reply = f.payload ∧ s.ownAddr f.dst = true) →
        Machine.exec (.ethRxFrame f) s = .next (seen.send (.eth (20 + kind) [s.get R.ETH_MAC_MAC 0, f.dst, f.src] reply))) ∧
      (fits → f.kind = 4 → s.ownAddr f.dst = false → Machine.exec (.ethRxFrame f) s = .next seen) ∧
      (∀ h, fits → f.kind = 4 → s.ownAddr f.dst = true → f.dstPort = 50200 → octParse f = some (0x14, h) → h.wf = true →
        s.octUp = true → Machine.exec (.ethRxFrame f) s = Machine.exec (.memRead h) s) ∧
      (∀ p, fits → f.kind = 4 → s.ownAddr f.dst = true → f.dstPort = 4791 → f.rdma = some p →
        Machine.exec (.ethRxFrame f) s =
          if (s.qp p.qp).kind = 1 then Machine.exec (.reservoirPacket p) s else Machine.exec (.rdmaPacketRx p) s)) ∧
    (∀ prios quanta, (Instr.pfcRx prios quanta).wf = true →
      ∃ t, Machine.exec (.pfcRx prios quanta) s = .next t ∧ t = { s with csr := t.csr, eth := { s.eth with pauses := t.eth.pauses } } ∧
        s.RegsBut t [R.ETH_PFC_RX, R.ETH_RX_FRAMES] ∧ t.get R.ETH_PFC_RX_COUNT 0 = (s.get R.ETH_PFC_RX_COUNT 0 + 1) % 2 ^ R.ETH_PFC_RX_COUNT.width ∧
        ∀ i, i < 8 →
          (bit prios i = true → bit (s.get R.ETH_CFG_PFC_RX 0) i = true →
            nfind i t.eth.pauses = if nth quanta i 0 = 0 then none else some (nth quanta i 0)) ∧
          (bit prios i = false ∨ bit (s.get R.ETH_CFG_PFC_RX 0) i = false → nfind i t.eth.pauses = nfind i s.eth.pauses)) ∧
    (∀ prio, prio < 8 → ∃ t, Machine.exec (.pauseQuantaExpire prio) s = .next t ∧
      t = { s with eth := { s.eth with pauses := t.eth.pauses } } ∧
      ∀ i, nfind i t.eth.pauses = if i = prio then none else nfind i s.eth.pauses) ∧
    ∃ t, Machine.exec .pfcRefresh s = .next t ∧ t = { s with csr := t.csr, out := t.out } ∧ s.RegsBut t [R.ETH_PFC_TX, R.ETH_TX_FRAMES] ∧
      t.out = s.out ++ s.pfcMask.map (fun p => .eth 0 [p, 0xFFFF] [])

/-- QP_LOAD, QP_TO_ERROR, QP_TO_RESET, NAK_RECEIVED and RDMA_ACK_TIMEOUT (R371, R374): a queue pair in RESET loads its entry and is
READY, or stays in RESET with the cause where the entry is bad; commands take it to ERROR or RESET; a far-spill queue pair retries
until its retries are spent, then, as on a NAK, it is in ERROR with the cause. -/
def Obligations.QueuePairsLoadAndFail : Prop :=
  ∀ (s : State) (q : Nat), s.Rest → q < 4096 → s.aon.powered = true → s.isHeld 0 = false →
    (s.qpState q ≠ 0 → Machine.exec (.qpLoad q) s = .next s) ∧
    (∀ e, s.qpState q = 0 → (s.load { die := 0, part := none } (s.get R.RDMA_QPT_BASE 0 + 64 * q) 64).2 = .ok e → fieldAt e 0 1 ≠ 0 →
      (s.qpBad e = true → ∃ t, Machine.exec (.qpLoad q) s = .next t ∧ t.qpState q = 0 ∧ t.get R.RDMA_QP_CAUSE 0 0 q = 1 ∧
        t = { s with csr := t.csr }) ∧
      (s.qpBad e = false → ∃ t, Machine.exec (.qpLoad q) s = .next t ∧ t.qpState q = 1 ∧ t.get R.RDMA_QP_CAUSE 0 0 q = 0 ∧
        t = { s with csr := t.csr, qps := t.qps } ∧ t.qp q = { entry := e, sq := fieldAt e 8 3, rq := fieldAt e 0xC 3 } ∧
        ∀ p, p ≠ q → t.qp p = s.qp p)) ∧
    ((s.qp q).inMsg = false →
      (∃ t, Machine.exec (.qpToError q) s = .next t ∧ s.AgreeBut { t with qps := s.qps } [R.RDMA_QP.addr 0 0 q] ∧ t.qpState q = 2 ∧
        ∀ p, t.qp p = s.qp p) ∧
      (∃ t, Machine.exec (.qpToReset q) s = .next t ∧ s.AgreeBut { t with qps := s.qps } [R.RDMA_QP.addr 0 0 q] ∧ t.qpState q = 0 ∧
        t.qp q = {} ∧ ∀ p, p ≠ q → t.qp p = s.qp p)) ∧
    (s.clocked 0 4 = true → (s.qp q).kind = 3 → s.qpState q = 1 →
      (s.flag R.ETH_STATUS_LINK_UP 0 = true → ∃ t, Machine.exec (.nakReceived q) s = .next t ∧ t.qpState q = 2 ∧
        t.get R.RDMA_QP_CAUSE 0 0 q = 3 ∧ t.mem = s.mem) ∧
      (s.farBusy q = false → Machine.exec (.rdmaAckTimeout q) s = .next s) ∧
      (s.farBusy q = true → (s.qp q).retries < (s.qp q).retry → Machine.exec (.rdmaAckTimeout q) s = .next
        ((s.putQp q { s.qp q with retries := (s.qp q).retries + 1 }).put R.RDMA_RETRIES_COUNT (s.get R.RDMA_RETRIES_COUNT 0 + 1) 0)) ∧
      (s.farBusy q = true → (s.qp q).retry ≤ (s.qp q).retries → ∃ t, Machine.exec (.rdmaAckTimeout q) s = .next t ∧ t.qpState q = 2 ∧
        t.get R.RDMA_QP_CAUSE 0 0 q = 2 ∧ t.mem = s.mem))

/-- RDMA_PACKET_RX, RDMA_CNP_RX and RDMA_RATE_RECOVER (R372, R373): to a READY MEMORY queue pair, the packet expected, a WRITE of one
packet lands and is acknowledged, and a READ is answered with the bytes; a wrong R_Key, or an access that may not be made, is
refused with a NAK and the queue pair is in ERROR. A CNP cuts its rate to 7/8, and 1/16 of the line rate comes back at a time. -/
def Obligations.QueuePairsServeTheHost : Prop :=
  ∀ s : State, s.Rest → s.clocked 0 4 = true → s.flag R.ETH_STATUS_LINK_UP 0 = true →
    (∀ p : RdmaPkt, p.wf = true → p.qp < 4096 → p.ce = false →
      let x := s.qp p.qp
      let a := x.base + p.va
      s.qpState p.qp = 1 → x.kind = 2 → x.rq < 2 ^ 24 → p.psn = x.rq → (x.ctx < 64 → s.ctxOpen x.ctx = true) →
      p.op = 2 ∨ (p.op = 1 ∧ p.first = true) →
      (p.rkey ≠ x.rkey ∨ x.size < p.va + p.len →
        ∃ t, Machine.exec (.rdmaPacketRx p) s = .next t ∧ t.mem = s.mem ∧ t.qpState p.qp = 2 ∧ t.get R.RDMA_QP_CAUSE 0 0 p.qp = 5 ∧
          t.out = s.out ++ [.eth 6 [p.qp, p.psn, nakAccess] []]) ∧
      (p.rkey = x.rkey → p.va + p.len ≤ x.size → s.rdmaJudge x a p.len ≠ 0 →
        ∃ t, Machine.exec (.rdmaPacketRx p) s = .next t ∧ t.mem = s.mem ∧ t.qpState p.qp = 2 ∧ t.get R.RDMA_QP_CAUSE 0 0 p.qp = 5) ∧
      (p.rkey = x.rkey → p.va + p.len ≤ x.size → s.rdmaJudge x a p.len = 0 → s.reach (addrDie a) = true →
        s.mem.bad = [] →
        (p.op = 1 → p.last = true → p.data.length = p.len → p.len ≠ 0 → s.accumCarve a p.len = none →
          ∃ t, Machine.exec (.rdmaPacketRx p) s = .next t ∧ t.mem.read a p.len = p.data ∧
            (∀ b, b < a ∨ a + p.len ≤ b → t.mem.byte b = s.mem.byte b) ∧ t.qp p.qp = { t.qp p.qp with rq := (x.rq + 1) % 2 ^ 24 } ∧
            t.qpState p.qp = 1 ∧ t.out = s.out ++ [.eth 5 [p.qp, p.psn] []]) ∧
        (p.op = 2 →
          ∃ t, Machine.exec (.rdmaPacketRx p) s = .next t ∧ t.mem = s.mem ∧ t.qpState p.qp = 1 ∧
            t.qp p.qp = { x with rq := (x.rq + max 1 ((p.len + x.pmtu - 1) / x.pmtu)) % 2 ^ 24 } ∧
            t.out = s.out ++ [.eth 8 [p.qp, p.psn] (s.mem.read a p.len)]))) ∧
    (∀ q, q < 4096 → s.qpState q ≠ 0 →
      let x := s.qp q
      (s.cnpDue s.cnpCut q = true → ∃ t, Machine.exec (.rdmaCnpRx q) s = .next t ∧
        t.qp q = { x with rateNum := x.rateNum * 7, rateDen := x.rateDen * 8 } ∧ t.mem = s.mem ∧ t.out = s.out ∧
        t.get R.RDMA_CNP_RX_COUNT 0 = (s.get R.RDMA_CNP_RX_COUNT 0 + 1) % 2 ^ R.RDMA_CNP_RX_COUNT.width) ∧
      (s.cnpDue s.cnpCut q = false → ∃ t, Machine.exec (.rdmaCnpRx q) s = .next t ∧ t = { s with csr := t.csr } ∧
        s.RegsBut t [R.RDMA_CNP_RX, R.ETH_RX_FRAMES]) ∧
      (x.rateDen * 15 ≤ x.rateNum * 16 → Machine.exec (.rdmaRateRecover q) s = .next (s.putQp q { x with rateNum := 1, rateDen := 1 })) ∧
      (x.rateNum * 16 < x.rateDen * 15 → Machine.exec (.rdmaRateRecover q) s = .next
        (s.putQp q { x with rateNum := 16 * x.rateNum + x.rateDen, rateDen := 16 * x.rateDen })))

/-! ### Attestation and installation (R393 to R404) -/

/-- ATTEST_IDENTITY and ATTEST_REPORT (R401 to R403): where the destination is aligned and may be written and an index is left, the
identity, or a report with its two signatures, is written there; a report spends its index in both copies first. Else the
request is refused and nothing is written or spent.
INSTALL_FW, INSTALL_STREAM, PREFER, RAISE_SVN and INSTALL_BACKGROUND_DONE (R396 to R400): an install of what passes its first checks is
taken up and ends in its slot, or leaves the slot erased; PREFER names a slot whose image verifies; RAISE_SVN blows the fuses up to
the running firmware's number. What may not be done is refused with its status, and flash and fuses stand. -/
def Obligations.AttestationAndInstalls : Prop :=
  (∀ (s : State) (h : OctHdr) (x : Sess) (kind : Nat), kind = 1 ∨ kind = 2 →
     let g := withFirst h kind
     let c := if kind = 1 then Instr.attestIdentity h else .attestReport h
     let s0 := s.taken g x
     let answer (st src detail n : Nat) : Out := .oct h.src h.port x.version h.session h.seq 0x60 st src detail n []
     s.InTurn 0x60 g x → fieldAt h.payload 1 7 = 0 →
     (h.target % 64 ≠ 0 ∨ s0.octWritable h.target 8192 = false →
       ∃ t, Machine.exec c s = .next t ∧ t.mem = s.mem ∧ t.flash = s.flash ∧ t.out = s.out ++ [answer octRefused 5 secBadDest 0]) ∧
     (h.target % 64 = 0 → s0.octWritable h.target 8192 = true → 2 ^ 40 ≤ s.flash.lms0 →
       ∃ t, Machine.exec c s = .next t ∧ t.mem = s.mem ∧ t.flash = s.flash ∧ t.out = s.out ++ [answer octRefused 5 secExhausted 0]) ∧
     (h.target % 64 = 0 → s0.octWritable h.target 8192 = true → s.flash.lms0 < 2 ^ 40 → s.mem.bad = [] →
       s0.accumCarve h.target 8192 = none →
       let n := s.flash.lms0
       let body := s0.report (h.payload.drop 8) n
       let data := if kind = 1 then (Config.device 2).take 8192
         else body ++ fit 96 (Config.sign 0 n (sha384 body)) ++ fit 3604 (Config.sign 1 n body)
       ∃ t, Machine.exec c s = .next t ∧ t.mem.read h.target data.length = data ∧
         (∀ b, b < h.target ∨ h.target + data.length ≤ b → t.mem.byte b = s.mem.byte b) ∧
         t.flash = (if kind = 1 then s.flash else { s.flash with lms0 := n + 1, lms1 := n + 1 }) ∧
         t.out = s.out ++ [answer octOk 0 0 data.length])) ∧
  ((∀ (s : State) (h : OctHdr) (x : Sess) (k : Nat),
     let g := withTarget h k
     let s0 := s.taken g x
     let slot := fieldAt h.payload 0 1
     let tells (c : Instr) (t : State) (st src detail : Nat) : Prop :=
       Machine.exec c s = .next t ∧ t.mem = s.mem ∧
         t.out = s.out ++ [.oct h.src h.port x.version h.session h.seq 0x61 st src detail 0 []]
     s.InTurn 0x61 g x → fieldAt h.payload 1 7 = 0 → slot = 1 ∨ slot = 2 → h.count = 0 →
     (∀ c, (k = 1 ∧ c = .installFw h) ∨ (k = 2 ∧ c = .installStream h) ∨ (k = 3 ∧ c = .prefer h) ∨ (k = 4 ∧ c = .raiseSvn h) →
       s.install.isSome = true → ∃ t, tells c t octRefused 5 secBusy ∧ t.flash = s.flash ∧ t.install = s.install) ∧
     (k = 1 → s.install = none →
       let b := s.mem.read stagingBase (manifestLen + min imageMax (leVal (s.mem.read (stagingBase + 0xC) 4)))
       let st := if slot = s.get R.SEC_STATUS_FW_SLOT 0 then secActive
         else if imageForm (s.get R.ID_PART_PART 0) b = false then secBadImage
         else if imgSvn b < s.flash.fuses then secRollback else 0
       (st ≠ 0 → ∃ t, tells (.installFw h) t octRefused 5 st ∧ t.flash = s.flash ∧ t.install = none) ∧
       (st = 0 → ∃ t, tells (.installFw h) t octOk 0 0 ∧ t.flash = s.flash ∧ t.install = some { op := 1, slot := slot, bytes := b } ∧
         t.get R.SEC_FW_STATUS_STATE 0 = 1)) ∧
     (k = 2 → s.install = none →
       (∀ f, s0.validate s0.staged none = .error f → ∃ t, tells (.installStream h) t octRefused 5 secStream ∧ t.flash = s.flash ∧
         t.install = none) ∧
       (∀ l, s0.validate s0.staged none = .ok l → ∃ t, tells (.installStream h) t octOk 0 0 ∧ t.flash = s.flash ∧
         t.install = some { op := 2, slot := slot, bytes := l.bytes } ∧ t.get R.SEC_FW_STATUS_STATE 0 = 2)) ∧
     (k = 3 → s.install = none →
       (s0.verifyImage (s.fwSlot slot) ≠ 0 → ∃ t, tells (.prefer h) t octRefused 5 secBadImage ∧ t.flash = s.flash) ∧
       (s0.verifyImage (s.fwSlot slot) = 0 → ∃ t, tells (.prefer h) t octOk 0 0 ∧
         t.flash = { s.flash with boot0 := (slot, s.bootRec.2), boot1 := (slot, s.bootRec.2) } ∧ t.get R.SEC_STATUS_PREFERRED 0 = slot)) ∧
     (k = 4 → s.install = none →
       (min s.aon.fwSvn 64 ≤ s.flash.fuses → ∃ t, tells (.raiseSvn h) t octRefused 5 secBadOp ∧ t.flash = s.flash) ∧
       (s.flash.fuses < min s.aon.fwSvn 64 → ∃ t, tells (.raiseSvn h) t octOk 0 0 ∧
         t.flash = { s.flash with fuses := min s.aon.fwSvn 64 } ∧ t.get R.SEC_STATUS_MIN_SVN 0 = min s.aon.fwSvn 64))) ∧
   (∀ (s : State) (ok : Bool), s.Rest → s.clocked 0 5 = true →
     (s.install = none → Machine.exec (.installBackgroundDone ok) s = .next s) ∧
     (∀ i, s.install = some i →
       let st := if i.op = 1 ∧ imageSigned i.bytes ≠ 0 then imageSigned i.bytes else if ok then 0 else secFlash
       ∃ t, Machine.exec (.installBackgroundDone ok) s = .next t ∧ t.install = none ∧ t.get R.SEC_FW_STATUS_STATE 0 = 0 ∧
         t.get R.SEC_FW_STATUS_LAST_STATUS 0 = st ∧ t.mem = s.mem ∧
         t.flash = (let b := if st = 0 then i.bytes else []
           if i.op = 1 then (s.putFwSlot i.slot b).flash else (s.putStrSlot i.slot b).flash) ∧
         (st = 0 → t.get R.SEC_INSTALLS_COUNT 0 = (s.get R.SEC_INSTALLS_COUNT 0 + 1) % 2 ^ R.SEC_INSTALLS_COUNT.width) ∧
         (st ≠ 0 → t.flag R.SEC_ERROR_FW_FAIL 0 = true))))

/-! ### Daybreak (R407 to R419) -/

/-- DAYBREAK_STEP_COMPLETE up to the clocks (R397, R401, R408 to R410, R412): each step ends once it may, with its work done:
MGMT's clock; a firmware slot that verifies booted, or recovery; the first stream source that is valid applied, or the wait for
the staging buffer; the clocks of every die that has not failed. -/
def Obligations.DaybreakLoadsFirmwareAndStream : Prop :=
  ∀ s : State, s.Rest →
    (∀ fails, s.atStep s.aon.step = false ∨ s.stepReady = false → Machine.exec (.daybreakStepComplete fails) s = .next s) ∧
    (s.atStep 1 = true → Machine.exec (.daybreakStepComplete []) s = .next
      { s.put R.PWR_STATUS_POWERED 1 0 with aon := { s.aon with step := 2 } }) ∧
    (s.atStep 2 = true → s.aon.lost100 = false →
      ∃ t, Machine.exec (.daybreakStepComplete []) s = .next t ∧ t.aon = { s.aon with step := 3 } ∧ t.runs 0 5 = true ∧
        t.get R.STREAM_DAYBREAK_STEP 0 = 3 ∧ t.mem = s.mem ∧ t.flash = s.flash ∧
        t.out = s.out ++ (if s.aon.mode then [] else [.j20 0 (Config.device 3)])) ∧
    (s.atStep 3 = true → s.recovery = false →
      (s.bootSlot = 0 → ∃ t, Machine.exec (.daybreakStepComplete []) s = .next t ∧ t.aon = s.aon ∧ t.recovery = true ∧ t.mem = s.mem ∧
        t.flash = s.flash ∧ t.eth.announcing = 3) ∧
      (∀ n, s.bootSlot = n → n ≠ 0 → ∃ t, Machine.exec (.daybreakStepComplete []) s = .next t ∧ t.aon.step = 4 ∧ t.mem = s.mem ∧
        t.get R.SEC_STATUS_FW_SLOT 0 = n ∧ s.verifyImage (s.fwSlot n) = 0 ∧ t.aon.fwSvn = imgSvn (s.fwSlot n) ∧
        t.flash.boot0 = (s.bootRec.1, (s.bootRec.2 + 1) % 2 ^ 32) ∧ t.flash.boot1 = t.flash.boot0 ∧
        t.flash.lms0 = max s.flash.lms0 s.flash.lms1 + 1024 ∧ t.flash.lms1 = t.flash.lms0)) ∧
    (let applied (t : State) (l : Loaded) (source : Nat) : Prop := t.aon.step = 5 ∧ t.active = l.bytes ∧ t.waiting = false ∧
       t.get R.STREAM_STATUS_SOURCE 0 = source ∧ t.get R.STREAM_STATUS_STREAM_ID 0 = l.id % 2 ^ 32 ∧
       t.flag R.STREAM_STATUS_GLOBAL_APPLIED 0 = true
     (s.atStep 4 = true → s.waiting = false →
       let failed (f : SFail) : State := ({ s with aon := { s.aon with sourceFailed := true } } : State).streamError f
       (∀ n rest l, s.sourcesTried = n :: rest → s.validate (s.strSlot n) none = .ok l →
         ∃ t, Machine.exec (.daybreakStepComplete []) s = .next t ∧ applied t l n) ∧
       (∀ n m f l, s.sourcesTried = [n, m] → s.validate (s.strSlot n) none = .error f → (failed f).validate (s.strSlot m) none = .ok l →
         ∃ t, Machine.exec (.daybreakStepComplete []) s = .next t ∧ applied t l m ∧ t.aon.sourceFailed = true) ∧
       (s.sourcesTried = [] ∨ (∃ n f, s.sourcesTried = [n] ∧ s.validate (s.strSlot n) none = .error f) →
         ∃ t, Machine.exec (.daybreakStepComplete []) s = .next t ∧ t.waiting = true ∧ t.aon.step = 4 ∧ t.mem = s.mem ∧
           t.active = s.active ∧ t.eth.announcing = 2))) ∧
    (s.atStep 5 = true → s.aon.lost156 = false → s.aon.lost100 = false → s.power.tripped = [] → (∀ d, isDie d = true → s.dieFailed d = false) →
      ∃ t, Machine.exec (.daybreakStepComplete []) s = .next t ∧ t.aon = { s.aon with step := 6 } ∧ t.region 0 = 0 ∧ t.mem = s.mem ∧
        ∀ d, isDie d = true → t.isHeld d = false ∧ t.flag R.PWR_STATUS_POWERED d = true ∧
          ∀ k, k < (clkDoms d).length → s.domainOut d k = false → t.runs d k = true)

/-- DAYBREAK_STEP_COMPLETE from the weaves on, the limits of the steps, and ANNOUNCE_REPEAT (R413 to R417): stacks train and home DRAM is
written with zero, a die with a failed stack is held; links up end their steps; step 11 issues REGION_START for the
regions, in order, and once each has been seen through it announces. A unit
that fails at a limit is held with its region FAILED and DEGRADED set, and the sequence goes on. -/
def Obligations.DaybreakBringsUpTheModule : Prop :=
  ∀ s : State, s.Rest →
    let enters (n : Nat) : State := ({ s with aon := { s.aon with step := n } } : State).put R.STREAM_DAYBREAK_STEP n 0
    let failed (d step : Nat) (t : State) : Prop := t.isHeld d = true ∧ t.region (if d = 1 then 2 else d) = 5 ∧
      t.flag R.STREAM_DAYBREAK_DEGRADED 0 = true ∧
      (s.get R.STREAM_DAYBREAK_FIRST_FAIL 0 = 0 → t.get R.STREAM_DAYBREAK_FIRST_FAIL 0 = step)
    (s.atStep 6 = true → (∀ d, isComp d = true → s.isHeld d = true ∨ s.weaveUp d = true) →
      Machine.exec (.daybreakStepComplete []) s = .next (enters 7)) ∧
    (∀ fails, s.atStep 7 = true → (Instr.daybreakStepComplete fails).wf = true →
      ∃ t, Machine.exec (.daybreakStepComplete fails) s = .next t ∧ t.aon = { s.aon with step := 8 } ∧
        ∀ d, isComp d = true → s.isHeld d = false → s.excluded d = false →
          (∀ a, addrDie a = d → a < 2 ^ 48 → addrOff a < s.homeSize d → t.mem.byte a = 0) ∧
          (∀ i ∈ s.stacks d, t.get R.HBMC_STATUS_TRAINED d i = if (d, i) ∈ fails then 0 else 1) ∧
          ((∃ i ∈ s.stacks d, (d, i) ∈ fails) → failed d 7 t) ∧
          ((∀ i ∈ s.stacks d, (d, i) ∉ fails) → t.isHeld d = false ∧ t.region d = s.region d)) ∧
    (s.atStep 8 = true → s.seamTrained = true → Machine.exec (.daybreakStepComplete []) s = .next
      ((if s.seamState 0 = 5 ∨ s.seamState 1 = 5 then s.put R.STREAM_DAYBREAK_DEGRADED 1 0 else s).enterStep 9)) ∧
    (s.atStep 9 = true → s.portsUp = true → Machine.exec (.daybreakStepComplete []) s = Machine.exec .peerStepTimeout s) ∧
    (s.atStep 9 = true → ∃ t, Machine.exec .peerStepTimeout s = .next t ∧ t = { enters 10 with eth := { s.eth with trying := t.eth.trying } } ∧
      (s.flag R.ETH_STATUS_LINK_UP 0 = true → t.eth.trying = s.eth.trying)) ∧
    (s.atStep 10 = true →
      let t := (enters 11).issueStarts startOrder
      Machine.exec .ethStepTimeout s = .next t ∧
      (s.flag R.ETH_STATUS_LINK_UP 0 = true → Machine.exec (.daybreakStepComplete []) s = .next t) ∧
      (s.starts = [] → s.region 1 = 2 → t.region 1 = 4 ∧ t.starts = startOrder)) ∧
    (s.atStep 11 = true → s.starts ≠ [] → Machine.exec (.daybreakStepComplete []) s = .next s) ∧
    (s.atStep 11 = true → s.starts = [] → ∃ t, Machine.exec (.daybreakStepComplete []) s = .next t ∧ t.daybreakDone = true ∧
      t.aon = s.aon ∧ t.eth.announcing = 1 ∧ ∀ c, t.region c = s.region c) ∧
    (s.aon.powered = true →
      (∀ d k, isDie d = true → k < 16 →
        (s.atStep 5 = false ∨ (clkDoms d).length ≤ k ∨ s.domainOut d k = true ∨ (d = 0 ∧ (k = 5 ∨ k = clkAON)) →
          Machine.exec (.pllLockTimeout d k) s = .next s) ∧
        (s.atStep 5 = true → k < (clkDoms d).length → s.domainOut d k = false → d ≠ 0 →
          ∃ t, Machine.exec (.pllLockTimeout d k) s = .next t ∧ failed d 5 t ∧ t.flag R.CLK_DOMAIN_LOCK_LOST d 0 k = true) ∧
        (s.atStep 5 = true → d = 0 → k < 5 → ∃ t, Machine.exec (.pllLockTimeout d k) s = .next t ∧ t.aon = { s.aon with stopped := true } ∧
          t.flag R.CLK_DOMAIN_LOCK_LOST 0 0 k = true ∧ t.flag R.ETH_STATUS_LINK_UP 0 = false)) ∧
      (∀ d, isComp d = true →
        (s.atStep 6 = false ∨ s.isHeld d = true ∨ s.weaveUp d = true → Machine.exec (.weaveStepTimeout d) s = .next s) ∧
        (s.atStep 6 = true → s.isHeld d = false → s.weaveUp d = false →
          ∃ t, Machine.exec (.weaveStepTimeout d) s = .next t ∧ failed d 6 t ∧ t.mem = s.mem)) ∧
      (s.atStep 8 = false ∨ s.seamTrained = true → Machine.exec .seamWaitTimeout s = .next s) ∧
      (s.atStep 8 = true → s.seamTrained = false → ∃ t, Machine.exec .seamWaitTimeout s = .next t ∧ t.aon.step = 9 ∧
        t.held = s.held ∧ t.flag R.STREAM_DAYBREAK_DEGRADED 0 = true ∧
        ∀ c ∈ [2, 0x11, 6, 7], t.region c = 5 ∧ t.get R.STREAM_REGION_LAST_STATUS 0 0 c = 0x1B)) ∧
    (s.clocked 0 5 = true →
      (s.eth.announcing = 0 ∨ s.flag R.ETH_STATUS_LINK_UP 0 = false → Machine.exec .announceRepeat s = .next s) ∧
      (s.eth.announcing ≠ 0 → s.flag R.ETH_STATUS_LINK_UP 0 = true → ∃ t, Machine.exec .announceRepeat s = .next t ∧
        t.eth = { s.eth with announced := s.eth.announced + 1 } ∧ ∃ body, t.out = s.out ++
          [.announce (s.eth.announced + 1) s.eth.announcing (leBytes 1 4 ++ leBytes 1 s.eth.announcing ++ leBytes 1 0 ++ leBytes 1 0xFF ++
            leBytes 4 0 ++ body)]))

/-! ### Hangs, resets and recovery (R420 to R437) -/

/-- WATCHDOG_EXPIRE (R427, R428): a watched unit that hangs is noted, counted and, where the policy
lets the module act, reset; one already in hand, unwatched, or with no limit is left alone.
QUARANTINE_TURN_END and REPLAY_WINDOW_EXPIRE (R436): once the suspect served has nothing left, or its window has passed, the next
has its turn; after the last quarantine ends without recurrence. While work of the suspect is left its turn goes on. -/
def Obligations.HangsAndQuarantine : Prop :=
  (∀ (s : State) (die block inst : Nat), s.Rest → (Instr.watchdogExpire die block inst).wf = true → s.aon.powered = true →
     let idle := s.get R.RST_WDOG_LIMIT die = 0 ∨ s.watched die block inst = false ∨ s.unitHeld die block inst = true ∨ s.isHeld die = true
     (idle → Machine.exec (.watchdogExpire die block inst) s = .next s) ∧
     (¬idle → s.resets = [] → s.dump = none →
       let mask := ctxMask (s.unitCtxs die block inst)
       ∃ t, Machine.exec (.watchdogExpire die block inst) s = .next t ∧ t.hung = s.hung ++ [(die, block, inst, mask)] ∧
         t.flag R.RST_HANG_VALID die = true ∧ t.get R.RST_HANGS_COUNT die = (s.get R.RST_HANGS_COUNT die + 1) % 2 ^ R.RST_HANGS_COUNT.width ∧
         (s.flag R.RST_HANG_VALID die = false → t.get R.RST_HANG_BLOCK die = block ∧ t.get R.RST_HANG_INSTANCE die = inst) ∧
         (s.flag R.RST_HANG_VALID die = true → t.flag R.RST_HANG_MORE die = true) ∧
         (s.get R.RST_POLICY_MAX_AUTO 0 = 0 → t.resets = []) ∧
         (s.get R.RST_POLICY_MAX_AUTO 0 ≠ 0 → ∃ r, t.resets = [r] ∧ r.domain = 1 ∧ r.die = die ∧ r.block = block ∧ r.inst = inst ∧
           r.auto = true ∧ (r.stage = 1 ∨ r.stage = 2) ∧ (block, inst) ∈ r.units))) ∧
  (∀ (s : State) (x : Quar) (c : Nat) (rest : List Nat), s.Rest → s.aon.powered = true → s.quars = [x] → isDie x.die = true →
     x.inst < 4096 → x.left = c :: rest →
     (s.quarIdle x c = false → Machine.exec (.quarantineTurnEnd x.die x.inst) s = .next s) ∧
     (s.quarIdle x c = true → Machine.exec (.quarantineTurnEnd x.die x.inst) s = Machine.exec (.replayWindowExpire x.die x.inst) s) ∧
     (∀ d l, rest = d :: l → d < 64 → ∃ t, Machine.exec (.replayWindowExpire x.die x.inst) s = .next t ∧
       t = { s with csr := t.csr, quars := [{ x with left := d :: l }] } ∧ t.get R.RST_REPLAY_STATE x.die = 1 ∧
       t.get R.RST_REPLAY_CURRENT x.die = d ∧ t.get R.RST_REPLAY_RESULT x.die = 0) ∧
     (rest = [] → ∃ t, Machine.exec (.replayWindowExpire x.die x.inst) s = .next t ∧ t = { s with csr := t.csr, out := t.out, quars := [] } ∧
       t.get R.RST_REPLAY_STATE x.die = 2 ∧ t.get R.RST_REPLAY_RESULT x.die = 2))

/-- RESET_ENGINE, RESET_DIE, RESET_HALF and RESET_MODULE (R430, R433): a request that fails a check is refused with the status of the
first; one that passes is answered and begins, with its dump where one is asked for and fits, else with its dusk. -/
def Obligations.ResetRequestsBegin : Prop :=
  ∀ (s : State) (h : OctHdr) (x : Sess) (k : Nat) (c : Instr),
    (k = 1 ∧ c = .resetEngine h) ∨ (k = 2 ∧ c = .resetDie h) ∨ (k = 3 ∧ c = .resetHalf h) ∨ (k = 4 ∧ c = .resetModule h) →
    let g := withFirst h k
    let s0 := s.taken g x
    let q : OctReq := { op := 0x40, hdr := g, opening := x.opening }
    let dump := bit (fieldAt h.payload 1 1) 0
    let r := s0.resetSeqOf k h.target dump
    s.InTurn 0x40 g x →
    (s0.resetCheck q ≠ 0 → Machine.exec c s = .next (s0.octAnswer q octRefused 6 (s0.resetCheck q))) ∧
    (k ≠ 4 → s.daybreakDone = false → resetForm k h.target = true → fieldAt h.payload 1 7 = 0 →
      Machine.exec c s = .next (s0.octAnswer q octRefused 6 rstNotRunning)) ∧
    (s0.resetCheck q = 0 → s.resets = [] → s.dump = none → s.fences = [] →
      ∃ t y more, Machine.exec c s = .next t ∧ t.resets = [y] ∧ y.domain = k ∧ y.die = r.die ∧ y.block = r.block ∧ y.inst = r.inst ∧
        y.auto = false ∧ t.mem = s.mem ∧ t.held = s.held ∧
        y.stage = (if dump = true ∧ r.dumpDies ≠ [] ∧ s.dumpFits r.dumpDies = true then 1 else 2) ∧
        t.dump.isSome = (y.stage == 1) ∧
        (∀ d ∈ y.dies, t.get R.RST_STATUS_STATE d = y.stage ∧ t.get R.RST_STATUS_DOMAIN d = k) ∧
        t.out = s.out ++ .oct h.src h.port x.version h.session h.seq 0x40 octOk 0 0 0 [] :: more)

/-- DUSK_DRAINED, DUSK_LIMIT, RESET_RELEASED and RESET_ESCALATE (R423, R430 to R432, R435): at the end of its dusk, or of the limit with
what is left forced, the one sequence in progress is asserted; released, a die is back with its region STOPPED, or held FAILED where a unit failed,
and the sequence ends with the die counted, or goes on to start a region that ran; an engine's ends with its die counted; not released
in time, it gives way to the next larger domain, or ends with its dies held. -/
def Obligations.ResetSequencesEnd : Prop :=
  ∀ (s : State) (r : ResetSeq) (die : Nat), s.Rest → s.aon.powered = true → s.resets = [r] → isDie r.die = true → die ∈ r.dies →
    s.dump = none → s.install = none →
    (let frozen : State := (s.setSeq r { r with stage := 3 }).showRst r 3
     let asserted (t : State) (forced : Nat) : Prop :=
       (r.domain ≤ 3 → t.resets = [{ r with stage := 4, forced := forced }]) ∧
       (r.domain = 1 → ∀ m, (0x10, m) ∈ r.units → s.lead r.die m = m → (t.unit r.die m).inHand = []) ∧
       (r.domain = 2 → isComp r.die = true → t.isHeld r.die = true ∧ t.region r.die = s.region r.die ∧
         ((∀ p, s.partOfDie r.die = some p → s.phase p ≠ phCommit) →
           ∀ a, isHomeDram a = true → a < 2 ^ 48 → t.mem.byte a = s.mem.byte a)) ∧
       (r.domain = 3 → isHub r.die = true → ∀ d ∈ r.dies, t.isHeld d = true ∧ t.region d = s.region d) ∧
       (r.domain = 4 → t.get R.RST_LAST_CAUSE 0 = 1 ∧ t.held = [1, 4, 5, 6, 7] ∧ t.aon.step = 2)
     1 ≤ r.domain → r.domain ≤ 4 → r.stage = 2 ∨ r.stage = 3 →
     (s.duskDry r = false → Machine.exec (.duskDrained die) s = .next s) ∧
     (s.duskDry r = true → frozen.duskStill = false → Machine.exec (.duskDrained die) s = .next frozen) ∧
     (s.duskDry r = true → frozen.duskStill = true →
       ∃ t, Machine.exec (.duskDrained die) s = .next t ∧ asserted t r.forced) ∧
     (∀ n, n < 2 ^ 32 → ∃ t, Machine.exec (.duskLimit die n) s = .next t ∧ asserted t (r.forced + if r.stage = 2 then n else 0))) ∧
    (r.stage = 4 → s.quars = [] → r.replay = false → r.domain = 1 →
      ∃ t, Machine.exec (.resetReleased die []) s = .next t ∧ t.resets = [] ∧ t.get R.RST_STATUS_STATE r.die = 0 ∧ t.mem = s.mem ∧
        t.get R.RST_RESETS_COUNT r.die = (s.get R.RST_RESETS_COUNT r.die + 1) % 2 ^ 48 ∧ t.held = s.held ∧
        ∀ u ∈ t.hung, ¬(u.1 = r.die ∧ (u.2.1, u.2.2.1) ∈ r.units)) ∧
    (r.stage = 4 → r.domain = 2 → isComp r.die = true → (hubOf r.die = 1 → s.isHeld 1 = false) → r.stuck = [] → s.starts = [] →
      (∃ t, Machine.exec (.resetReleased die []) s = .next t ∧ t.isHeld r.die = false ∧ r.die ∉ t.power.tripped ∧
        (r.regions = [] → t.resets = [] ∧ t.get R.RST_STATUS_STATE r.die = 0 ∧ t.region r.die = 2 ∧
          t.get R.RST_RESETS_COUNT r.die = (s.get R.RST_RESETS_COUNT r.die + 1) % 2 ^ 48) ∧
        (r.regions = [r.die] → s.parentOk r.die = true → t.resets = [{ r with stage := 5 }] ∧ t.get R.RST_STATUS_STATE r.die = 5 ∧
          t.region r.die = 4 ∧ t.starts = [r.die])) ∧
      ((∀ c ∈ r.regions, c = r.die) → ∃ t, Machine.exec (.resetReleased die [r.die]) s = .next t ∧ t.resets = [] ∧ t.isHeld r.die = true ∧ t.region r.die = 5)) ∧
    (r.stage = 4 → r.domain ≤ 3 → s.starts = [] →
      (∀ q, s.nextDomain r = some q → ∃ t y, Machine.exec (.resetEscalate die) s = .next t ∧ t.resets = [y] ∧ y.domain = q.domain ∧
        y.die = q.die ∧ y.stage = 2 ∧ y.auto = true ∧ t.mem = s.mem) ∧
      (s.nextDomain r = none → ∃ t, Machine.exec (.resetEscalate die) s = .next t ∧ t.resets = [] ∧ t.mem = s.mem ∧
        (∀ d ∈ r.dies, t.get R.RST_STATUS_STATE d = 6) ∧ ∀ d ∈ r.dies, isComp d = true → t.isHeld d = true ∧ t.region d = 5))

/-! ### Dumps and J20 (R438 to R443) -/

/-- DUMP_ON_DEMAND, DUMP_DONE and DEBUG_RING_TIMEOUT (R438, R439): a dump that fits a DUMP carve-out begins, with the next number; done,
its bytes stand at the destination and its status says OK or PARTIAL; a destination that cannot be written, or a write without
answer, ends it with DEST_FAULT; a bank without answer is noted as lost. -/
def Obligations.DumpsAreWrittenOut : Prop :=
  ∀ s : State, s.Rest → s.clocked 0 5 = true → s.resets = [] →
    (∀ mask, mask < 256 →
      let asked := s.put R.DBG_DUMP_CTRL_DIES mask 0
      let dies := compDies.filter (fun d => bit mask (d - 4))
      (s.dump.isSome = true → Machine.exec (.dumpOnDemand mask) s = .next asked) ∧
      (s.dump = none → asked.dumpFits dies = false → Machine.exec (.dumpOnDemand mask) s = .next
        ((asked.put R.DBG_DUMP_STATUS_STATUS rstNoDest 0).put R.DBG_DUMP_STATUS_STATE 2 0)) ∧
      (s.dump = none → asked.dumpFits dies = true → ∃ t d, Machine.exec (.dumpOnDemand mask) s = .next t ∧ t.dump = some d ∧
        d.dies = dies ∧ d.seq = s.dumpSeq + 1 ∧ t.mem = s.mem ∧ t.get R.DBG_DUMP_STATUS_STATE 0 = 1 ∧
        t.get R.DBG_DUMP_STATUS_SEQ 0 = (s.dumpSeq + 1) % 2 ^ 16)) ∧
    (s.dump = none → Machine.exec .dumpDone s = .next s ∧
      ∀ w die bank, Machine.exec (.debugRingTimeout w die bank) s = .next s) ∧
    (∀ d, s.dump = some d →
      let data := s.dumpBytes d
      let ends (t : State) (st : Nat) : Prop := t.dump = none ∧ t.get R.DBG_DUMP_STATUS_STATE 0 = 2 ∧ t.get R.DBG_DUMP_STATUS_STATUS 0 = st
      (s.dumpWritable = false → ∃ t, Machine.exec .dumpDone s = .next t ∧ ends t rstDestFault ∧ t.mem = s.mem) ∧
      (s.dumpWritable = true → s.judge { die := 0, part := none } s.dumpDest data.length = 0 → s.mem.bad = [] →
        ∃ t, Machine.exec .dumpDone s = .next t ∧ ends t (if s.dumpPartial d then rstPartial else rstOk) ∧
          t.mem.read s.dumpDest data.length = data ∧
          ∀ a, a < s.dumpDest ∨ s.dumpDest + data.length ≤ a → t.mem.byte a = s.mem.byte a) ∧
      (∀ die bank, isDie die = true → bank < 65536 →
        (∃ t, Machine.exec (.debugRingTimeout true die bank) s = .next t ∧ ends t rstDestFault) ∧
        (die ∈ d.dies → bank < 1024 → Machine.exec (.debugRingTimeout false die bank) s = .next
          { s with dump := some { d with lost := (die, bank) :: d.lost } })))

/-- J20_UART_COMMAND and J20_TAP_ACCESS (R363, R441, R443): MODE gives one port the access; a line that is a command, or a shift through
REGACC, reads or writes its register and is answered with the data, or with the status that prevents it; while a dump runs the
access waits. Without the 100 MHz oscillator nothing is answered (R342). -/
def Obligations.TheServicePortReachesRegisters : Prop :=
  (∀ (s : State) line reg, s.Rest → s.aon.lost100 = true → reg < 2 ^ 105 →
    Machine.exec (.j20UartCommand line) s = .next s ∧ Machine.exec (.j20TapAccess reg) s = .next s) ∧
  ∀ s : State, s.Rest → s.aon.powered = true → s.aon.lost100 = false →
    (∀ line, s.aon.mode = true ∨ uartCommand line = none → Machine.exec (.j20UartCommand line) s = .next s) ∧
    (∀ reg, reg < 2 ^ 105 → s.aon.mode = false → Machine.exec (.j20TapAccess reg) s = .next s) ∧
    (∀ line a w, s.aon.mode = false → uartCommand line = some (a, w) →
      (s.dump.isSome = true → Machine.exec (.j20UartCommand line) s = .next { s with j20Wait := [(a, w, false)] }) ∧
      (s.dump = none → s.j20Status a ≠ 0 → Machine.exec (.j20UartCommand line) s = .next
        { s with out := s.out ++ [.j20 0 (0x21 :: hexText 2 (s.j20Status a))] }) ∧
      (s.dump = none → s.j20Status a = 0 → w = none → Machine.exec (.j20UartCommand line) s = .next
        (s.after ((s.regRead a).1.send (.j20 0 (0x3D :: hexText 16 (s.regRead a).2))))) ∧
      (∀ v, s.dump = none → s.j20Status a = 0 → w = some v → Machine.exec (.j20UartCommand line) s = .next
        (s.after ((s.regWrite a v none).1.send (.j20 0 [0x3D]))))) ∧
    (∀ a v, s.aon.mode = true → a < 2 ^ 40 → v < 2 ^ 64 →
      (∀ reg w, (reg = a ∧ w = none) ∨ (reg = a + v * 2 ^ 40 + 2 ^ 104 ∧ w = some v) →
        (s.dump.isSome = true → Machine.exec (.j20TapAccess reg) s = .next { s with j20Wait := [(a, w, true)], tap := (0xFF, 0) }) ∧
        (s.dump = none → s.j20Status a ≠ 0 → Machine.exec (.j20TapAccess reg) s = .next { s with tap := (s.j20Status a, 0) })) ∧
      (s.dump = none → s.j20Status a = 0 → Machine.exec (.j20TapAccess a) s = .next
        (s.after { (s.regRead a).1 with tap := (0, (s.regRead a).2) })) ∧
      (s.dump = none → s.j20Status a = 0 → Machine.exec (.j20TapAccess (a + v * 2 ^ 40 + 2 ^ 104)) s = .next
        (s.after { (s.regWrite a v none).1 with tap := (0, 0) })))

/-! ### Addresses, access faults, reset, and rules stated whole -/

/-- R5, R6 and R36: where an address's parts stand. A control register is a 64-bit word at an 8-byte aligned address with its die, block,
instance and offset in their places; a data address has its die in [47:44]; matrix core m's scratchpad is the 4 MiB from offset
0x0F00_0000_0000 + m × 0x40_0000, and every byte of it that is in service stands there. -/
def Obligations.AddressesPlaceTheirParts : Prop :=
  (∀ a, a < 2 ^ 40 → csrDie a = a / 2 ^ 36 ∧ csrBlock a = a / 2 ^ 28 % 2 ^ 8 ∧ csrInst a = a / 2 ^ 16 % 2 ^ 12 ∧ csrOff a = a % 2 ^ 16) ∧
  (∀ (a : Nat) (r : RegDef) (i : Nat), regAt a = some (r, i) → a = r.addr (csrDie a) (csrInst a) i ∧ a % 8 = 0) ∧
  (∀ (s : State) (r : RegDef) (die inst i v : Nat), (s.wr r die inst i v).rd r die inst i = v % 2 ^ 64) ∧
  (∀ (s : State) (oct : Bool) (a : Nat), a % 8 ≠ 0 → s.accessStatus oct a ≠ 0) ∧
  (∀ a, a < 2 ^ 48 → addrDie a = a / 2 ^ 44 ∧ addrOff a = a % 2 ^ 44) ∧
  spadBase 6 17 = 0x6F0004400000 ∧
  (∀ (s : State) (w : Who) (die m o : Nat), isComp die = true → m < 32 → o < 0x400000 →
    let a := die * 2 ^ 44 + (0x0F0000000000 + m * 0x400000) + o
    (s.excluded die = false → bit (s.get R.ID_UNITS_MC_PRESENT die) m = true → s.partOk w a = true → s.kindAt w a = 0) ∧
    (s.excluded die = true ∨ bit (s.get R.ID_UNITS_MC_PRESENT die) m = false → s.kindAt w a = 3) ∧
    s.win die m o 1 = s.mem.read a 1)

/-- R37, R171: an access is judged over the whole of it, byte by byte: one that covers a byte that faults has the kind of the
lowest-addressed such byte, and only one whose bytes may all be reached is free of fault. -/
def Obligations.AccessesAreJudgedByTheirLowestFault : Prop :=
  ∀ (s : State) (w : Who) (a n : Nat),
    (∀ i, i < n → s.kindAt w (a + i) ≠ 0 → (∀ j, j < i → s.kindAt w (a + j) = 0) → s.judge w a n = s.kindAt w (a + i)) ∧
    (s.judge w a n = 0 ↔ ∀ i, i < n → s.kindAt w (a + i) = 0)

/-- R10, R71, R407, R419: the state after reset: without supply, at rest, with nothing in any queue, memory listing nothing, and the registers
at the reset values of the spec's tables, among them these. That an unlisted byte reads 0 is the model's choice (log entry 7). -/
def Obligations.ResetLeavesTheModuleAtRest : Prop :=
  let s := State.reset
  s.Rest ∧ s.pending = [] ∧ s.aon.powered = false ∧ s.out = [] ∧ s.csr = [] ∧ s.mem.cells = [] ∧ s.resets = [] ∧ s.install = none ∧
  (∀ c ∈ startOrder, s.region c = 2) ∧ s.get R.PWR_LIMITS_CAP 0 = 5400 ∧ s.get R.SEAM_CFG_MAX_WIDTH 0 = 64 ∧
  s.get R.ETH_CFG_SPEEDS 0 = 7 ∧ s.get R.OCT_CFG_MAX_VERSION 0 = 2 ∧ (∀ a, s.mem.byte a = 0)

/-- R317, register paths: a write of CLASS 0 to a requester of kind F or B sets CLASS 1, PREEMPT is kept from requesters that are not of
kind B, an AGING of 0 sets 64 and one from 1 to 15 sets 16. -/
def Obligations.ArbiterWritesKeepTheirLimits : Prop :=
  ∀ (s : State) (die inst i v c : Nat), s.Rest → s.aon.powered = true → isDie die = true → inst < 4096 → v < 2 ^ 64 →
    regionOf die 0x05 inst = some c → s.region c = 2 →
    (s.Reaches R.ARB_REQ_CFG die inst i →
      ∃ t, Machine.exec (.registerWrite (R.ARB_REQ_CFG.addr die inst i) v) s = .next t ∧ t = { s with csr := t.csr } ∧
        s.AgreeBut t [R.ARB_REQ_CFG.addr die inst i, R.STREAM_STATUS.addr 0 0 0, R.STREAM_REGION.addr 0 0 c] ∧
        (s.arbKind die inst i ≠ 0 → t.get R.ARB_REQ_CFG_CLASS die inst i = if v % 4 = 0 then 1 else v % 4) ∧
        (s.arbKind die inst i = 0 → t.get R.ARB_REQ_CFG_CLASS die inst i = s.get R.ARB_REQ_CFG_CLASS die inst i) ∧
        t.get R.ARB_REQ_CFG_PREEMPT die inst i =
          if s.arbKind die inst i = 2 then v / 4 % 2 else s.get R.ARB_REQ_CFG_PREEMPT die inst i) ∧
    (s.Reaches R.ARB_CFG die inst 0 →
      ∃ t, Machine.exec (.registerWrite (R.ARB_CFG.addr die inst 0) v) s = .next t ∧ t = { s with csr := t.csr } ∧
        s.AgreeBut t [R.ARB_CFG.addr die inst 0, R.STREAM_STATUS.addr 0 0 0, R.STREAM_REGION.addr 0 0 c] ∧
        t.get R.ARB_CFG_AGING die inst 0 =
          (let x := v % 2 ^ 16
           if x = 0 then 64 else if x < 16 then 16 else x))

/-- R411, DAYBREAK_GO: a write of GO while WAITING is set validates the staging buffer; a failure is recorded in STREAM_ERROR and the wait
goes on; a valid stream is applied, WAITING clears and Daybreak goes on from step 5, with the sessions as they were; with the port up,
step 10 ends at once. While WAITING is clear nothing happens. -/
def Obligations.GoAppliesTheStagedStream : Prop :=
  ∀ s : State, s.Rest → s.aon.powered = true →
    (s.waiting = false → Machine.exec .daybreakGo s = .next s) ∧
    (∀ f, s.waiting = true → s.validate s.staged none = .error f →
      ∃ t, Machine.exec .daybreakGo s = .next t ∧ t.waiting = true ∧ s.AgreeBut t [R.STREAM_ERROR.addr 0 0 0] ∧
        t.get R.STREAM_ERROR_STATUS 0 = f.status % 2 ^ R.STREAM_ERROR_STATUS.width ∧
        t.get R.STREAM_ERROR_REGION 0 = f.region % 2 ^ R.STREAM_ERROR_REGION.width ∧
        t.get R.STREAM_ERROR_RECORD_INDEX 0 = f.index % 2 ^ R.STREAM_ERROR_RECORD_INDEX.width ∧
        t.get R.STREAM_ERROR_BYTE_OFFSET 0 = f.off % 2 ^ R.STREAM_ERROR_BYTE_OFFSET.width) ∧
    (∀ l, s.waiting = true → s.validate s.staged none = .ok l →
      ∃ t, Machine.exec .daybreakGo s = .next t ∧ t.waiting = false ∧ t.aon.step = 5 ∧ t.get R.STREAM_DAYBREAK_STEP 0 = 5 ∧
        t.active = l.bytes ∧ t.get R.STREAM_STATUS_SOURCE 0 = 3 ∧ t.get R.STREAM_STATUS_STREAM_ID 0 = l.id % 2 ^ 32 ∧
        t.flag R.STREAM_STATUS_GLOBAL_APPLIED 0 = true ∧ t.sessions = s.sessions) ∧
    (s.atStep 10 = true → s.flag R.ETH_STATUS_LINK_UP 0 = true →
      ∃ t, Machine.exec (.daybreakStepComplete []) s = .next t ∧ t.aon.step = 11 ∧ t.get R.STREAM_DAYBREAK_STEP 0 = 11)

/-- R429, FW_WATCHDOG_EXPIRE and RST_KICK: while the firmware runs, 50,000,000 AON cycles since it was booted or last wrote KICK bring
midnight at once, without dusk or dump, with CAUSE 3 in RST_LAST; before that, or with no firmware, nothing; KICK starts the count anew. -/
def Obligations.TheFirmwareMustKickItsWatchdog : Prop :=
  ∀ s : State, s.Rest → s.aon.powered = true →
    Machine.exec .rstKick s = .next { s with aon := { s.aon with kickAt := s.get R.CLK_COUNT_COUNT 0 0 clkAON } } ∧
    (s.fwRuns = false ∨ s.get R.CLK_COUNT_COUNT 0 0 clkAON < s.aon.kickAt + 50000000 → Machine.exec .fwWatchdogExpire s = .next s) ∧
    (s.fwRuns = true → s.aon.kickAt + 50000000 ≤ s.get R.CLK_COUNT_COUNT 0 0 clkAON →
      ∃ t, Machine.exec .fwWatchdogExpire s = .next t ∧ t.get R.RST_LAST_CAUSE 0 = 3 ∧ t.held = [1, 4, 5, 6, 7] ∧ t.aon.step = 2 ∧
        t.resets = [] ∧ t.dump = none ∧ t.fwRuns = false ∧ (s.install = none → t.flash = s.flash) ∧
        ∀ a, isHomeDram a = true → a < 2 ^ 48 → t.mem.byte a = s.mem.byte a)
end

