-- ==== Sys2Proof/Laws/NMap.lean ====
section
/-!
SUPPORT. Laws of the finite maps that the state is made of: reading after writing and erasing, and the rising
order of keys that writing and erasing keep.
-/

namespace Sys2Proof.Machine

@[simp] theorem nfind_nil {α : Type} (k : Nat) : nfind k ([] : List (Nat × α)) = none := rfl

@[simp] theorem nfind_nset_same {α : Type} (k : Nat) (v : α) (m : List (Nat × α)) : nfind k (nset k v m) = some v := by
  induction m with
  | nil => simp [nset, nfind]
  | cons e t ih =>
    obtain ⟨k', v'⟩ := e
    unfold nset
    by_cases h : k = k'
    · simp [h, nfind]
    · by_cases h2 : k < k'
      · simp [h, h2, nfind]
      · simp [h, h2, nfind, ih]

theorem nfind_nset_ne {α : Type} {k j : Nat} (h : j ≠ k) (v : α) (m : List (Nat × α)) :
    nfind j (nset k v m) = nfind j m := by
  induction m with
  | nil => simp [nset, nfind, h]
  | cons e t ih =>
    obtain ⟨k', v'⟩ := e
    unfold nset
    by_cases h1 : k = k'
    · subst h1; simp [nfind, h]
    · by_cases h2 : k < k'
      · simp [h1, h2, nfind, h]
      · simp [h1, h2, nfind, ih]

theorem nfind_nset {α : Type} (j k : Nat) (v : α) (m : List (Nat × α)) :
    nfind j (nset k v m) = if j = k then some v else nfind j m := by
  by_cases h : j = k
  · subst h; simp
  · simp [h, nfind_nset_ne h]

@[simp] theorem nfind_nerase_same {α : Type} (k : Nat) (m : List (Nat × α)) : nfind k (nerase k m) = none := by
  induction m with
  | nil => rfl
  | cons e t ih =>
    obtain ⟨k', v'⟩ := e
    unfold nerase at *
    by_cases h : k' = k
    · subst h; simpa using ih
    · have h' : ¬ k = k' := fun x => h x.symm
      simp [h, h', nfind, ih]

theorem nfind_nerase_ne {α : Type} {k j : Nat} (h : j ≠ k) (m : List (Nat × α)) :
    nfind j (nerase k m) = nfind j m := by
  induction m with
  | nil => rfl
  | cons e t ih =>
    obtain ⟨k', v'⟩ := e
    unfold nerase at *
    by_cases h1 : k' = k
    · subst h1; simp [nfind, h, ih]
    · simp [h1, nfind, ih]

@[simp] theorem ngetD_nset_same {α : Type} (k : Nat) (v d : α) (m : List (Nat × α)) : ngetD (nset k v m) k d = v := by
  simp [ngetD]

theorem ngetD_nset_ne {α : Type} {k j : Nat} (h : j ≠ k) (v d : α) (m : List (Nat × α)) :
    ngetD (nset k v m) j d = ngetD m j d := by
  simp [ngetD, nfind_nset_ne h]

@[simp] theorem ngetD_nerase_same {α : Type} (k : Nat) (d : α) (m : List (Nat × α)) : ngetD (nerase k m) k d = d := by
  simp [ngetD]

theorem ngetD_nerase_ne {α : Type} {k j : Nat} (h : j ≠ k) (d : α) (m : List (Nat × α)) :
    ngetD (nerase k m) j d = ngetD m j d := by
  simp [ngetD, nfind_nerase_ne h]

/-- Every key of a map is above a bound. -/
def keysAbove {α : Type} (b : Nat) (m : List (Nat × α)) : Prop := ∀ e ∈ m, b < e.1

theorem nsorted_cons {α : Type} (e : Nat × α) (t : List (Nat × α)) :
    nsorted (e :: t) = true ↔ keysAbove e.1 t ∧ nsorted t = true := by
  induction t generalizing e with
  | nil => simp [nsorted, keysAbove]
  | cons f t ih =>
    obtain ⟨a, v⟩ := e
    obtain ⟨b, w⟩ := f
    simp only [nsorted, Bool.and_eq_true, decide_eq_true_eq]
    constructor
    · rintro ⟨h1, h2⟩
      refine ⟨?_, h2⟩
      intro x hx
      rcases List.mem_cons.1 hx with rfl | hx
      · exact h1
      · exact Nat.lt_trans h1 ((ih _).1 h2 |>.1 x hx)
    · rintro ⟨h1, h2⟩
      exact ⟨h1 (b, w) (List.mem_cons_self ..), h2⟩

theorem mem_nset {α : Type} {k : Nat} {v : α} {m : List (Nat × α)} {e : Nat × α} (h : e ∈ nset k v m) :
    e = (k, v) ∨ e ∈ m := by
  induction m with
  | nil => simpa [nset] using h
  | cons f t ih =>
    obtain ⟨k', v'⟩ := f
    unfold nset at h
    split at h
    · rcases List.mem_cons.1 h with h | h
      · exact .inl h
      · exact .inr (List.mem_cons_of_mem _ h)
    · split at h
      · rcases List.mem_cons.1 h with h | h
        · exact .inl h
        · exact .inr h
      · rcases List.mem_cons.1 h with h | h
        · exact .inr (h ▸ List.mem_cons_self ..)
        · rcases ih h with h | h
          · exact .inl h
          · exact .inr (List.mem_cons_of_mem _ h)

/-- Writing keeps the rising order of keys. -/
theorem nsorted_nset {α : Type} (k : Nat) (v : α) (m : List (Nat × α)) (h : nsorted m = true) :
    nsorted (nset k v m) = true := by
  induction m with
  | nil => rfl
  | cons f t ih =>
    obtain ⟨k', v'⟩ := f
    have h' := (nsorted_cons _ _).1 h
    unfold nset
    split
    · rename_i hk; subst hk
      exact (nsorted_cons _ _).2 ⟨h'.1, h'.2⟩
    · split
      · rename_i hlt
        refine (nsorted_cons _ _).2 ⟨?_, h⟩
        intro x hx
        rcases List.mem_cons.1 hx with rfl | hx
        · exact hlt
        · exact Nat.lt_trans hlt (h'.1 x hx)
      · rename_i hne hlt
        refine (nsorted_cons _ _).2 ⟨?_, ih h'.2⟩
        intro x hx
        rcases mem_nset hx with rfl | hx
        · show k' < k
          omega
        · exact h'.1 x hx

/-- Taking entries out keeps the rising order of keys. -/
theorem nsorted_filter {α : Type} (p : Nat × α → Bool) (m : List (Nat × α)) (h : nsorted m = true) :
    nsorted (m.filter p) = true := by
  induction m with
  | nil => rfl
  | cons e t ih =>
    have h' := (nsorted_cons _ _).1 h
    rw [List.filter_cons]
    split
    · refine (nsorted_cons _ _).2 ⟨?_, ih h'.2⟩
      intro x hx
      exact h'.1 x (List.mem_filter.1 hx).1
    · exact ih h'.2

theorem nsorted_nerase {α : Type} (k : Nat) (m : List (Nat × α)) (h : nsorted m = true) : nsorted (nerase k m) = true :=
  nsorted_filter _ m h

/-- In a map in order, an entry is what its key reads as. -/
theorem nfind_of_mem {α : Type} {m : List (Nat × α)} (h : nsorted m = true) {e : Nat × α} (he : e ∈ m) :
    nfind e.1 m = some e.2 := by
  induction m with
  | nil => cases he
  | cons f t ih =>
    obtain ⟨k', v'⟩ := f
    have h' := (nsorted_cons _ _).1 h
    rcases List.mem_cons.1 he with rfl | he
    · simp [nfind]
    · have hne : e.1 ≠ k' := Nat.ne_of_gt (h'.1 e he)
      simp [nfind, hne, ih h'.2 he]

theorem mem_of_nfind {α : Type} {m : List (Nat × α)} {k : Nat} {v : α} (h : nfind k m = some v) : (k, v) ∈ m := by
  induction m with
  | nil => cases h
  | cons f t ih =>
    obtain ⟨k', v'⟩ := f
    unfold nfind at h
    split at h
    · rename_i hk; cases h; subst hk; exact List.mem_cons_self ..
    · exact List.mem_cons_of_mem _ (ih h)

/-- Two maps in order that read alike under every key are the same list. -/
theorem nmap_ext {α : Type} {m n : List (Nat × α)} (hm : nsorted m = true) (hn : nsorted n = true)
    (h : ∀ k, nfind k m = nfind k n) : m = n := by
  induction m generalizing n with
  | nil =>
    cases n with
    | nil => rfl
    | cons e t => simpa [nfind] using h e.1
  | cons e t ih =>
    cases n with
    | nil => simpa [nfind] using h e.1
    | cons f u =>
      obtain ⟨a, v⟩ := e
      obtain ⟨b, w⟩ := f
      have hm' := (nsorted_cons _ _).1 hm
      have hn' := (nsorted_cons _ _).1 hn
      have hab : a = b := by
        have h1 : (a, v) ∈ (b, w) :: u := mem_of_nfind (by rw [← h a]; simp [nfind])
        have h2 : (b, w) ∈ (a, v) :: t := mem_of_nfind (by rw [h b]; simp [nfind])
        rcases List.mem_cons.1 h1 with h1 | h1
        · exact congrArg Prod.fst h1
        · rcases List.mem_cons.1 h2 with h2 | h2
          · exact (congrArg Prod.fst h2).symm
          · have x1 := hn'.1 _ h1
            have x2 := hm'.1 _ h2
            simp only at x1 x2
            omega
      subst hab
      have hv : v = w := by simpa [nfind] using h a
      subst hv
      have : t = u := by
        refine ih hm'.2 hn'.2 (fun k => ?_)
        by_cases hk : k = a
        · subst hk
          have ht : nfind k t = none := by
            cases ht : nfind k t with
            | none => rfl
            | some x => exact absurd (hm'.1 _ (mem_of_nfind ht)) (Nat.lt_irrefl _)
          have hu : nfind k u = none := by
            cases hu : nfind k u with
            | none => rfl
            | some x => exact absurd (hn'.1 _ (mem_of_nfind hu)) (Nat.lt_irrefl _)
          rw [ht, hu]
        · simpa [nfind, hk] using h k
      rw [this]

/-- Writing what a map in order already reads as changes nothing. -/
theorem nset_of_nfind {α : Type} {m : List (Nat × α)} (hm : nsorted m = true) {k : Nat} {v : α}
    (h : nfind k m = some v) : nset k v m = m := by
  refine nmap_ext (nsorted_nset k v m hm) hm (fun j => ?_)
  by_cases hj : j = k
  · subst hj; simp [h]
  · exact nfind_nset_ne hj v m

end Sys2Proof.Machine
end

