-- ==== Sys2Proof/Laws/Registers.lean ====
section
/-!
SUPPORT. Laws of bit fields and of the register operations: what a field reads as after a field of a register has been
set, here and elsewhere.
-/

namespace Sys2Proof.Machine

/-! ### Bit fields -/

theorem bits_lt (x lo w : Nat) : bits x lo w < 2 ^ w := Nat.mod_lt _ (Nat.two_pow_pos w)

theorem bits_testBit (x lo w i : Nat) : (bits x lo w).testBit i = (decide (i < w) && x.testBit (lo + i)) := by
  simp [bits, Nat.testBit_mod_two_pow, Nat.testBit_shiftRight]

theorem setBits_testBit (x lo w v i : Nat) :
    (setBits x lo w v).testBit i =
      if i < lo then x.testBit i else if i < lo + w then v.testBit (i - lo) else x.testBit i := by
  have h1 : setBits x lo w v = 2 ^ lo * (2 ^ w * (x >>> (lo + w)) + v % 2 ^ w) + x % 2 ^ lo := by
    have h2 : x >>> (lo + w) * 2 ^ (lo + w) = 2 ^ lo * (2 ^ w * (x >>> (lo + w))) := by
      rw [Nat.pow_add, Nat.mul_comm, Nat.mul_assoc]
    unfold setBits
    rw [h2, Nat.mul_add, Nat.mul_comm (2 ^ lo) (v % 2 ^ w)]
    omega
  rw [h1, Nat.testBit_two_pow_mul_add _ (Nat.mod_lt _ (Nat.two_pow_pos lo))]
  by_cases hi : i < lo
  · simp [hi, Nat.testBit_mod_two_pow]
  · rw [if_neg hi, if_neg hi, Nat.testBit_two_pow_mul_add _ (Nat.mod_lt _ (Nat.two_pow_pos w))]
    by_cases hw : i - lo < w
    · have hw' : i < lo + w := by omega
      simp [hw, hw', Nat.testBit_mod_two_pow]
    · have hw' : ¬ i < lo + w := by omega
      rw [if_neg hw, if_neg hw', Nat.testBit_shiftRight]
      congr 1
      omega

/-- The 64 bits of a register, one field of which has been set. -/
def setField (x lo w v : Nat) : Nat := setBits x lo w v % 2 ^ 64

@[simp] theorem bits_setField_same {x lo w v : Nat} (h : lo + w ≤ 64) : bits (setField x lo w v) lo w = v % 2 ^ w := by
  apply Nat.eq_of_testBit_eq
  intro i
  rw [bits_testBit, setField, Nat.testBit_mod_two_pow, setBits_testBit, Nat.testBit_mod_two_pow]
  by_cases hi : i < w
  · have h1 : ¬ lo + i < lo := by omega
    have h2 : lo + i < lo + w := by omega
    have h3 : lo + i < 64 := by omega
    simp [hi, h1, h2, h3]
  · simp [hi]

theorem bits_setField_disjoint {x lo w v lo' w' : Nat} (h : lo' + w' ≤ 64) (hd : lo' + w' ≤ lo ∨ lo + w ≤ lo') :
    bits (setField x lo w v) lo' w' = bits x lo' w' := by
  apply Nat.eq_of_testBit_eq
  intro i
  rw [bits_testBit, bits_testBit, setField, Nat.testBit_mod_two_pow, setBits_testBit]
  by_cases hi : i < w'
  · have h3 : lo' + i < 64 := by omega
    rcases hd with hd | hd
    · have h1 : lo' + i < lo := by omega
      simp [hi, h1, h3]
    · have h1 : ¬ lo' + i < lo := by omega
      have h2 : ¬ lo' + i < lo + w := by omega
      simp [hi, h1, h2, h3]
  · simp [hi]

/-! ### Registers -/

theorem State.rd_wr_same (s : State) (r : RegDef) (die inst idx v : Nat) :
    (s.wr r die inst idx v).rd r die inst idx = v % 2 ^ 64 := by
  simp [State.rd, State.wr, BitVec.toNat_ofNat]

theorem State.rd_wr_ne (s : State) {r q : RegDef} {die inst idx d i x : Nat} (v : Nat)
    (h : q.addr d i x ≠ r.addr die inst idx) : (s.wr r die inst idx v).rd q d i x = s.rd q d i x := by
  simp [State.rd, State.wr, nfind_nset_ne h]

/-- A field reads as it was set. -/
theorem State.get_put_same (s : State) (f : Fld) (v die inst idx : Nat) (h : f.lo + f.width ≤ 64) :
    (s.put f v die inst idx).get f die inst idx = v % 2 ^ f.width := by
  rw [State.get, State.put, State.rd_wr_same]
  exact bits_setField_same h

/-- Setting a field leaves the other fields of its register alone. -/
theorem State.get_put_field (s : State) (f g : Fld) (v die inst idx : Nat) (hr : g.reg = f.reg)
    (h : g.lo + g.width ≤ 64) (hd : g.lo + g.width ≤ f.lo ∨ f.lo + f.width ≤ g.lo) :
    (s.put f v die inst idx).get g die inst idx = s.get g die inst idx := by
  rw [State.get, State.put, hr, State.rd_wr_same, State.get, hr]
  exact bits_setField_disjoint h hd

/-- Setting a field leaves every other register alone. -/
theorem State.get_put_reg (s : State) (f g : Fld) (v die inst idx d i x : Nat)
    (h : g.reg.addr d i x ≠ f.reg.addr die inst idx) : (s.put f v die inst idx).get g d i x = s.get g d i x := by
  rw [State.get, State.put, State.rd_wr_ne _ _ h, State.get]

/-- What a field reads as after any field of any register has been set. -/
theorem State.get_put (s : State) (f g : Fld) (v die inst idx d i x : Nat) :
    (s.put f v die inst idx).get g d i x =
      if g.reg.addr d i x = f.reg.addr die inst idx then
        bits (setField (s.rd f.reg die inst idx) f.lo f.width v) g.lo g.width
      else s.get g d i x := by
  by_cases h : g.reg.addr d i x = f.reg.addr die inst idx
  · rw [if_pos h, State.get, State.rd, h, State.put, State.wr]
    simp only [nfind_nset_same]
    rw [BitVec.toNat_ofNat]
    rfl
  · rw [if_neg h, State.get_put_reg _ _ _ _ _ _ _ _ _ _ h]

/-- Setting a field touches one register. -/
theorem State.put_csr_ne (s : State) (f : Fld) (v die inst idx a : Nat) (h : a ≠ f.reg.addr die inst idx) :
    nfind a (s.put f v die inst idx).csr = nfind a s.csr := by
  simp [State.put, State.wr, nfind_nset_ne h]

theorem State.rd_put_ne (s : State) (f : Fld) (r : RegDef) (v die inst idx d i x : Nat)
    (h : r.addr d i x ≠ f.reg.addr die inst idx) : (s.put f v die inst idx).rd r d i x = s.rd r d i x :=
  State.rd_wr_ne s _ h

theorem State.get_lt (s : State) (f : Fld) (die inst idx : Nat) : s.get f die inst idx < 2 ^ f.width := bits_lt _ _ _

/-- Setting a flag is setting its field to one; a counter is set to its sum. -/
theorem State.set1_eq (s : State) (f : Fld) (die inst idx : Nat) : s.set1 f die inst idx = s.put f 1 die inst idx := rfl

theorem State.count_eq (s : State) (f : Fld) (n die inst idx : Nat) :
    s.count f n die inst idx = s.put f (s.get f die inst idx + n) die inst idx := rfl

theorem State.flag_eq (s : State) (f : Fld) (die inst idx : Nat) : s.flag f die inst idx = (s.get f die inst idx != 0) := rfl

/-- A counter wraps at its width. -/
theorem State.get_count_same (s : State) (f : Fld) (n die inst idx : Nat) (h : f.lo + f.width ≤ 64) :
    (s.count f n die inst idx).get f die inst idx = (s.get f die inst idx + n) % 2 ^ f.width :=
  State.get_put_same s f _ die inst idx h

theorem State.get_count_reg (s : State) (f g : Fld) (n die inst idx d i x : Nat)
    (h : g.reg.addr d i x ≠ f.reg.addr die inst idx) : (s.count f n die inst idx).get g d i x = s.get g d i x :=
  State.get_put_reg s f g _ die inst idx d i x h

theorem State.flag_set1_same (s : State) (f : Fld) (die inst idx : Nat) (h : f.lo + f.width ≤ 64) (hw : f.width ≠ 0) :
    (s.set1 f die inst idx).flag f die inst idx = true := by
  rw [State.flag, State.set1, State.get_put_same _ _ _ _ _ _ h]
  have : 1 % 2 ^ f.width = 1 := by
    apply Nat.mod_eq_of_lt
    exact Nat.one_lt_two_pow hw
  simp [this]

/-- A register put back to its reset value reads as it. -/
theorem State.rd_rst_same (s : State) (r : RegDef) (die inst idx : Nat) :
    (s.rst r die inst idx).rd r die inst idx = regResetNat r die inst idx := by
  simp [State.rd, State.rst]

theorem State.rd_rst_ne (s : State) {r q : RegDef} {die inst idx d i x : Nat}
    (h : q.addr d i x ≠ r.addr die inst idx) : (s.rst r die inst idx).rd q d i x = s.rd q d i x := by
  simp [State.rd, State.rst, nfind_nerase_ne h]

/-- Setting fields keeps the register map in order. -/
theorem State.put_csr_sorted (s : State) (f : Fld) (v die inst idx : Nat) (h : nsorted s.csr = true) :
    nsorted (s.put f v die inst idx).csr = true := nsorted_nset _ _ _ h

end Sys2Proof.Machine
end

