-- ==== Sys2Proof/Laws/State.lean ====
section
/-!
SUPPORT. One lemma per field of the state for each update of a register: the register operations change the register map
and nothing else; sending appends to what has been sent.
-/

namespace Sys2Proof.Machine

@[simp] theorem State.wr_pending (s : State) (r : RegDef) (die inst idx v : Nat) : (s.wr r die inst idx v).pending = s.pending := rfl
@[simp] theorem State.wr_out (s : State) (r : RegDef) (die inst idx v : Nat) : (s.wr r die inst idx v).out = s.out := rfl
@[simp] theorem State.wr_fresh (s : State) (r : RegDef) (die inst idx v : Nat) : (s.wr r die inst idx v).fresh = s.fresh := rfl
@[simp] theorem State.wr_mem (s : State) (r : RegDef) (die inst idx v : Nat) : (s.wr r die inst idx v).mem = s.mem := rfl
@[simp] theorem State.wr_recs (s : State) (r : RegDef) (die inst idx v : Nat) : (s.wr r die inst idx v).recs = s.recs := rfl
@[simp] theorem State.wr_fog (s : State) (r : RegDef) (die inst idx v : Nat) : (s.wr r die inst idx v).fog = s.fog := rfl
@[simp] theorem State.wr_active (s : State) (r : RegDef) (die inst idx v : Nat) : (s.wr r die inst idx v).active = s.active := rfl
@[simp] theorem State.wr_mx (s : State) (r : RegDef) (die inst idx v : Nat) : (s.wr r die inst idx v).mx = s.mx := rfl
@[simp] theorem State.wr_tiles (s : State) (r : RegDef) (die inst idx v : Nat) : (s.wr r die inst idx v).tiles = s.tiles := rfl
@[simp] theorem State.wr_tbs (s : State) (r : RegDef) (die inst idx v : Nat) : (s.wr r die inst idx v).tbs = s.tbs := rfl
@[simp] theorem State.wr_fmtCopy (s : State) (r : RegDef) (die inst idx v : Nat) : (s.wr r die inst idx v).fmtCopy = s.fmtCopy := rfl
@[simp] theorem State.wr_mons (s : State) (r : RegDef) (die inst idx v : Nat) : (s.wr r die inst idx v).mons = s.mons := rfl
@[simp] theorem State.wr_movers (s : State) (r : RegDef) (die inst idx v : Nat) : (s.wr r die inst idx v).movers = s.movers := rfl
@[simp] theorem State.wr_qcnt (s : State) (r : RegDef) (die inst idx v : Nat) : (s.wr r die inst idx v).qcnt = s.qcnt := rfl
@[simp] theorem State.wr_rlc (s : State) (r : RegDef) (die inst idx v : Nat) : (s.wr r die inst idx v).rlc = s.rlc := rfl
@[simp] theorem State.wr_fills (s : State) (r : RegDef) (die inst idx v : Nat) : (s.wr r die inst idx v).fills = s.fills := rfl
@[simp] theorem State.wr_invWaits (s : State) (r : RegDef) (die inst idx v : Nat) : (s.wr r die inst idx v).invWaits = s.invWaits := rfl
@[simp] theorem State.wr_arbs (s : State) (r : RegDef) (die inst idx v : Nat) : (s.wr r die inst idx v).arbs = s.arbs := rfl
@[simp] theorem State.wr_scrubAt (s : State) (r : RegDef) (die inst idx v : Nat) : (s.wr r die inst idx v).scrubAt = s.scrubAt := rfl
@[simp] theorem State.wr_qps (s : State) (r : RegDef) (die inst idx v : Nat) : (s.wr r die inst idx v).qps = s.qps := rfl
@[simp] theorem State.wr_latLayers (s : State) (r : RegDef) (die inst idx v : Nat) : (s.wr r die inst idx v).latLayers = s.latLayers := rfl
@[simp] theorem State.wr_latScale (s : State) (r : RegDef) (die inst idx v : Nat) : (s.wr r die inst idx v).latScale = s.latScale := rfl
@[simp] theorem State.wr_inodes (s : State) (r : RegDef) (die inst idx v : Nat) : (s.wr r die inst idx v).inodes = s.inodes := rfl
@[simp] theorem State.wr_stageQ (s : State) (r : RegDef) (die inst idx v : Nat) : (s.wr r die inst idx v).stageQ = s.stageQ := rfl
@[simp] theorem State.wr_bodies (s : State) (r : RegDef) (die inst idx v : Nat) : (s.wr r die inst idx v).bodies = s.bodies := rfl
@[simp] theorem State.wr_resv (s : State) (r : RegDef) (die inst idx v : Nat) : (s.wr r die inst idx v).resv = s.resv := rfl
@[simp] theorem State.wr_steps (s : State) (r : RegDef) (die inst idx v : Nat) : (s.wr r die inst idx v).steps = s.steps := rfl
@[simp] theorem State.wr_upds (s : State) (r : RegDef) (die inst idx v : Nat) : (s.wr r die inst idx v).upds = s.upds := rfl
@[simp] theorem State.wr_chans (s : State) (r : RegDef) (die inst idx v : Nat) : (s.wr r die inst idx v).chans = s.chans := rfl
@[simp] theorem State.wr_waitTx (s : State) (r : RegDef) (die inst idx v : Nat) : (s.wr r die inst idx v).waitTx = s.waitTx := rfl
@[simp] theorem State.wr_seams (s : State) (r : RegDef) (die inst idx v : Nat) : (s.wr r die inst idx v).seams = s.seams := rfl
@[simp] theorem State.wr_weaves (s : State) (r : RegDef) (die inst idx v : Nat) : (s.wr r die inst idx v).weaves = s.weaves := rfl
@[simp] theorem State.wr_peerVer (s : State) (r : RegDef) (die inst idx v : Nat) : (s.wr r die inst idx v).peerVer = s.peerVer := rfl
@[simp] theorem State.wr_held (s : State) (r : RegDef) (die inst idx v : Nat) : (s.wr r die inst idx v).held = s.held := rfl
@[simp] theorem State.wr_fences (s : State) (r : RegDef) (die inst idx v : Nat) : (s.wr r die inst idx v).fences = s.fences := rfl
@[simp] theorem State.wr_fenceCount (s : State) (r : RegDef) (die inst idx v : Nat) : (s.wr r die inst idx v).fenceCount = s.fenceCount := rfl
@[simp] theorem State.wr_sessions (s : State) (r : RegDef) (die inst idx v : Nat) : (s.wr r die inst idx v).sessions = s.sessions := rfl
@[simp] theorem State.wr_openings (s : State) (r : RegDef) (die inst idx v : Nat) : (s.wr r die inst idx v).openings = s.openings := rfl
@[simp] theorem State.wr_octQ (s : State) (r : RegDef) (die inst idx v : Nat) : (s.wr r die inst idx v).octQ = s.octQ := rfl
@[simp] theorem State.wr_octBusy (s : State) (r : RegDef) (die inst idx v : Nat) : (s.wr r die inst idx v).octBusy = s.octBusy := rfl
@[simp] theorem State.wr_octWait (s : State) (r : RegDef) (die inst idx v : Nat) : (s.wr r die inst idx v).octWait = s.octWait := rfl
@[simp] theorem State.wr_starts (s : State) (r : RegDef) (die inst idx v : Nat) : (s.wr r die inst idx v).starts = s.starts := rfl
@[simp] theorem State.wr_eth (s : State) (r : RegDef) (die inst idx v : Nat) : (s.wr r die inst idx v).eth = s.eth := rfl
@[simp] theorem State.wr_cnpSent (s : State) (r : RegDef) (die inst idx v : Nat) : (s.wr r die inst idx v).cnpSent = s.cnpSent := rfl
@[simp] theorem State.wr_cnpCut (s : State) (r : RegDef) (die inst idx v : Nat) : (s.wr r die inst idx v).cnpCut = s.cnpCut := rfl
@[simp] theorem State.wr_flash (s : State) (r : RegDef) (die inst idx v : Nat) : (s.wr r die inst idx v).flash = s.flash := rfl
@[simp] theorem State.wr_install (s : State) (r : RegDef) (die inst idx v : Nat) : (s.wr r die inst idx v).install = s.install := rfl
@[simp] theorem State.wr_aon (s : State) (r : RegDef) (die inst idx v : Nat) : (s.wr r die inst idx v).aon = s.aon := rfl
@[simp] theorem State.wr_power (s : State) (r : RegDef) (die inst idx v : Nat) : (s.wr r die inst idx v).power = s.power := rfl
@[simp] theorem State.wr_resets (s : State) (r : RegDef) (die inst idx v : Nat) : (s.wr r die inst idx v).resets = s.resets := rfl
@[simp] theorem State.wr_hung (s : State) (r : RegDef) (die inst idx v : Nat) : (s.wr r die inst idx v).hung = s.hung := rfl
@[simp] theorem State.wr_quars (s : State) (r : RegDef) (die inst idx v : Nat) : (s.wr r die inst idx v).quars = s.quars := rfl
@[simp] theorem State.wr_dump (s : State) (r : RegDef) (die inst idx v : Nat) : (s.wr r die inst idx v).dump = s.dump := rfl
@[simp] theorem State.wr_dumpSeq (s : State) (r : RegDef) (die inst idx v : Nat) : (s.wr r die inst idx v).dumpSeq = s.dumpSeq := rfl
@[simp] theorem State.wr_tap (s : State) (r : RegDef) (die inst idx v : Nat) : (s.wr r die inst idx v).tap = s.tap := rfl
@[simp] theorem State.wr_j20Wait (s : State) (r : RegDef) (die inst idx v : Nat) : (s.wr r die inst idx v).j20Wait = s.j20Wait := rfl

@[simp] theorem State.put_pending (s : State) (f : Fld) (v die inst idx : Nat) : (s.put f v die inst idx).pending = s.pending := rfl
@[simp] theorem State.put_out (s : State) (f : Fld) (v die inst idx : Nat) : (s.put f v die inst idx).out = s.out := rfl
@[simp] theorem State.put_fresh (s : State) (f : Fld) (v die inst idx : Nat) : (s.put f v die inst idx).fresh = s.fresh := rfl
@[simp] theorem State.put_mem (s : State) (f : Fld) (v die inst idx : Nat) : (s.put f v die inst idx).mem = s.mem := rfl
@[simp] theorem State.put_recs (s : State) (f : Fld) (v die inst idx : Nat) : (s.put f v die inst idx).recs = s.recs := rfl
@[simp] theorem State.put_fog (s : State) (f : Fld) (v die inst idx : Nat) : (s.put f v die inst idx).fog = s.fog := rfl
@[simp] theorem State.put_active (s : State) (f : Fld) (v die inst idx : Nat) : (s.put f v die inst idx).active = s.active := rfl
@[simp] theorem State.put_mx (s : State) (f : Fld) (v die inst idx : Nat) : (s.put f v die inst idx).mx = s.mx := rfl
@[simp] theorem State.put_tiles (s : State) (f : Fld) (v die inst idx : Nat) : (s.put f v die inst idx).tiles = s.tiles := rfl
@[simp] theorem State.put_tbs (s : State) (f : Fld) (v die inst idx : Nat) : (s.put f v die inst idx).tbs = s.tbs := rfl
@[simp] theorem State.put_fmtCopy (s : State) (f : Fld) (v die inst idx : Nat) : (s.put f v die inst idx).fmtCopy = s.fmtCopy := rfl
@[simp] theorem State.put_mons (s : State) (f : Fld) (v die inst idx : Nat) : (s.put f v die inst idx).mons = s.mons := rfl
@[simp] theorem State.put_movers (s : State) (f : Fld) (v die inst idx : Nat) : (s.put f v die inst idx).movers = s.movers := rfl
@[simp] theorem State.put_qcnt (s : State) (f : Fld) (v die inst idx : Nat) : (s.put f v die inst idx).qcnt = s.qcnt := rfl
@[simp] theorem State.put_rlc (s : State) (f : Fld) (v die inst idx : Nat) : (s.put f v die inst idx).rlc = s.rlc := rfl
@[simp] theorem State.put_fills (s : State) (f : Fld) (v die inst idx : Nat) : (s.put f v die inst idx).fills = s.fills := rfl
@[simp] theorem State.put_invWaits (s : State) (f : Fld) (v die inst idx : Nat) : (s.put f v die inst idx).invWaits = s.invWaits := rfl
@[simp] theorem State.put_arbs (s : State) (f : Fld) (v die inst idx : Nat) : (s.put f v die inst idx).arbs = s.arbs := rfl
@[simp] theorem State.put_scrubAt (s : State) (f : Fld) (v die inst idx : Nat) : (s.put f v die inst idx).scrubAt = s.scrubAt := rfl
@[simp] theorem State.put_qps (s : State) (f : Fld) (v die inst idx : Nat) : (s.put f v die inst idx).qps = s.qps := rfl
@[simp] theorem State.put_latLayers (s : State) (f : Fld) (v die inst idx : Nat) : (s.put f v die inst idx).latLayers = s.latLayers := rfl
@[simp] theorem State.put_latScale (s : State) (f : Fld) (v die inst idx : Nat) : (s.put f v die inst idx).latScale = s.latScale := rfl
@[simp] theorem State.put_inodes (s : State) (f : Fld) (v die inst idx : Nat) : (s.put f v die inst idx).inodes = s.inodes := rfl
@[simp] theorem State.put_stageQ (s : State) (f : Fld) (v die inst idx : Nat) : (s.put f v die inst idx).stageQ = s.stageQ := rfl
@[simp] theorem State.put_bodies (s : State) (f : Fld) (v die inst idx : Nat) : (s.put f v die inst idx).bodies = s.bodies := rfl
@[simp] theorem State.put_resv (s : State) (f : Fld) (v die inst idx : Nat) : (s.put f v die inst idx).resv = s.resv := rfl
@[simp] theorem State.put_steps (s : State) (f : Fld) (v die inst idx : Nat) : (s.put f v die inst idx).steps = s.steps := rfl
@[simp] theorem State.put_upds (s : State) (f : Fld) (v die inst idx : Nat) : (s.put f v die inst idx).upds = s.upds := rfl
@[simp] theorem State.put_chans (s : State) (f : Fld) (v die inst idx : Nat) : (s.put f v die inst idx).chans = s.chans := rfl
@[simp] theorem State.put_waitTx (s : State) (f : Fld) (v die inst idx : Nat) : (s.put f v die inst idx).waitTx = s.waitTx := rfl
@[simp] theorem State.put_seams (s : State) (f : Fld) (v die inst idx : Nat) : (s.put f v die inst idx).seams = s.seams := rfl
@[simp] theorem State.put_weaves (s : State) (f : Fld) (v die inst idx : Nat) : (s.put f v die inst idx).weaves = s.weaves := rfl
@[simp] theorem State.put_peerVer (s : State) (f : Fld) (v die inst idx : Nat) : (s.put f v die inst idx).peerVer = s.peerVer := rfl
@[simp] theorem State.put_held (s : State) (f : Fld) (v die inst idx : Nat) : (s.put f v die inst idx).held = s.held := rfl
@[simp] theorem State.put_fences (s : State) (f : Fld) (v die inst idx : Nat) : (s.put f v die inst idx).fences = s.fences := rfl
@[simp] theorem State.put_fenceCount (s : State) (f : Fld) (v die inst idx : Nat) : (s.put f v die inst idx).fenceCount = s.fenceCount := rfl
@[simp] theorem State.put_sessions (s : State) (f : Fld) (v die inst idx : Nat) : (s.put f v die inst idx).sessions = s.sessions := rfl
@[simp] theorem State.put_openings (s : State) (f : Fld) (v die inst idx : Nat) : (s.put f v die inst idx).openings = s.openings := rfl
@[simp] theorem State.put_octQ (s : State) (f : Fld) (v die inst idx : Nat) : (s.put f v die inst idx).octQ = s.octQ := rfl
@[simp] theorem State.put_octBusy (s : State) (f : Fld) (v die inst idx : Nat) : (s.put f v die inst idx).octBusy = s.octBusy := rfl
@[simp] theorem State.put_octWait (s : State) (f : Fld) (v die inst idx : Nat) : (s.put f v die inst idx).octWait = s.octWait := rfl
@[simp] theorem State.put_starts (s : State) (f : Fld) (v die inst idx : Nat) : (s.put f v die inst idx).starts = s.starts := rfl
@[simp] theorem State.put_eth (s : State) (f : Fld) (v die inst idx : Nat) : (s.put f v die inst idx).eth = s.eth := rfl
@[simp] theorem State.put_cnpSent (s : State) (f : Fld) (v die inst idx : Nat) : (s.put f v die inst idx).cnpSent = s.cnpSent := rfl
@[simp] theorem State.put_cnpCut (s : State) (f : Fld) (v die inst idx : Nat) : (s.put f v die inst idx).cnpCut = s.cnpCut := rfl
@[simp] theorem State.put_flash (s : State) (f : Fld) (v die inst idx : Nat) : (s.put f v die inst idx).flash = s.flash := rfl
@[simp] theorem State.put_install (s : State) (f : Fld) (v die inst idx : Nat) : (s.put f v die inst idx).install = s.install := rfl
@[simp] theorem State.put_aon (s : State) (f : Fld) (v die inst idx : Nat) : (s.put f v die inst idx).aon = s.aon := rfl
@[simp] theorem State.put_power (s : State) (f : Fld) (v die inst idx : Nat) : (s.put f v die inst idx).power = s.power := rfl
@[simp] theorem State.put_resets (s : State) (f : Fld) (v die inst idx : Nat) : (s.put f v die inst idx).resets = s.resets := rfl
@[simp] theorem State.put_hung (s : State) (f : Fld) (v die inst idx : Nat) : (s.put f v die inst idx).hung = s.hung := rfl
@[simp] theorem State.put_quars (s : State) (f : Fld) (v die inst idx : Nat) : (s.put f v die inst idx).quars = s.quars := rfl
@[simp] theorem State.put_dump (s : State) (f : Fld) (v die inst idx : Nat) : (s.put f v die inst idx).dump = s.dump := rfl
@[simp] theorem State.put_dumpSeq (s : State) (f : Fld) (v die inst idx : Nat) : (s.put f v die inst idx).dumpSeq = s.dumpSeq := rfl
@[simp] theorem State.put_tap (s : State) (f : Fld) (v die inst idx : Nat) : (s.put f v die inst idx).tap = s.tap := rfl
@[simp] theorem State.put_j20Wait (s : State) (f : Fld) (v die inst idx : Nat) : (s.put f v die inst idx).j20Wait = s.j20Wait := rfl

@[simp] theorem State.set1_pending (s : State) (f : Fld) (die inst idx : Nat) : (s.set1 f die inst idx).pending = s.pending := rfl
@[simp] theorem State.set1_out (s : State) (f : Fld) (die inst idx : Nat) : (s.set1 f die inst idx).out = s.out := rfl
@[simp] theorem State.set1_fresh (s : State) (f : Fld) (die inst idx : Nat) : (s.set1 f die inst idx).fresh = s.fresh := rfl
@[simp] theorem State.set1_mem (s : State) (f : Fld) (die inst idx : Nat) : (s.set1 f die inst idx).mem = s.mem := rfl
@[simp] theorem State.set1_recs (s : State) (f : Fld) (die inst idx : Nat) : (s.set1 f die inst idx).recs = s.recs := rfl
@[simp] theorem State.set1_fog (s : State) (f : Fld) (die inst idx : Nat) : (s.set1 f die inst idx).fog = s.fog := rfl
@[simp] theorem State.set1_active (s : State) (f : Fld) (die inst idx : Nat) : (s.set1 f die inst idx).active = s.active := rfl
@[simp] theorem State.set1_mx (s : State) (f : Fld) (die inst idx : Nat) : (s.set1 f die inst idx).mx = s.mx := rfl
@[simp] theorem State.set1_tiles (s : State) (f : Fld) (die inst idx : Nat) : (s.set1 f die inst idx).tiles = s.tiles := rfl
@[simp] theorem State.set1_tbs (s : State) (f : Fld) (die inst idx : Nat) : (s.set1 f die inst idx).tbs = s.tbs := rfl
@[simp] theorem State.set1_fmtCopy (s : State) (f : Fld) (die inst idx : Nat) : (s.set1 f die inst idx).fmtCopy = s.fmtCopy := rfl
@[simp] theorem State.set1_mons (s : State) (f : Fld) (die inst idx : Nat) : (s.set1 f die inst idx).mons = s.mons := rfl
@[simp] theorem State.set1_movers (s : State) (f : Fld) (die inst idx : Nat) : (s.set1 f die inst idx).movers = s.movers := rfl
@[simp] theorem State.set1_qcnt (s : State) (f : Fld) (die inst idx : Nat) : (s.set1 f die inst idx).qcnt = s.qcnt := rfl
@[simp] theorem State.set1_rlc (s : State) (f : Fld) (die inst idx : Nat) : (s.set1 f die inst idx).rlc = s.rlc := rfl
@[simp] theorem State.set1_fills (s : State) (f : Fld) (die inst idx : Nat) : (s.set1 f die inst idx).fills = s.fills := rfl
@[simp] theorem State.set1_invWaits (s : State) (f : Fld) (die inst idx : Nat) : (s.set1 f die inst idx).invWaits = s.invWaits := rfl
@[simp] theorem State.set1_arbs (s : State) (f : Fld) (die inst idx : Nat) : (s.set1 f die inst idx).arbs = s.arbs := rfl
@[simp] theorem State.set1_scrubAt (s : State) (f : Fld) (die inst idx : Nat) : (s.set1 f die inst idx).scrubAt = s.scrubAt := rfl
@[simp] theorem State.set1_qps (s : State) (f : Fld) (die inst idx : Nat) : (s.set1 f die inst idx).qps = s.qps := rfl
@[simp] theorem State.set1_latLayers (s : State) (f : Fld) (die inst idx : Nat) : (s.set1 f die inst idx).latLayers = s.latLayers := rfl
@[simp] theorem State.set1_latScale (s : State) (f : Fld) (die inst idx : Nat) : (s.set1 f die inst idx).latScale = s.latScale := rfl
@[simp] theorem State.set1_inodes (s : State) (f : Fld) (die inst idx : Nat) : (s.set1 f die inst idx).inodes = s.inodes := rfl
@[simp] theorem State.set1_stageQ (s : State) (f : Fld) (die inst idx : Nat) : (s.set1 f die inst idx).stageQ = s.stageQ := rfl
@[simp] theorem State.set1_bodies (s : State) (f : Fld) (die inst idx : Nat) : (s.set1 f die inst idx).bodies = s.bodies := rfl
@[simp] theorem State.set1_resv (s : State) (f : Fld) (die inst idx : Nat) : (s.set1 f die inst idx).resv = s.resv := rfl
@[simp] theorem State.set1_steps (s : State) (f : Fld) (die inst idx : Nat) : (s.set1 f die inst idx).steps = s.steps := rfl
@[simp] theorem State.set1_upds (s : State) (f : Fld) (die inst idx : Nat) : (s.set1 f die inst idx).upds = s.upds := rfl
@[simp] theorem State.set1_chans (s : State) (f : Fld) (die inst idx : Nat) : (s.set1 f die inst idx).chans = s.chans := rfl
@[simp] theorem State.set1_waitTx (s : State) (f : Fld) (die inst idx : Nat) : (s.set1 f die inst idx).waitTx = s.waitTx := rfl
@[simp] theorem State.set1_seams (s : State) (f : Fld) (die inst idx : Nat) : (s.set1 f die inst idx).seams = s.seams := rfl
@[simp] theorem State.set1_weaves (s : State) (f : Fld) (die inst idx : Nat) : (s.set1 f die inst idx).weaves = s.weaves := rfl
@[simp] theorem State.set1_peerVer (s : State) (f : Fld) (die inst idx : Nat) : (s.set1 f die inst idx).peerVer = s.peerVer := rfl
@[simp] theorem State.set1_held (s : State) (f : Fld) (die inst idx : Nat) : (s.set1 f die inst idx).held = s.held := rfl
@[simp] theorem State.set1_fences (s : State) (f : Fld) (die inst idx : Nat) : (s.set1 f die inst idx).fences = s.fences := rfl
@[simp] theorem State.set1_fenceCount (s : State) (f : Fld) (die inst idx : Nat) : (s.set1 f die inst idx).fenceCount = s.fenceCount := rfl
@[simp] theorem State.set1_sessions (s : State) (f : Fld) (die inst idx : Nat) : (s.set1 f die inst idx).sessions = s.sessions := rfl
@[simp] theorem State.set1_openings (s : State) (f : Fld) (die inst idx : Nat) : (s.set1 f die inst idx).openings = s.openings := rfl
@[simp] theorem State.set1_octQ (s : State) (f : Fld) (die inst idx : Nat) : (s.set1 f die inst idx).octQ = s.octQ := rfl
@[simp] theorem State.set1_octBusy (s : State) (f : Fld) (die inst idx : Nat) : (s.set1 f die inst idx).octBusy = s.octBusy := rfl
@[simp] theorem State.set1_octWait (s : State) (f : Fld) (die inst idx : Nat) : (s.set1 f die inst idx).octWait = s.octWait := rfl
@[simp] theorem State.set1_starts (s : State) (f : Fld) (die inst idx : Nat) : (s.set1 f die inst idx).starts = s.starts := rfl
@[simp] theorem State.set1_eth (s : State) (f : Fld) (die inst idx : Nat) : (s.set1 f die inst idx).eth = s.eth := rfl
@[simp] theorem State.set1_cnpSent (s : State) (f : Fld) (die inst idx : Nat) : (s.set1 f die inst idx).cnpSent = s.cnpSent := rfl
@[simp] theorem State.set1_cnpCut (s : State) (f : Fld) (die inst idx : Nat) : (s.set1 f die inst idx).cnpCut = s.cnpCut := rfl
@[simp] theorem State.set1_flash (s : State) (f : Fld) (die inst idx : Nat) : (s.set1 f die inst idx).flash = s.flash := rfl
@[simp] theorem State.set1_install (s : State) (f : Fld) (die inst idx : Nat) : (s.set1 f die inst idx).install = s.install := rfl
@[simp] theorem State.set1_aon (s : State) (f : Fld) (die inst idx : Nat) : (s.set1 f die inst idx).aon = s.aon := rfl
@[simp] theorem State.set1_power (s : State) (f : Fld) (die inst idx : Nat) : (s.set1 f die inst idx).power = s.power := rfl
@[simp] theorem State.set1_resets (s : State) (f : Fld) (die inst idx : Nat) : (s.set1 f die inst idx).resets = s.resets := rfl
@[simp] theorem State.set1_hung (s : State) (f : Fld) (die inst idx : Nat) : (s.set1 f die inst idx).hung = s.hung := rfl
@[simp] theorem State.set1_quars (s : State) (f : Fld) (die inst idx : Nat) : (s.set1 f die inst idx).quars = s.quars := rfl
@[simp] theorem State.set1_dump (s : State) (f : Fld) (die inst idx : Nat) : (s.set1 f die inst idx).dump = s.dump := rfl
@[simp] theorem State.set1_dumpSeq (s : State) (f : Fld) (die inst idx : Nat) : (s.set1 f die inst idx).dumpSeq = s.dumpSeq := rfl
@[simp] theorem State.set1_tap (s : State) (f : Fld) (die inst idx : Nat) : (s.set1 f die inst idx).tap = s.tap := rfl
@[simp] theorem State.set1_j20Wait (s : State) (f : Fld) (die inst idx : Nat) : (s.set1 f die inst idx).j20Wait = s.j20Wait := rfl

@[simp] theorem State.count_pending (s : State) (f : Fld) (n die inst idx : Nat) : (s.count f n die inst idx).pending = s.pending := rfl
@[simp] theorem State.count_out (s : State) (f : Fld) (n die inst idx : Nat) : (s.count f n die inst idx).out = s.out := rfl
@[simp] theorem State.count_fresh (s : State) (f : Fld) (n die inst idx : Nat) : (s.count f n die inst idx).fresh = s.fresh := rfl
@[simp] theorem State.count_mem (s : State) (f : Fld) (n die inst idx : Nat) : (s.count f n die inst idx).mem = s.mem := rfl
@[simp] theorem State.count_recs (s : State) (f : Fld) (n die inst idx : Nat) : (s.count f n die inst idx).recs = s.recs := rfl
@[simp] theorem State.count_fog (s : State) (f : Fld) (n die inst idx : Nat) : (s.count f n die inst idx).fog = s.fog := rfl
@[simp] theorem State.count_active (s : State) (f : Fld) (n die inst idx : Nat) : (s.count f n die inst idx).active = s.active := rfl
@[simp] theorem State.count_mx (s : State) (f : Fld) (n die inst idx : Nat) : (s.count f n die inst idx).mx = s.mx := rfl
@[simp] theorem State.count_tiles (s : State) (f : Fld) (n die inst idx : Nat) : (s.count f n die inst idx).tiles = s.tiles := rfl
@[simp] theorem State.count_tbs (s : State) (f : Fld) (n die inst idx : Nat) : (s.count f n die inst idx).tbs = s.tbs := rfl
@[simp] theorem State.count_fmtCopy (s : State) (f : Fld) (n die inst idx : Nat) : (s.count f n die inst idx).fmtCopy = s.fmtCopy := rfl
@[simp] theorem State.count_mons (s : State) (f : Fld) (n die inst idx : Nat) : (s.count f n die inst idx).mons = s.mons := rfl
@[simp] theorem State.count_movers (s : State) (f : Fld) (n die inst idx : Nat) : (s.count f n die inst idx).movers = s.movers := rfl
@[simp] theorem State.count_qcnt (s : State) (f : Fld) (n die inst idx : Nat) : (s.count f n die inst idx).qcnt = s.qcnt := rfl
@[simp] theorem State.count_rlc (s : State) (f : Fld) (n die inst idx : Nat) : (s.count f n die inst idx).rlc = s.rlc := rfl
@[simp] theorem State.count_fills (s : State) (f : Fld) (n die inst idx : Nat) : (s.count f n die inst idx).fills = s.fills := rfl
@[simp] theorem State.count_invWaits (s : State) (f : Fld) (n die inst idx : Nat) : (s.count f n die inst idx).invWaits = s.invWaits := rfl
@[simp] theorem State.count_arbs (s : State) (f : Fld) (n die inst idx : Nat) : (s.count f n die inst idx).arbs = s.arbs := rfl
@[simp] theorem State.count_scrubAt (s : State) (f : Fld) (n die inst idx : Nat) : (s.count f n die inst idx).scrubAt = s.scrubAt := rfl
@[simp] theorem State.count_qps (s : State) (f : Fld) (n die inst idx : Nat) : (s.count f n die inst idx).qps = s.qps := rfl
@[simp] theorem State.count_latLayers (s : State) (f : Fld) (n die inst idx : Nat) : (s.count f n die inst idx).latLayers = s.latLayers := rfl
@[simp] theorem State.count_latScale (s : State) (f : Fld) (n die inst idx : Nat) : (s.count f n die inst idx).latScale = s.latScale := rfl
@[simp] theorem State.count_inodes (s : State) (f : Fld) (n die inst idx : Nat) : (s.count f n die inst idx).inodes = s.inodes := rfl
@[simp] theorem State.count_stageQ (s : State) (f : Fld) (n die inst idx : Nat) : (s.count f n die inst idx).stageQ = s.stageQ := rfl
@[simp] theorem State.count_bodies (s : State) (f : Fld) (n die inst idx : Nat) : (s.count f n die inst idx).bodies = s.bodies := rfl
@[simp] theorem State.count_resv (s : State) (f : Fld) (n die inst idx : Nat) : (s.count f n die inst idx).resv = s.resv := rfl
@[simp] theorem State.count_steps (s : State) (f : Fld) (n die inst idx : Nat) : (s.count f n die inst idx).steps = s.steps := rfl
@[simp] theorem State.count_upds (s : State) (f : Fld) (n die inst idx : Nat) : (s.count f n die inst idx).upds = s.upds := rfl
@[simp] theorem State.count_chans (s : State) (f : Fld) (n die inst idx : Nat) : (s.count f n die inst idx).chans = s.chans := rfl
@[simp] theorem State.count_waitTx (s : State) (f : Fld) (n die inst idx : Nat) : (s.count f n die inst idx).waitTx = s.waitTx := rfl
@[simp] theorem State.count_seams (s : State) (f : Fld) (n die inst idx : Nat) : (s.count f n die inst idx).seams = s.seams := rfl
@[simp] theorem State.count_weaves (s : State) (f : Fld) (n die inst idx : Nat) : (s.count f n die inst idx).weaves = s.weaves := rfl
@[simp] theorem State.count_peerVer (s : State) (f : Fld) (n die inst idx : Nat) : (s.count f n die inst idx).peerVer = s.peerVer := rfl
@[simp] theorem State.count_held (s : State) (f : Fld) (n die inst idx : Nat) : (s.count f n die inst idx).held = s.held := rfl
@[simp] theorem State.count_fences (s : State) (f : Fld) (n die inst idx : Nat) : (s.count f n die inst idx).fences = s.fences := rfl
@[simp] theorem State.count_fenceCount (s : State) (f : Fld) (n die inst idx : Nat) : (s.count f n die inst idx).fenceCount = s.fenceCount := rfl
@[simp] theorem State.count_sessions (s : State) (f : Fld) (n die inst idx : Nat) : (s.count f n die inst idx).sessions = s.sessions := rfl
@[simp] theorem State.count_openings (s : State) (f : Fld) (n die inst idx : Nat) : (s.count f n die inst idx).openings = s.openings := rfl
@[simp] theorem State.count_octQ (s : State) (f : Fld) (n die inst idx : Nat) : (s.count f n die inst idx).octQ = s.octQ := rfl
@[simp] theorem State.count_octBusy (s : State) (f : Fld) (n die inst idx : Nat) : (s.count f n die inst idx).octBusy = s.octBusy := rfl
@[simp] theorem State.count_octWait (s : State) (f : Fld) (n die inst idx : Nat) : (s.count f n die inst idx).octWait = s.octWait := rfl
@[simp] theorem State.count_starts (s : State) (f : Fld) (n die inst idx : Nat) : (s.count f n die inst idx).starts = s.starts := rfl
@[simp] theorem State.count_eth (s : State) (f : Fld) (n die inst idx : Nat) : (s.count f n die inst idx).eth = s.eth := rfl
@[simp] theorem State.count_cnpSent (s : State) (f : Fld) (n die inst idx : Nat) : (s.count f n die inst idx).cnpSent = s.cnpSent := rfl
@[simp] theorem State.count_cnpCut (s : State) (f : Fld) (n die inst idx : Nat) : (s.count f n die inst idx).cnpCut = s.cnpCut := rfl
@[simp] theorem State.count_flash (s : State) (f : Fld) (n die inst idx : Nat) : (s.count f n die inst idx).flash = s.flash := rfl
@[simp] theorem State.count_install (s : State) (f : Fld) (n die inst idx : Nat) : (s.count f n die inst idx).install = s.install := rfl
@[simp] theorem State.count_aon (s : State) (f : Fld) (n die inst idx : Nat) : (s.count f n die inst idx).aon = s.aon := rfl
@[simp] theorem State.count_power (s : State) (f : Fld) (n die inst idx : Nat) : (s.count f n die inst idx).power = s.power := rfl
@[simp] theorem State.count_resets (s : State) (f : Fld) (n die inst idx : Nat) : (s.count f n die inst idx).resets = s.resets := rfl
@[simp] theorem State.count_hung (s : State) (f : Fld) (n die inst idx : Nat) : (s.count f n die inst idx).hung = s.hung := rfl
@[simp] theorem State.count_quars (s : State) (f : Fld) (n die inst idx : Nat) : (s.count f n die inst idx).quars = s.quars := rfl
@[simp] theorem State.count_dump (s : State) (f : Fld) (n die inst idx : Nat) : (s.count f n die inst idx).dump = s.dump := rfl
@[simp] theorem State.count_dumpSeq (s : State) (f : Fld) (n die inst idx : Nat) : (s.count f n die inst idx).dumpSeq = s.dumpSeq := rfl
@[simp] theorem State.count_tap (s : State) (f : Fld) (n die inst idx : Nat) : (s.count f n die inst idx).tap = s.tap := rfl
@[simp] theorem State.count_j20Wait (s : State) (f : Fld) (n die inst idx : Nat) : (s.count f n die inst idx).j20Wait = s.j20Wait := rfl

@[simp] theorem State.countSat_pending (s : State) (f : Fld) (n die inst idx : Nat) : (s.countSat f n die inst idx).pending = s.pending := rfl
@[simp] theorem State.countSat_out (s : State) (f : Fld) (n die inst idx : Nat) : (s.countSat f n die inst idx).out = s.out := rfl
@[simp] theorem State.countSat_fresh (s : State) (f : Fld) (n die inst idx : Nat) : (s.countSat f n die inst idx).fresh = s.fresh := rfl
@[simp] theorem State.countSat_mem (s : State) (f : Fld) (n die inst idx : Nat) : (s.countSat f n die inst idx).mem = s.mem := rfl
@[simp] theorem State.countSat_recs (s : State) (f : Fld) (n die inst idx : Nat) : (s.countSat f n die inst idx).recs = s.recs := rfl
@[simp] theorem State.countSat_fog (s : State) (f : Fld) (n die inst idx : Nat) : (s.countSat f n die inst idx).fog = s.fog := rfl
@[simp] theorem State.countSat_active (s : State) (f : Fld) (n die inst idx : Nat) : (s.countSat f n die inst idx).active = s.active := rfl
@[simp] theorem State.countSat_mx (s : State) (f : Fld) (n die inst idx : Nat) : (s.countSat f n die inst idx).mx = s.mx := rfl
@[simp] theorem State.countSat_tiles (s : State) (f : Fld) (n die inst idx : Nat) : (s.countSat f n die inst idx).tiles = s.tiles := rfl
@[simp] theorem State.countSat_tbs (s : State) (f : Fld) (n die inst idx : Nat) : (s.countSat f n die inst idx).tbs = s.tbs := rfl
@[simp] theorem State.countSat_fmtCopy (s : State) (f : Fld) (n die inst idx : Nat) : (s.countSat f n die inst idx).fmtCopy = s.fmtCopy := rfl
@[simp] theorem State.countSat_mons (s : State) (f : Fld) (n die inst idx : Nat) : (s.countSat f n die inst idx).mons = s.mons := rfl
@[simp] theorem State.countSat_movers (s : State) (f : Fld) (n die inst idx : Nat) : (s.countSat f n die inst idx).movers = s.movers := rfl
@[simp] theorem State.countSat_qcnt (s : State) (f : Fld) (n die inst idx : Nat) : (s.countSat f n die inst idx).qcnt = s.qcnt := rfl
@[simp] theorem State.countSat_rlc (s : State) (f : Fld) (n die inst idx : Nat) : (s.countSat f n die inst idx).rlc = s.rlc := rfl
@[simp] theorem State.countSat_fills (s : State) (f : Fld) (n die inst idx : Nat) : (s.countSat f n die inst idx).fills = s.fills := rfl
@[simp] theorem State.countSat_invWaits (s : State) (f : Fld) (n die inst idx : Nat) : (s.countSat f n die inst idx).invWaits = s.invWaits := rfl
@[simp] theorem State.countSat_arbs (s : State) (f : Fld) (n die inst idx : Nat) : (s.countSat f n die inst idx).arbs = s.arbs := rfl
@[simp] theorem State.countSat_scrubAt (s : State) (f : Fld) (n die inst idx : Nat) : (s.countSat f n die inst idx).scrubAt = s.scrubAt := rfl
@[simp] theorem State.countSat_qps (s : State) (f : Fld) (n die inst idx : Nat) : (s.countSat f n die inst idx).qps = s.qps := rfl
@[simp] theorem State.countSat_latLayers (s : State) (f : Fld) (n die inst idx : Nat) : (s.countSat f n die inst idx).latLayers = s.latLayers := rfl
@[simp] theorem State.countSat_latScale (s : State) (f : Fld) (n die inst idx : Nat) : (s.countSat f n die inst idx).latScale = s.latScale := rfl
@[simp] theorem State.countSat_inodes (s : State) (f : Fld) (n die inst idx : Nat) : (s.countSat f n die inst idx).inodes = s.inodes := rfl
@[simp] theorem State.countSat_stageQ (s : State) (f : Fld) (n die inst idx : Nat) : (s.countSat f n die inst idx).stageQ = s.stageQ := rfl
@[simp] theorem State.countSat_bodies (s : State) (f : Fld) (n die inst idx : Nat) : (s.countSat f n die inst idx).bodies = s.bodies := rfl
@[simp] theorem State.countSat_resv (s : State) (f : Fld) (n die inst idx : Nat) : (s.countSat f n die inst idx).resv = s.resv := rfl
@[simp] theorem State.countSat_steps (s : State) (f : Fld) (n die inst idx : Nat) : (s.countSat f n die inst idx).steps = s.steps := rfl
@[simp] theorem State.countSat_upds (s : State) (f : Fld) (n die inst idx : Nat) : (s.countSat f n die inst idx).upds = s.upds := rfl
@[simp] theorem State.countSat_chans (s : State) (f : Fld) (n die inst idx : Nat) : (s.countSat f n die inst idx).chans = s.chans := rfl
@[simp] theorem State.countSat_waitTx (s : State) (f : Fld) (n die inst idx : Nat) : (s.countSat f n die inst idx).waitTx = s.waitTx := rfl
@[simp] theorem State.countSat_seams (s : State) (f : Fld) (n die inst idx : Nat) : (s.countSat f n die inst idx).seams = s.seams := rfl
@[simp] theorem State.countSat_weaves (s : State) (f : Fld) (n die inst idx : Nat) : (s.countSat f n die inst idx).weaves = s.weaves := rfl
@[simp] theorem State.countSat_peerVer (s : State) (f : Fld) (n die inst idx : Nat) : (s.countSat f n die inst idx).peerVer = s.peerVer := rfl
@[simp] theorem State.countSat_held (s : State) (f : Fld) (n die inst idx : Nat) : (s.countSat f n die inst idx).held = s.held := rfl
@[simp] theorem State.countSat_fences (s : State) (f : Fld) (n die inst idx : Nat) : (s.countSat f n die inst idx).fences = s.fences := rfl
@[simp] theorem State.countSat_fenceCount (s : State) (f : Fld) (n die inst idx : Nat) : (s.countSat f n die inst idx).fenceCount = s.fenceCount := rfl
@[simp] theorem State.countSat_sessions (s : State) (f : Fld) (n die inst idx : Nat) : (s.countSat f n die inst idx).sessions = s.sessions := rfl
@[simp] theorem State.countSat_openings (s : State) (f : Fld) (n die inst idx : Nat) : (s.countSat f n die inst idx).openings = s.openings := rfl
@[simp] theorem State.countSat_octQ (s : State) (f : Fld) (n die inst idx : Nat) : (s.countSat f n die inst idx).octQ = s.octQ := rfl
@[simp] theorem State.countSat_octBusy (s : State) (f : Fld) (n die inst idx : Nat) : (s.countSat f n die inst idx).octBusy = s.octBusy := rfl
@[simp] theorem State.countSat_octWait (s : State) (f : Fld) (n die inst idx : Nat) : (s.countSat f n die inst idx).octWait = s.octWait := rfl
@[simp] theorem State.countSat_starts (s : State) (f : Fld) (n die inst idx : Nat) : (s.countSat f n die inst idx).starts = s.starts := rfl
@[simp] theorem State.countSat_eth (s : State) (f : Fld) (n die inst idx : Nat) : (s.countSat f n die inst idx).eth = s.eth := rfl
@[simp] theorem State.countSat_cnpSent (s : State) (f : Fld) (n die inst idx : Nat) : (s.countSat f n die inst idx).cnpSent = s.cnpSent := rfl
@[simp] theorem State.countSat_cnpCut (s : State) (f : Fld) (n die inst idx : Nat) : (s.countSat f n die inst idx).cnpCut = s.cnpCut := rfl
@[simp] theorem State.countSat_flash (s : State) (f : Fld) (n die inst idx : Nat) : (s.countSat f n die inst idx).flash = s.flash := rfl
@[simp] theorem State.countSat_install (s : State) (f : Fld) (n die inst idx : Nat) : (s.countSat f n die inst idx).install = s.install := rfl
@[simp] theorem State.countSat_aon (s : State) (f : Fld) (n die inst idx : Nat) : (s.countSat f n die inst idx).aon = s.aon := rfl
@[simp] theorem State.countSat_power (s : State) (f : Fld) (n die inst idx : Nat) : (s.countSat f n die inst idx).power = s.power := rfl
@[simp] theorem State.countSat_resets (s : State) (f : Fld) (n die inst idx : Nat) : (s.countSat f n die inst idx).resets = s.resets := rfl
@[simp] theorem State.countSat_hung (s : State) (f : Fld) (n die inst idx : Nat) : (s.countSat f n die inst idx).hung = s.hung := rfl
@[simp] theorem State.countSat_quars (s : State) (f : Fld) (n die inst idx : Nat) : (s.countSat f n die inst idx).quars = s.quars := rfl
@[simp] theorem State.countSat_dump (s : State) (f : Fld) (n die inst idx : Nat) : (s.countSat f n die inst idx).dump = s.dump := rfl
@[simp] theorem State.countSat_dumpSeq (s : State) (f : Fld) (n die inst idx : Nat) : (s.countSat f n die inst idx).dumpSeq = s.dumpSeq := rfl
@[simp] theorem State.countSat_tap (s : State) (f : Fld) (n die inst idx : Nat) : (s.countSat f n die inst idx).tap = s.tap := rfl
@[simp] theorem State.countSat_j20Wait (s : State) (f : Fld) (n die inst idx : Nat) : (s.countSat f n die inst idx).j20Wait = s.j20Wait := rfl

@[simp] theorem State.rst_pending (s : State) (r : RegDef) (die inst idx : Nat) : (s.rst r die inst idx).pending = s.pending := rfl
@[simp] theorem State.rst_out (s : State) (r : RegDef) (die inst idx : Nat) : (s.rst r die inst idx).out = s.out := rfl
@[simp] theorem State.rst_fresh (s : State) (r : RegDef) (die inst idx : Nat) : (s.rst r die inst idx).fresh = s.fresh := rfl
@[simp] theorem State.rst_mem (s : State) (r : RegDef) (die inst idx : Nat) : (s.rst r die inst idx).mem = s.mem := rfl
@[simp] theorem State.rst_recs (s : State) (r : RegDef) (die inst idx : Nat) : (s.rst r die inst idx).recs = s.recs := rfl
@[simp] theorem State.rst_fog (s : State) (r : RegDef) (die inst idx : Nat) : (s.rst r die inst idx).fog = s.fog := rfl
@[simp] theorem State.rst_active (s : State) (r : RegDef) (die inst idx : Nat) : (s.rst r die inst idx).active = s.active := rfl
@[simp] theorem State.rst_mx (s : State) (r : RegDef) (die inst idx : Nat) : (s.rst r die inst idx).mx = s.mx := rfl
@[simp] theorem State.rst_tiles (s : State) (r : RegDef) (die inst idx : Nat) : (s.rst r die inst idx).tiles = s.tiles := rfl
@[simp] theorem State.rst_tbs (s : State) (r : RegDef) (die inst idx : Nat) : (s.rst r die inst idx).tbs = s.tbs := rfl
@[simp] theorem State.rst_fmtCopy (s : State) (r : RegDef) (die inst idx : Nat) : (s.rst r die inst idx).fmtCopy = s.fmtCopy := rfl
@[simp] theorem State.rst_mons (s : State) (r : RegDef) (die inst idx : Nat) : (s.rst r die inst idx).mons = s.mons := rfl
@[simp] theorem State.rst_movers (s : State) (r : RegDef) (die inst idx : Nat) : (s.rst r die inst idx).movers = s.movers := rfl
@[simp] theorem State.rst_qcnt (s : State) (r : RegDef) (die inst idx : Nat) : (s.rst r die inst idx).qcnt = s.qcnt := rfl
@[simp] theorem State.rst_rlc (s : State) (r : RegDef) (die inst idx : Nat) : (s.rst r die inst idx).rlc = s.rlc := rfl
@[simp] theorem State.rst_fills (s : State) (r : RegDef) (die inst idx : Nat) : (s.rst r die inst idx).fills = s.fills := rfl
@[simp] theorem State.rst_invWaits (s : State) (r : RegDef) (die inst idx : Nat) : (s.rst r die inst idx).invWaits = s.invWaits := rfl
@[simp] theorem State.rst_arbs (s : State) (r : RegDef) (die inst idx : Nat) : (s.rst r die inst idx).arbs = s.arbs := rfl
@[simp] theorem State.rst_scrubAt (s : State) (r : RegDef) (die inst idx : Nat) : (s.rst r die inst idx).scrubAt = s.scrubAt := rfl
@[simp] theorem State.rst_qps (s : State) (r : RegDef) (die inst idx : Nat) : (s.rst r die inst idx).qps = s.qps := rfl
@[simp] theorem State.rst_latLayers (s : State) (r : RegDef) (die inst idx : Nat) : (s.rst r die inst idx).latLayers = s.latLayers := rfl
@[simp] theorem State.rst_latScale (s : State) (r : RegDef) (die inst idx : Nat) : (s.rst r die inst idx).latScale = s.latScale := rfl
@[simp] theorem State.rst_inodes (s : State) (r : RegDef) (die inst idx : Nat) : (s.rst r die inst idx).inodes = s.inodes := rfl
@[simp] theorem State.rst_stageQ (s : State) (r : RegDef) (die inst idx : Nat) : (s.rst r die inst idx).stageQ = s.stageQ := rfl
@[simp] theorem State.rst_bodies (s : State) (r : RegDef) (die inst idx : Nat) : (s.rst r die inst idx).bodies = s.bodies := rfl
@[simp] theorem State.rst_resv (s : State) (r : RegDef) (die inst idx : Nat) : (s.rst r die inst idx).resv = s.resv := rfl
@[simp] theorem State.rst_steps (s : State) (r : RegDef) (die inst idx : Nat) : (s.rst r die inst idx).steps = s.steps := rfl
@[simp] theorem State.rst_upds (s : State) (r : RegDef) (die inst idx : Nat) : (s.rst r die inst idx).upds = s.upds := rfl
@[simp] theorem State.rst_chans (s : State) (r : RegDef) (die inst idx : Nat) : (s.rst r die inst idx).chans = s.chans := rfl
@[simp] theorem State.rst_waitTx (s : State) (r : RegDef) (die inst idx : Nat) : (s.rst r die inst idx).waitTx = s.waitTx := rfl
@[simp] theorem State.rst_seams (s : State) (r : RegDef) (die inst idx : Nat) : (s.rst r die inst idx).seams = s.seams := rfl
@[simp] theorem State.rst_weaves (s : State) (r : RegDef) (die inst idx : Nat) : (s.rst r die inst idx).weaves = s.weaves := rfl
@[simp] theorem State.rst_peerVer (s : State) (r : RegDef) (die inst idx : Nat) : (s.rst r die inst idx).peerVer = s.peerVer := rfl
@[simp] theorem State.rst_held (s : State) (r : RegDef) (die inst idx : Nat) : (s.rst r die inst idx).held = s.held := rfl
@[simp] theorem State.rst_fences (s : State) (r : RegDef) (die inst idx : Nat) : (s.rst r die inst idx).fences = s.fences := rfl
@[simp] theorem State.rst_fenceCount (s : State) (r : RegDef) (die inst idx : Nat) : (s.rst r die inst idx).fenceCount = s.fenceCount := rfl
@[simp] theorem State.rst_sessions (s : State) (r : RegDef) (die inst idx : Nat) : (s.rst r die inst idx).sessions = s.sessions := rfl
@[simp] theorem State.rst_openings (s : State) (r : RegDef) (die inst idx : Nat) : (s.rst r die inst idx).openings = s.openings := rfl
@[simp] theorem State.rst_octQ (s : State) (r : RegDef) (die inst idx : Nat) : (s.rst r die inst idx).octQ = s.octQ := rfl
@[simp] theorem State.rst_octBusy (s : State) (r : RegDef) (die inst idx : Nat) : (s.rst r die inst idx).octBusy = s.octBusy := rfl
@[simp] theorem State.rst_octWait (s : State) (r : RegDef) (die inst idx : Nat) : (s.rst r die inst idx).octWait = s.octWait := rfl
@[simp] theorem State.rst_starts (s : State) (r : RegDef) (die inst idx : Nat) : (s.rst r die inst idx).starts = s.starts := rfl
@[simp] theorem State.rst_eth (s : State) (r : RegDef) (die inst idx : Nat) : (s.rst r die inst idx).eth = s.eth := rfl
@[simp] theorem State.rst_cnpSent (s : State) (r : RegDef) (die inst idx : Nat) : (s.rst r die inst idx).cnpSent = s.cnpSent := rfl
@[simp] theorem State.rst_cnpCut (s : State) (r : RegDef) (die inst idx : Nat) : (s.rst r die inst idx).cnpCut = s.cnpCut := rfl
@[simp] theorem State.rst_flash (s : State) (r : RegDef) (die inst idx : Nat) : (s.rst r die inst idx).flash = s.flash := rfl
@[simp] theorem State.rst_install (s : State) (r : RegDef) (die inst idx : Nat) : (s.rst r die inst idx).install = s.install := rfl
@[simp] theorem State.rst_aon (s : State) (r : RegDef) (die inst idx : Nat) : (s.rst r die inst idx).aon = s.aon := rfl
@[simp] theorem State.rst_power (s : State) (r : RegDef) (die inst idx : Nat) : (s.rst r die inst idx).power = s.power := rfl
@[simp] theorem State.rst_resets (s : State) (r : RegDef) (die inst idx : Nat) : (s.rst r die inst idx).resets = s.resets := rfl
@[simp] theorem State.rst_hung (s : State) (r : RegDef) (die inst idx : Nat) : (s.rst r die inst idx).hung = s.hung := rfl
@[simp] theorem State.rst_quars (s : State) (r : RegDef) (die inst idx : Nat) : (s.rst r die inst idx).quars = s.quars := rfl
@[simp] theorem State.rst_dump (s : State) (r : RegDef) (die inst idx : Nat) : (s.rst r die inst idx).dump = s.dump := rfl
@[simp] theorem State.rst_dumpSeq (s : State) (r : RegDef) (die inst idx : Nat) : (s.rst r die inst idx).dumpSeq = s.dumpSeq := rfl
@[simp] theorem State.rst_tap (s : State) (r : RegDef) (die inst idx : Nat) : (s.rst r die inst idx).tap = s.tap := rfl
@[simp] theorem State.rst_j20Wait (s : State) (r : RegDef) (die inst idx : Nat) : (s.rst r die inst idx).j20Wait = s.j20Wait := rfl

@[simp] theorem State.tick_pending (s : State) : s.tick.2.pending = s.pending := rfl
@[simp] theorem State.tick_out (s : State) : s.tick.2.out = s.out := rfl
@[simp] theorem State.tick_csr (s : State) : s.tick.2.csr = s.csr := rfl
@[simp] theorem State.tick_mem (s : State) : s.tick.2.mem = s.mem := rfl
@[simp] theorem State.tick_recs (s : State) : s.tick.2.recs = s.recs := rfl
@[simp] theorem State.tick_fog (s : State) : s.tick.2.fog = s.fog := rfl
@[simp] theorem State.tick_active (s : State) : s.tick.2.active = s.active := rfl
@[simp] theorem State.tick_mx (s : State) : s.tick.2.mx = s.mx := rfl
@[simp] theorem State.tick_tiles (s : State) : s.tick.2.tiles = s.tiles := rfl
@[simp] theorem State.tick_tbs (s : State) : s.tick.2.tbs = s.tbs := rfl
@[simp] theorem State.tick_fmtCopy (s : State) : s.tick.2.fmtCopy = s.fmtCopy := rfl
@[simp] theorem State.tick_mons (s : State) : s.tick.2.mons = s.mons := rfl
@[simp] theorem State.tick_movers (s : State) : s.tick.2.movers = s.movers := rfl
@[simp] theorem State.tick_qcnt (s : State) : s.tick.2.qcnt = s.qcnt := rfl
@[simp] theorem State.tick_rlc (s : State) : s.tick.2.rlc = s.rlc := rfl
@[simp] theorem State.tick_fills (s : State) : s.tick.2.fills = s.fills := rfl
@[simp] theorem State.tick_invWaits (s : State) : s.tick.2.invWaits = s.invWaits := rfl
@[simp] theorem State.tick_arbs (s : State) : s.tick.2.arbs = s.arbs := rfl
@[simp] theorem State.tick_scrubAt (s : State) : s.tick.2.scrubAt = s.scrubAt := rfl
@[simp] theorem State.tick_qps (s : State) : s.tick.2.qps = s.qps := rfl
@[simp] theorem State.tick_latLayers (s : State) : s.tick.2.latLayers = s.latLayers := rfl
@[simp] theorem State.tick_latScale (s : State) : s.tick.2.latScale = s.latScale := rfl
@[simp] theorem State.tick_inodes (s : State) : s.tick.2.inodes = s.inodes := rfl
@[simp] theorem State.tick_stageQ (s : State) : s.tick.2.stageQ = s.stageQ := rfl
@[simp] theorem State.tick_bodies (s : State) : s.tick.2.bodies = s.bodies := rfl
@[simp] theorem State.tick_resv (s : State) : s.tick.2.resv = s.resv := rfl
@[simp] theorem State.tick_steps (s : State) : s.tick.2.steps = s.steps := rfl
@[simp] theorem State.tick_upds (s : State) : s.tick.2.upds = s.upds := rfl
@[simp] theorem State.tick_chans (s : State) : s.tick.2.chans = s.chans := rfl
@[simp] theorem State.tick_waitTx (s : State) : s.tick.2.waitTx = s.waitTx := rfl
@[simp] theorem State.tick_seams (s : State) : s.tick.2.seams = s.seams := rfl
@[simp] theorem State.tick_weaves (s : State) : s.tick.2.weaves = s.weaves := rfl
@[simp] theorem State.tick_peerVer (s : State) : s.tick.2.peerVer = s.peerVer := rfl
@[simp] theorem State.tick_held (s : State) : s.tick.2.held = s.held := rfl
@[simp] theorem State.tick_fences (s : State) : s.tick.2.fences = s.fences := rfl
@[simp] theorem State.tick_fenceCount (s : State) : s.tick.2.fenceCount = s.fenceCount := rfl
@[simp] theorem State.tick_sessions (s : State) : s.tick.2.sessions = s.sessions := rfl
@[simp] theorem State.tick_openings (s : State) : s.tick.2.openings = s.openings := rfl
@[simp] theorem State.tick_octQ (s : State) : s.tick.2.octQ = s.octQ := rfl
@[simp] theorem State.tick_octBusy (s : State) : s.tick.2.octBusy = s.octBusy := rfl
@[simp] theorem State.tick_octWait (s : State) : s.tick.2.octWait = s.octWait := rfl
@[simp] theorem State.tick_starts (s : State) : s.tick.2.starts = s.starts := rfl
@[simp] theorem State.tick_eth (s : State) : s.tick.2.eth = s.eth := rfl
@[simp] theorem State.tick_cnpSent (s : State) : s.tick.2.cnpSent = s.cnpSent := rfl
@[simp] theorem State.tick_cnpCut (s : State) : s.tick.2.cnpCut = s.cnpCut := rfl
@[simp] theorem State.tick_flash (s : State) : s.tick.2.flash = s.flash := rfl
@[simp] theorem State.tick_install (s : State) : s.tick.2.install = s.install := rfl
@[simp] theorem State.tick_aon (s : State) : s.tick.2.aon = s.aon := rfl
@[simp] theorem State.tick_power (s : State) : s.tick.2.power = s.power := rfl
@[simp] theorem State.tick_resets (s : State) : s.tick.2.resets = s.resets := rfl
@[simp] theorem State.tick_hung (s : State) : s.tick.2.hung = s.hung := rfl
@[simp] theorem State.tick_quars (s : State) : s.tick.2.quars = s.quars := rfl
@[simp] theorem State.tick_dump (s : State) : s.tick.2.dump = s.dump := rfl
@[simp] theorem State.tick_dumpSeq (s : State) : s.tick.2.dumpSeq = s.dumpSeq := rfl
@[simp] theorem State.tick_tap (s : State) : s.tick.2.tap = s.tap := rfl
@[simp] theorem State.tick_j20Wait (s : State) : s.tick.2.j20Wait = s.j20Wait := rfl
@[simp] theorem State.tick_fresh (s : State) : s.tick.2.fresh = s.fresh + 1 := rfl
@[simp] theorem State.tick_key (s : State) : s.tick.1 = s.fresh := rfl

@[simp] theorem State.send_pending (s : State) (o : Out) : (s.send o).pending = s.pending := by unfold State.send; repeat' (first | rfl | split)
@[simp] theorem State.send_fresh (s : State) (o : Out) : (s.send o).fresh = s.fresh := by unfold State.send; repeat' (first | rfl | split)
@[simp] theorem State.send_mem (s : State) (o : Out) : (s.send o).mem = s.mem := by unfold State.send; repeat' (first | rfl | split)
@[simp] theorem State.send_recs (s : State) (o : Out) : (s.send o).recs = s.recs := by unfold State.send; repeat' (first | rfl | split)
@[simp] theorem State.send_fog (s : State) (o : Out) : (s.send o).fog = s.fog := by unfold State.send; repeat' (first | rfl | split)
@[simp] theorem State.send_active (s : State) (o : Out) : (s.send o).active = s.active := by unfold State.send; repeat' (first | rfl | split)
@[simp] theorem State.send_mx (s : State) (o : Out) : (s.send o).mx = s.mx := by unfold State.send; repeat' (first | rfl | split)
@[simp] theorem State.send_tiles (s : State) (o : Out) : (s.send o).tiles = s.tiles := by unfold State.send; repeat' (first | rfl | split)
@[simp] theorem State.send_tbs (s : State) (o : Out) : (s.send o).tbs = s.tbs := by unfold State.send; repeat' (first | rfl | split)
@[simp] theorem State.send_fmtCopy (s : State) (o : Out) : (s.send o).fmtCopy = s.fmtCopy := by unfold State.send; repeat' (first | rfl | split)
@[simp] theorem State.send_mons (s : State) (o : Out) : (s.send o).mons = s.mons := by unfold State.send; repeat' (first | rfl | split)
@[simp] theorem State.send_movers (s : State) (o : Out) : (s.send o).movers = s.movers := by unfold State.send; repeat' (first | rfl | split)
@[simp] theorem State.send_qcnt (s : State) (o : Out) : (s.send o).qcnt = s.qcnt := by unfold State.send; repeat' (first | rfl | split)
@[simp] theorem State.send_rlc (s : State) (o : Out) : (s.send o).rlc = s.rlc := by unfold State.send; repeat' (first | rfl | split)
@[simp] theorem State.send_fills (s : State) (o : Out) : (s.send o).fills = s.fills := by unfold State.send; repeat' (first | rfl | split)
@[simp] theorem State.send_invWaits (s : State) (o : Out) : (s.send o).invWaits = s.invWaits := by unfold State.send; repeat' (first | rfl | split)
@[simp] theorem State.send_arbs (s : State) (o : Out) : (s.send o).arbs = s.arbs := by unfold State.send; repeat' (first | rfl | split)
@[simp] theorem State.send_scrubAt (s : State) (o : Out) : (s.send o).scrubAt = s.scrubAt := by unfold State.send; repeat' (first | rfl | split)
@[simp] theorem State.send_qps (s : State) (o : Out) : (s.send o).qps = s.qps := by unfold State.send; repeat' (first | rfl | split)
@[simp] theorem State.send_latLayers (s : State) (o : Out) : (s.send o).latLayers = s.latLayers := by unfold State.send; repeat' (first | rfl | split)
@[simp] theorem State.send_latScale (s : State) (o : Out) : (s.send o).latScale = s.latScale := by unfold State.send; repeat' (first | rfl | split)
@[simp] theorem State.send_inodes (s : State) (o : Out) : (s.send o).inodes = s.inodes := by unfold State.send; repeat' (first | rfl | split)
@[simp] theorem State.send_stageQ (s : State) (o : Out) : (s.send o).stageQ = s.stageQ := by unfold State.send; repeat' (first | rfl | split)
@[simp] theorem State.send_bodies (s : State) (o : Out) : (s.send o).bodies = s.bodies := by unfold State.send; repeat' (first | rfl | split)
@[simp] theorem State.send_resv (s : State) (o : Out) : (s.send o).resv = s.resv := by unfold State.send; repeat' (first | rfl | split)
@[simp] theorem State.send_steps (s : State) (o : Out) : (s.send o).steps = s.steps := by unfold State.send; repeat' (first | rfl | split)
@[simp] theorem State.send_upds (s : State) (o : Out) : (s.send o).upds = s.upds := by unfold State.send; repeat' (first | rfl | split)
@[simp] theorem State.send_chans (s : State) (o : Out) : (s.send o).chans = s.chans := by unfold State.send; repeat' (first | rfl | split)
@[simp] theorem State.send_waitTx (s : State) (o : Out) : (s.send o).waitTx = s.waitTx := by unfold State.send; repeat' (first | rfl | split)
@[simp] theorem State.send_seams (s : State) (o : Out) : (s.send o).seams = s.seams := by unfold State.send; repeat' (first | rfl | split)
@[simp] theorem State.send_weaves (s : State) (o : Out) : (s.send o).weaves = s.weaves := by unfold State.send; repeat' (first | rfl | split)
@[simp] theorem State.send_peerVer (s : State) (o : Out) : (s.send o).peerVer = s.peerVer := by unfold State.send; repeat' (first | rfl | split)
@[simp] theorem State.send_held (s : State) (o : Out) : (s.send o).held = s.held := by unfold State.send; repeat' (first | rfl | split)
@[simp] theorem State.send_fences (s : State) (o : Out) : (s.send o).fences = s.fences := by unfold State.send; repeat' (first | rfl | split)
@[simp] theorem State.send_fenceCount (s : State) (o : Out) : (s.send o).fenceCount = s.fenceCount := by unfold State.send; repeat' (first | rfl | split)
@[simp] theorem State.send_sessions (s : State) (o : Out) : (s.send o).sessions = s.sessions := by unfold State.send; repeat' (first | rfl | split)
@[simp] theorem State.send_openings (s : State) (o : Out) : (s.send o).openings = s.openings := by unfold State.send; repeat' (first | rfl | split)
@[simp] theorem State.send_octQ (s : State) (o : Out) : (s.send o).octQ = s.octQ := by unfold State.send; repeat' (first | rfl | split)
@[simp] theorem State.send_octBusy (s : State) (o : Out) : (s.send o).octBusy = s.octBusy := by unfold State.send; repeat' (first | rfl | split)
@[simp] theorem State.send_octWait (s : State) (o : Out) : (s.send o).octWait = s.octWait := by unfold State.send; repeat' (first | rfl | split)
@[simp] theorem State.send_starts (s : State) (o : Out) : (s.send o).starts = s.starts := by unfold State.send; repeat' (first | rfl | split)
@[simp] theorem State.send_eth (s : State) (o : Out) : (s.send o).eth = s.eth := by unfold State.send; repeat' (first | rfl | split)
@[simp] theorem State.send_cnpSent (s : State) (o : Out) : (s.send o).cnpSent = s.cnpSent := by unfold State.send; repeat' (first | rfl | split)
@[simp] theorem State.send_cnpCut (s : State) (o : Out) : (s.send o).cnpCut = s.cnpCut := by unfold State.send; repeat' (first | rfl | split)
@[simp] theorem State.send_flash (s : State) (o : Out) : (s.send o).flash = s.flash := by unfold State.send; repeat' (first | rfl | split)
@[simp] theorem State.send_install (s : State) (o : Out) : (s.send o).install = s.install := by unfold State.send; repeat' (first | rfl | split)
@[simp] theorem State.send_aon (s : State) (o : Out) : (s.send o).aon = s.aon := by unfold State.send; repeat' (first | rfl | split)
@[simp] theorem State.send_power (s : State) (o : Out) : (s.send o).power = s.power := by unfold State.send; repeat' (first | rfl | split)
@[simp] theorem State.send_resets (s : State) (o : Out) : (s.send o).resets = s.resets := by unfold State.send; repeat' (first | rfl | split)
@[simp] theorem State.send_hung (s : State) (o : Out) : (s.send o).hung = s.hung := by unfold State.send; repeat' (first | rfl | split)
@[simp] theorem State.send_quars (s : State) (o : Out) : (s.send o).quars = s.quars := by unfold State.send; repeat' (first | rfl | split)
@[simp] theorem State.send_dump (s : State) (o : Out) : (s.send o).dump = s.dump := by unfold State.send; repeat' (first | rfl | split)
@[simp] theorem State.send_dumpSeq (s : State) (o : Out) : (s.send o).dumpSeq = s.dumpSeq := by unfold State.send; repeat' (first | rfl | split)
@[simp] theorem State.send_tap (s : State) (o : Out) : (s.send o).tap = s.tap := by unfold State.send; repeat' (first | rfl | split)
@[simp] theorem State.send_j20Wait (s : State) (o : Out) : (s.send o).j20Wait = s.j20Wait := by unfold State.send; repeat' (first | rfl | split)

/-- What does not leave through the Ethernet port is appended to what was sent, and nothing else changes. -/
theorem State.send_inside (s : State) (o : Out) (h : o.onEth = false) : s.send o = { s with out := s.out ++ [o] } := by
  simp [State.send, h]

/-- What leaves through the Ethernet port with its link up is appended to what was sent, and counted. -/
theorem State.send_up (s : State) (o : Out) (h : o.onEth = true) (hl : s.flag R.ETH_STATUS_LINK_UP 0 = true) :
    s.send o = ({ s with out := s.out ++ [o] } : State).count R.ETH_TX_FRAMES_COUNT 1 0 := by
  simp [State.send, h, hl]

/-- With the link down nothing leaves through the Ethernet port. -/
theorem State.send_down (s : State) (o : Out) (h : o.onEth = true) (hl : s.flag R.ETH_STATUS_LINK_UP 0 = false) :
    s.send o = s := by
  simp [State.send, h, hl]

end Sys2Proof.Machine
end

