-- ==== Sys2Proof/Laws/Frames.lean ====
section
/-!
SUPPORT. What the operations that many commands share can change: one lemma each, to be cited in place of unfolding them.
-/

namespace Sys2Proof.Machine

/-- A state of which only the control registers have changed, and one of which only they and the outputs have. -/
def State.CsrOf (t s : State) : Prop := t = { s with csr := t.csr }
def State.SentOf (t s : State) : Prop := t = { s with csr := t.csr, out := t.out }

theorem State.CsrOf.refl (s : State) : s.CsrOf s := rfl

theorem State.CsrOf.trans {a b c : State} (h : a.CsrOf b) (k : b.CsrOf c) : a.CsrOf c := by
  unfold State.CsrOf at *
  rw [h, k]

theorem State.wr_csrOf (s : State) (r : RegDef) (die inst idx v : Nat) : (s.wr r die inst idx v).CsrOf s := rfl
theorem State.put_csrOf (s : State) (f : Fld) (v die inst idx : Nat) : (s.put f v die inst idx).CsrOf s := rfl
theorem State.count_csrOf (s : State) (f : Fld) (n die inst idx : Nat) : (s.count f n die inst idx).CsrOf s := rfl

/-- What each operation of a fold keeps to, the fold keeps to: for a relation that composes. -/
theorem State.foldl_keeps {α : Type} (R : State → State → Prop) (h0 : ∀ s, R s s) (ht : ∀ a b c, R a b → R b c → R a c)
    (f : State → α → State) (h : ∀ s x, R (f s x) s) (l : List α) (s : State) : R (l.foldl f s) s := by
  induction l generalizing s with
  | nil => exact h0 s
  | cons x l ih => exact ht _ _ _ (ih (f s x)) (h s x)

/-- A fold of operations that each change control registers only changes control registers only. -/
theorem State.foldl_csrOf {α : Type} (f : State → α → State) (h : ∀ s x, (f s x).CsrOf s) (l : List α) (s : State) :
    (l.foldl f s).CsrOf s :=
  State.foldl_keeps State.CsrOf State.CsrOf.refl (fun _ _ _ => State.CsrOf.trans) f h l s

/-- R73: a region's state stands in control registers alone. -/
theorem State.setRegion_csrOf (s : State) (c st : Nat) : (s.setRegion c st).CsrOf s := by
  unfold State.setRegion
  dsimp only
  repeat' split
  all_goals rfl

theorem State.streamError_csrOf (s : State) (f : SFail) : (s.streamError f).CsrOf s := rfl

theorem State.lastStatus_csrOf (s : State) (c st : Nat) : (s.lastStatus c st).CsrOf s := by
  unfold State.lastStatus
  split <;> rfl

theorem State.noteLoad_csrOf (s : State) (c id : Nat) (isPartial : Bool) : (s.noteLoad c id isPartial).CsrOf s := by
  unfold State.noteLoad
  dsimp only
  repeat' split
  all_goals rfl

/-- R165: the directories' counts stand in control registers alone. -/
theorem State.refreshDir_csrOf (s : State) : (State.refreshDir s).CsrOf s := by
  unfold State.refreshDir
  split
  · rfl
  · exact State.foldl_csrOf _ (fun s d => State.put_csrOf s _ _ d 0 0) _ s

/-- Sending adds to what has been sent, and counts. -/
theorem State.send_sentOf (s : State) (o : Out) : (s.send o).SentOf s := by
  unfold State.send
  repeat' split
  all_goals rfl

/-- R376, R377: an answer changes what has been sent and the session that keeps it, and nothing else but counts. -/
theorem State.octAnswer_frame (s : State) (q : OctReq) (status src detail count : Nat) (payload : List Byte) :
    ∃ c o l, s.octAnswer q status src detail count payload = { s with csr := c, out := o, sessions := l } := by
  unfold State.octAnswer
  split
  · split
    · exact ⟨_, _, _, State.send_sentOf _ _⟩
    · exact ⟨_, _, _, rfl⟩
  · exact ⟨_, _, _, rfl⟩

theorem State.octResult_frame (s : State) (q : OctReq) (src st : Nat) :
    ∃ c o l, s.octResult q src st = { s with csr := c, out := o, sessions := l } := by
  unfold State.octResult
  split <;> exact State.octAnswer_frame _ _ _ _ _ _ _

/-- R103, R150, R154, R162, R164: errors mended are counted, and cached copies in error dropped; nothing else changes. -/
theorem State.corrected_frame (s : State) (die : Nat) (l : List (Nat × Nat)) :
    s.corrected die l = { s with csr := (s.corrected die l).csr, rlc := (s.corrected die l).rlc } := by
  refine State.foldl_keeps (fun t s => t = { s with csr := t.csr, rlc := t.rlc }) (fun _ => rfl) ?_ _ ?_ l s
  · intro a b c h k
    rw [h, k]
  · intro s e
    dsimp only
    split
    · generalize nset die ((ngetD s.rlc die []).filter (· != lineOf e.2)) s.rlc = r
      have k := State.refreshDir_csrOf { s with rlc := r }
      have hr : (State.refreshDir { s with rlc := r }).rlc = r := by rw [k]
      rw [hr]
      exact k
    · repeat' split
      all_goals rfl

@[simp] theorem State.corrected_nil (s : State) (die : Nat) : s.corrected die [] = s := rfl

@[simp] theorem State.corrected_mem (s : State) (die : Nat) (l : List (Nat × Nat)) : (s.corrected die l).mem = s.mem := by
  rw [State.corrected_frame]

end Sys2Proof.Machine
end

