-- ==== Sys2Proof/Laws/Memory.lean ====
section
/-!
SUPPORT. Laws of memory: the canonical form that every operation keeps, reading after writing, and what a load, a store
and a judgement of an access can answer.
-/

namespace Sys2Proof.Machine

/-! ### The canonical form -/

theorem Mem.wf_iff (m : Mem) : m.wf = true ↔ nsorted m.cells = true ∧ ∀ c ∈ m.cells, c.2 ≠ m.base c.1 := by
  simp [Mem.wf, List.all_eq_true]

@[simp] theorem Mem.reset_wf : ({} : Mem).wf = true := rfl

theorem Mem.base_cells (m : Mem) (c : List (Nat × Byte)) (a : Nat) : ({ m with cells := c } : Mem).base a = m.base a := rfl

theorem Mem.base_bad (m : Mem) (b : List Nat) (a : Nat) : ({ m with bad := b } : Mem).base a = m.base a := rfl

/-- Writing a byte keeps the canonical form. -/
theorem Mem.put_wf (m : Mem) (a : Nat) (b : Byte) (h : m.wf = true) : (m.put a b).wf = true := by
  obtain ⟨hs, hc⟩ := (Mem.wf_iff m).1 h
  unfold Mem.put
  split
  · refine (Mem.wf_iff _).2 ⟨nsorted_nerase a m.cells hs, fun c hc' => ?_⟩
    exact hc c (List.mem_filter.1 hc').1
  · rename_i hb
    refine (Mem.wf_iff _).2 ⟨nsorted_nset a b m.cells hs, fun c hc' => ?_⟩
    rcases mem_nset hc' with rfl | hc'
    · exact hb
    · exact hc c hc'

/-- Writing bytes keeps the canonical form. -/
theorem Mem.write_wf (l : List Byte) : ∀ (m : Mem) (a : Nat), m.wf = true → (m.write a l).wf = true := by
  induction l with
  | nil => intro m a h; exact h
  | cons b t ih => intro m a h; exact ih _ _ (m.put_wf a b h)

/-- Taking units out of error keeps the canonical form. -/
theorem Mem.heal_wf (m : Mem) (a n : Nat) (h : m.wf = true) : (m.heal a n).wf = true := h

theorem Mem.forget_sorted (m : Mem) (lo n k : Nat) (h : nsorted m.cells = true) : nsorted (m.forget lo n k).cells = true :=
  nsorted_filter _ _ h

/-- Leaving a span undefined keeps the canonical form. -/
theorem Mem.forget_wf (m : Mem) (lo n k : Nat) (h : m.wf = true) : (m.forget lo n k).wf = true := by
  obtain ⟨hs, hc⟩ := (Mem.wf_iff m).1 h
  refine (Mem.wf_iff _).2 ⟨m.forget_sorted lo n k hs, fun c hc' => ?_⟩
  obtain ⟨h1, h2⟩ := List.mem_filter.1 hc'
  have hout : ¬ (lo ≤ c.1 ∧ c.1 < lo + n) := by
    simp only [Bool.or_eq_true, decide_eq_true_eq] at h2
    omega
  have : (m.forget lo n k).base c.1 = m.base c.1 := by
    simp [Mem.base, Mem.forget, undefAt, hout]
  rw [this]
  exact hc c h1

/-- The canonical form of any contents is canonical. -/
theorem Mem.canon_wf (m : Mem) : m.canon.wf = true := by
  refine (Mem.wf_iff _).2 ⟨nsorted_filter _ _ ?_, fun c hc => ?_⟩
  · induction m.cells with
    | nil => rfl
    | cons e t ih => exact nsorted_nset e.1 e.2 _ ih
  · have := (List.mem_filter.1 hc).2
    have hb : m.canon.base c.1 = m.base c.1 := rfl
    rw [hb]
    simpa using this

theorem nfind_foldr_nset {α : Type} (l : List (Nat × α)) (k : Nat) :
    nfind k (l.foldr (fun c t => nset c.1 c.2 t) []) = nfind k l := by
  induction l with
  | nil => rfl
  | cons e t ih =>
    obtain ⟨a, v⟩ := e
    rw [List.foldr_cons, nfind_nset, ih]
    rfl

/-- A memory in canonical form is its own canonical form. -/
theorem Mem.canon_of_wf (m : Mem) (h : m.wf = true) : m.canon = m := by
  obtain ⟨hs, hc⟩ := (Mem.wf_iff m).1 h
  have h1 : m.cells.foldr (fun c t => nset c.1 c.2 t) [] = m.cells := by
    refine nmap_ext ?_ hs (nfind_foldr_nset m.cells)
    induction m.cells with
    | nil => rfl
    | cons e t ih => exact nsorted_nset e.1 e.2 _ ih
  have h2 : m.cells.filter (fun c => c.2 != m.base c.1) = m.cells := by
    rw [List.filter_eq_self]
    intro c hc'
    simpa using hc c hc'
  unfold Mem.canon
  rw [h1, h2]

theorem nfind_filter_val {α : Type} (p : Nat × α → Bool) {m : List (Nat × α)} (hs : nsorted m = true) (k : Nat) :
    nfind k (m.filter p) = (nfind k m).bind (fun v => if p (k, v) then some v else none) := by
  induction m with
  | nil => rfl
  | cons e t ih =>
    obtain ⟨a, v⟩ := e
    have h' := (nsorted_cons _ _).1 hs
    rw [List.filter_cons]
    by_cases hk : k = a
    · subst hk
      by_cases hp : p (k, v)
      · simp [hp, nfind]
      · have hn : nfind k t = none := by
          cases ht : nfind k t with
          | none => rfl
          | some x => exact absurd (h'.1 _ (mem_of_nfind ht)) (Nat.lt_irrefl _)
        simp [hp, nfind, ih h'.2, hn]
    · by_cases hp : p (a, v)
      · simp [hp, nfind, hk, ih h'.2]
      · simp [hp, nfind, hk, ih h'.2]

/-- Bringing memory into canonical form changes no byte. -/
theorem Mem.canon_byte (m : Mem) (a : Nat) : m.canon.byte a = m.byte a := by
  have hs : nsorted (m.cells.foldr (fun c t => nset c.1 c.2 t) []) = true := by
    induction m.cells with
    | nil => rfl
    | cons e t ih => exact nsorted_nset e.1 e.2 _ ih
  unfold Mem.byte Mem.canon
  simp only [Mem.base_cells]
  rw [nfind_filter_val _ hs, nfind_foldr_nset]
  cases h : nfind a m.cells with
  | none => rfl
  | some v =>
    by_cases hv : v = m.base a
    · subst hv; simp
    · simp [hv]

/-! ### Reading and writing -/

theorem Mem.put_base (m : Mem) (a x : Nat) (b : Byte) : (m.put a b).base x = m.base x := by
  unfold Mem.put; split <;> rfl

/-- A byte written is read. -/
@[simp] theorem Mem.byte_put_same (m : Mem) (a : Nat) (b : Byte) : (m.put a b).byte a = b := by
  unfold Mem.byte
  rw [Mem.put_base]
  unfold Mem.put
  split
  · rename_i h; simp [h]
  · simp

/-- Writing a byte leaves every other byte alone. -/
theorem Mem.byte_put_ne (m : Mem) {a x : Nat} (b : Byte) (h : x ≠ a) : (m.put a b).byte x = m.byte x := by
  unfold Mem.byte
  rw [Mem.put_base]
  unfold Mem.put
  split
  · simp [nfind_nerase_ne h]
  · simp [nfind_nset_ne h]

/-- Writing bytes leaves every byte outside them alone. -/
theorem Mem.byte_write_out (l : List Byte) : ∀ (m : Mem) (a x : Nat), (x < a ∨ a + l.length ≤ x) →
    (m.write a l).byte x = m.byte x := by
  induction l with
  | nil => intro m a x _; rfl
  | cons b t ih =>
    intro m a x h
    simp only [List.length_cons] at h
    show ((m.put a b).write (a + 1) t).byte x = m.byte x
    rw [ih _ _ _ (by omega), Mem.byte_put_ne _ _ (by omega)]

/-- Bytes written are read. -/
theorem Mem.byte_write_in (l : List Byte) : ∀ (m : Mem) (a i : Nat) (h : i < l.length),
    (m.write a l).byte (a + i) = l[i] := by
  induction l with
  | nil => intro m a i h; simp at h
  | cons b t ih =>
    intro m a i h
    cases i with
    | zero =>
      show ((m.put a b).write (a + 1) t).byte (a + 0) = b
      rw [Mem.byte_write_out _ _ _ _ (by omega)]
      simp
    | succ j =>
      show ((m.put a b).write (a + 1) t).byte (a + (j + 1)) = t[j]'(by simpa using h)
      have := ih (m.put a b) (a + 1) j (by simpa using h)
      rw [show a + (j + 1) = a + 1 + j by omega]
      exact this

/-- A span written reads back as it was written. -/
theorem Mem.read_write (m : Mem) (a : Nat) (l : List Byte) : (m.write a l).read a l.length = l := by
  apply List.ext_getElem
  · simp [Mem.read]
  · intro i h1 h2
    simp only [Mem.read, List.getElem_map, List.getElem_range]
    exact m.byte_write_in l a i h2

@[simp] theorem Mem.read_length (m : Mem) (a n : Nat) : (m.read a n).length = n := by simp [Mem.read]

@[simp] theorem Mem.heal_byte (m : Mem) (a n x : Nat) : (m.heal a n).byte x = m.byte x := rfl

@[simp] theorem Mem.write_undef (l : List Byte) : ∀ (m : Mem) (a : Nat), (m.write a l).undef = m.undef := by
  induction l with
  | nil => intro m a; rfl
  | cons b t ih =>
    intro m a
    show ((m.put a b).write (a + 1) t).undef = m.undef
    rw [ih]
    unfold Mem.put; split <;> rfl

@[simp] theorem Mem.write_bad (l : List Byte) : ∀ (m : Mem) (a : Nat), (m.write a l).bad = m.bad := by
  induction l with
  | nil => intro m a; rfl
  | cons b t ih =>
    intro m a
    show ((m.put a b).write (a + 1) t).bad = m.bad
    rw [ih]
    unfold Mem.put; split <;> rfl

/-! ### Loads -/

@[simp] theorem State.countDram_mem (s : State) (f : Fld) (a n : Nat) : (s.countDram f a n).mem = s.mem := by
  unfold State.countDram
  split
  · generalize granules 256 (n / 256 + 2) a n = l
    induction l generalizing s with
    | nil => rfl
    | cons e t ih => rw [List.foldl_cons, ih]; rfl
  · rfl

@[simp] theorem State.noteDramEcc_mem (s : State) (u : Nat) : (s.noteDramEcc u).mem = s.mem := by
  unfold State.noteDramEcc
  split
  · simp only; split <;> rfl
  · rfl

@[simp] theorem State.noteBads_mem (s : State) (u : Nat) (l : List Nat) : (s.noteBads u l).mem = s.mem := by
  unfold State.noteBads
  have : ∀ (k : List Nat) (x : State), (k.foldl (fun s v => s.noteDramEcc v) x).mem = x.mem := by
    intro k
    induction k with
    | nil => intro x; rfl
    | cons e t ih => intro x; rw [List.foldl_cons, ih]; simp
  rw [this]; simp

/-- Everything a read can do: it is refused before it leaves, with the kind judged, and nothing happens; it meets a unit in
error, and the controller records it; or it answers the bytes, and the controllers count them. Memory never changes. -/
theorem State.load_cases (s : State) (w : Who) (a n : Nat) :
    (s.judge w a n ≠ 0 ∧ s.load w a n = (s, .error (s.judge w a n))) ∨
    (s.judge w a n = 0 ∧ ∃ u, s.mem.badIn a n = some u ∧ s.load w a n = (s.noteBads u (s.mem.badsIn a n), .error 6)) ∨
    (s.judge w a n = 0 ∧ s.mem.badIn a n = none ∧
      s.load w a n = (s.countDram R.HBMC_RD_BYTES_COUNT a n, .ok (s.mem.read a n))) := by
  unfold State.load
  by_cases h : s.judge w a n = 0
  · cases hb : s.mem.badIn a n with
    | none => exact .inr (.inr ⟨h, rfl, by simp [h]⟩)
    | some u => exact .inr (.inl ⟨h, u, rfl, by simp [h]⟩)
  · exact .inl ⟨h, by simp [h]⟩

theorem State.load_mem (s : State) (w : Who) (a n : Nat) : (s.load w a n).1.mem = s.mem := by
  rcases s.load_cases w a n with ⟨_, h⟩ | ⟨_, u, _, h⟩ | ⟨_, _, h⟩ <;> rw [h] <;> simp

/-! ### Stores -/

theorem State.foldl_mem_wf {β : Type} (f : State × List Byte → β → State × List Byte)
    (hf : ∀ x b, x.1.mem.wf = true → (f x b).1.mem.wf = true) (l : List β) :
    ∀ x : State × List Byte, x.1.mem.wf = true → (l.foldl f x).1.mem.wf = true := by
  induction l with
  | nil => intro x h; exact h
  | cons b t ih => intro x h; exact ih _ (hf x b h)

/-- R168: one element of a write into a WRITE_ACCUM carve-out keeps the canonical form. -/
theorem State.addWord_wf (s : State) (g : Nat) (d r : List Byte) (o : Option Carve) (n : Nat) (f1 f2 : Fld) (i k : Nat)
    (h : s.mem.wf = true) :
    (match o with
      | some _ => ((({ s with mem := s.mem.write g r } : State).count f1 1 i k).count f2 n i k)
      | none => ({ s with mem := s.mem.write g d } : State)).mem.wf = true := by
  cases o with
  | some c => exact Mem.write_wf r s.mem g h
  | none => exact Mem.write_wf d s.mem g h

/-- A store, done or refused, keeps the canonical form. -/
theorem State.storeRaw_wf (s : State) (w : Who) (a : Nat) (data : List Byte) (plain : Bool) (h : s.mem.wf = true) :
    (s.storeRaw w a data plain).1.mem.wf = true := by
  unfold State.storeRaw
  by_cases hj : s.judge w a data.length = 0
  · by_cases hl : data.length = 0
    · have hd : data = [] := List.length_eq_zero_iff.1 hl
      subst hd
      have hj' : s.judge w a 0 = 0 := hj
      simpa [hj'] using h
    · simp only [hj, hl, ne_eq, not_true_eq_false, ↓reduceIte]
      split
      · split
        · exact h
        · rw [State.countDram_mem]
          apply State.foldl_mem_wf
          · rintro ⟨x, l⟩ g hx
            exact State.addWord_wf x g.1 (l.take 4) _ _ _ _ _ _ _ hx
          · exact h
      · split
        · exact h
        · rw [State.countDram_mem]
          exact Mem.heal_wf _ _ _ (Mem.write_wf _ _ _ h)
  · simpa only [ne_eq, hj, not_false_eq_true, ↓reduceIte] using h

@[simp] theorem State.dropLine_mem (s : State) (line : Nat) : (s.dropLine line).mem = s.mem := by
  unfold State.dropLine
  simp only
  generalize s.holders line = ds
  induction ds generalizing s with
  | nil => rfl
  | cons d u ih => rw [List.foldl_cons, ih]; rfl

@[simp] theorem State.refreshDir_mem (s : State) : s.refreshDir.mem = s.mem := by
  have h : ∀ (all : List Nat) (ds : List Nat) (x : State),
      (ds.foldl (fun s d => s.put R.RLC_STATUS_DIR_USED ((all.filter (fun l => addrDie l == d)).eraseDups).length d) x).mem
        = x.mem := by
    intro all ds
    induction ds with
    | nil => intro x; rfl
    | cons d t ih => intro x; rw [List.foldl_cons, ih]; rfl
  unfold State.refreshDir
  split
  · rfl
  · exact h _ _ _

@[simp] theorem State.invalidate_mem (s : State) (a n : Nat) : (s.invalidate a n).mem = s.mem := by
  have h : ∀ (ls : List Nat) (x : State), (ls.foldl (fun s l => s.dropLine l) x).mem = x.mem := by
    intro ls
    induction ls with
    | nil => intro x; rfl
    | cons e t ih => intro x; rw [List.foldl_cons, ih]; simp
  unfold State.invalidate
  split
  · rw [State.refreshDir_mem, h]
  · rfl

theorem State.store_wf (s : State) (w : Who) (a : Nat) (data : List Byte) (plain : Bool) (h : s.mem.wf = true) :
    (s.store w a data plain).1.mem.wf = true := by
  unfold State.store
  simp only
  split
  · simpa using State.storeRaw_wf s w a data plain h
  · exact State.storeRaw_wf s w a data plain h

/-- A store that the judgement refuses changes nothing. -/
theorem State.store_refused (s : State) (w : Who) (a : Nat) (data : List Byte) (plain : Bool)
    (h : s.judge w a data.length ≠ 0) : s.store w a data plain = (s, s.judge w a data.length) := by
  simp [State.store, State.storeRaw, h]

/-- Everything a plain store can do: it is refused whole, with the kind judged or with ECC, or it writes its bytes, takes
whole units out of error and is counted. -/
theorem State.storeRaw_plain_cases (s : State) (w : Who) (a : Nat) (data : List Byte) :
    (s.judge w a data.length ≠ 0 ∧ s.storeRaw w a data true = (s, s.judge w a data.length)) ∨
    (s.judge w a data.length = 0 ∧ data = [] ∧ s.storeRaw w a data true = (s, 0)) ∨
    (s.judge w a data.length = 0 ∧ s.storeRaw w a data true = (s, 6)) ∨
    (s.judge w a data.length = 0 ∧ s.storeRaw w a data true =
      (State.countDram { s with mem := (s.mem.write a data).heal a data.length } R.HBMC_WR_BYTES_COUNT a data.length, 0)) := by
  unfold State.storeRaw
  by_cases hj : s.judge w a data.length = 0
  · by_cases hl : data.length = 0
    · have hd : data = [] := List.length_eq_zero_iff.1 hl
      subst hd
      have hj' : s.judge w a 0 = 0 := hj
      exact .inr (.inl ⟨hj, rfl, by simp [hj']⟩)
    · simp only [hj, hl, ne_eq, not_true_eq_false, ↓reduceIte, true_and, false_and, false_or]
      right
      split
      · exact .inl rfl
      · exact .inr rfl
  · exact .inl ⟨hj, by simp [hj]⟩

/-- A plain store that is done writes its bytes and no others. -/
theorem State.store_plain_done (s : State) (w : Who) (a : Nat) (data : List Byte)
    (h : (s.store w a data true).2 = 0) (x : Nat) :
    (s.store w a data true).1.mem.byte x =
      if a ≤ x ∧ x < a + data.length then data.getD (x - a) 0 else s.mem.byte x := by
  have hz : (s.storeRaw w a data true).2 = 0 := h
  have hm : (s.store w a data true).1.mem = (s.storeRaw w a data true).1.mem := by
    unfold State.store
    simp only [hz, ↓reduceIte, State.invalidate_mem]
  rw [hm]
  rcases s.storeRaw_plain_cases w a data with ⟨hj, e⟩ | ⟨_, hd, e⟩ | ⟨_, e⟩ | ⟨_, e⟩ <;> rw [e] at hz ⊢
  · exact absurd hz hj
  · subst hd
    have hx : ¬ (a ≤ x ∧ x < a + ([] : List Byte).length) := by simp only [List.length_nil]; omega
    rw [if_neg hx]
  · cases hz
  · simp only [State.countDram_mem, Mem.heal_byte]
    by_cases hx : a ≤ x ∧ x < a + data.length
    · have hi : x - a < data.length := by omega
      have := Mem.byte_write_in data s.mem a (x - a) hi
      rw [show a + (x - a) = x by omega] at this
      rw [this, if_pos hx]
      simp [List.getD_eq_getElem?_getD, List.getElem?_eq_getElem hi]
    · rw [Mem.byte_write_out _ _ _ _ (by omega), if_neg hx]

end Sys2Proof.Machine
end

