-- ==== Sys2Proof/Laws/Turn.lean ====
section
/-!
SUPPORT. How commands end: what `after` leaves of a still state, and that it keeps the queue and brings memory into its
canonical form.
-/

namespace Sys2Proof.Machine

@[simp] theorem State.after_pending (s t : State) : (s.after t).pending = s.pending := rfl

theorem State.after_wf (s t : State) : (s.after t).mem.wf = true := Mem.canon_wf _

theorem State.settle_still (t : State) (h : t.Still) : t.settle = t := by
  obtain ⟨h1, h2, h3, _⟩ := h
  unfold State.settle
  simp only [h3, List.length_nil, State.j20Drain, h1]
  unfold State.octPump
  have hr : t.octResume = t := by
    unfold State.octResume
    rw [h2]
  simp only [hr, h2, Option.isSome_none, Bool.false_eq_true, ↓reduceIte, h1]

/-- After a command that leaves a still state, the state is what the command left, its memory in canonical form, and the
queue as it was. -/
theorem State.after_still (s t : State) (h : t.Still) : s.after t = { t with pending := s.pending, mem := t.mem.canon } := by
  unfold State.after
  rw [State.settle_still t h]
  unfold State.trace
  rw [h.2.2.2]
  rfl

theorem State.after_rest (s t : State) (h : t.Rest) (hp : t.pending = s.pending) : s.after t = t := by
  rw [State.after_still s t h.1, Mem.canon_of_wf _ h.2, ← hp]

theorem State.Rest.reset : State.reset.Rest := ⟨⟨rfl, rfl, rfl, by decide⟩, rfl⟩

/-- Setting a field of a register other than the trace's leaves a state at rest. -/
theorem State.Rest.put {s : State} (h : s.Rest) (f : Fld) (v die inst idx : Nat)
    (hf : R.DBG_TRACE_CFG.addr 0 0 0 ≠ f.reg.addr die inst idx) : (s.put f v die inst idx).Rest := by
  refine ⟨⟨h.1.1, h.1.2.1, h.1.2.2.1, ?_⟩, h.2⟩
  have := h.1.2.2.2
  rw [State.flag] at this ⊢
  rwa [State.get_put_reg]
  exact hf

/-- An effect whose condition holds. -/
@[simp] theorem State.when_true (s : State) (f : State → State) : s.when true f = f s := rfl

@[simp] theorem State.when_false (s : State) (f : State → State) : s.when false f = s := rfl

theorem State.ends_eq (s t : State) : s.ends t = .next (s.after t) := rfl

/-- A command that leaves a state at rest, with the queue as it was, answers that state. -/
theorem State.ends_rest (s t : State) (h : t.Rest) (hp : t.pending = s.pending) : s.ends t = .next t := by
  rw [State.ends_eq, State.after_rest s t h hp]

end Sys2Proof.Machine
end

