-- ==== Sys2Proof/Tests/Slice0.lean ====
section
/-!
SUPPORT. Checks of the model on small states, the ill-formed commands that WellFormed refuses, and for every statement of
Certificates/Slice0 with hypotheses a state that meets them (theorems wit_…). Expected values are the spec's.
-/

namespace Sys2Proof.Tests

set_option Elab.async false
open Sys2Proof Sys2Proof.Machine

/-! ### Helpers -/

/-- The state that a command leaves. -/
def fin (o : Host.Outcome State Fault Refusal) : State := match o with | .next t => t | _ => State.reset

/-- Set fields: (field, value, die, instance, index). -/
def on (s : State) (l : List (Fld × Nat × Nat × Nat × Nat)) : State :=
  l.foldl (fun s x => s.put x.1 x.2.1 x.2.2.1 x.2.2.2.1 x.2.2.2.2) s

/-- Set the power manager's own state. -/
def pw (p : Power) (s : State) : State := { s with power := p }

/-- Put the stream records of regions in force. -/
def recs (l : List (Nat × List SRec)) (s : State) : State := { s with recs := l }

/-- Is the state at rest? -/
def restB (s : State) : Bool :=
  s.octQ.isEmpty && s.octBusy.isNone && s.j20Wait.isEmpty && !s.flag R.DBG_TRACE_CFG_EN 0 && s.mem.wf

theorem rest_of {s : State} (h : restB s = true) : s.Rest := by
  unfold restB at h
  simp only [Bool.and_eq_true, List.isEmpty_iff, Option.isNone_iff_eq_none, Bool.not_eq_true'] at h
  exact ⟨⟨h.1.1.1.1, h.1.1.1.2, h.1.1.2, h.1.2⟩, h.2⟩

/-- Does a write from the control cores reach the register? -/
def reachB (s : State) (r : RegDef) (die inst idx : Nat) : Bool :=
  s.accessStatus false (r.addr die inst idx) == 0 && decide (s.regHere (r.addr die inst idx) = some (r, idx)) &&
  !s.unitOut die r.block inst && !s.regIdle die inst r idx

theorem reach_of {s : State} {r : RegDef} {die inst idx : Nat} (h : reachB s r die inst idx = true) : s.Reaches r die inst idx := by
  unfold reachB at h
  simp only [Bool.and_eq_true, beq_iff_eq, decide_eq_true_eq, Bool.not_eq_true'] at h
  exact ⟨h.1.1.1, h.1.1.2, h.1.2, h.2⟩

/-- Is a request of a session the next to be carried out? -/
def turnB (s : State) (op : Nat) (h : OctHdr) (x : Sess) : Bool :=
  restB s && s.octUp && h.wf && decide (s.sess? h.src h.port h.session = some x) && h.version == x.version && h.seq == x.next &&
  x.held.isEmpty && (s.taken h x).octForm { op := op, hdr := h, opening := x.opening } == 0 &&
  !(s.taken h x).recovery && !(s.taken h x).waiting

theorem turn_of {s : State} {op : Nat} {h : OctHdr} {x : Sess} (e : turnB s op h x = true) : s.InTurn op h x := by
  unfold turnB at e
  simp only [Bool.and_eq_true, beq_iff_eq, decide_eq_true_eq, Bool.not_eq_true', List.isEmpty_iff] at e
  obtain ⟨⟨⟨⟨⟨⟨⟨⟨⟨a, b⟩, c⟩, d⟩, f⟩, g⟩, i⟩, j⟩, k⟩, l⟩ := e
  exact ⟨rest_of a, b, c, d, f, g, i, j, k, l⟩

/-- A module with its supply, no die held. -/
def bare : State := { State.reset with held := [], aon := { powered := true, step := 11 } }

/-- Clocks of hub AM and of C0 run, every core, stack and port is in service, the Ethernet link is up, the cut is one partition,
regions 0, 1, 2, 4, 0x10 and 0x20 are RUNNING, context 3 is OPEN, and C0's weave and the seam are UP. -/
def live : State := on bare
  [(R.CLK_DOMAIN_RUNNING, 1, 0, 0, 0), (R.CLK_DOMAIN_RUNNING, 1, 0, 0, 1), (R.CLK_DOMAIN_RUNNING, 1, 0, 0, 2),
   (R.CLK_DOMAIN_RUNNING, 1, 0, 0, 3), (R.CLK_DOMAIN_RUNNING, 1, 0, 0, 4), (R.CLK_DOMAIN_RUNNING, 1, 0, 0, 5),
   (R.CLK_DOMAIN_RUNNING, 1, 0, 0, 6), (R.CLK_DOMAIN_RUNNING, 1, 4, 0, 0), (R.CLK_DOMAIN_RUNNING, 1, 4, 0, 1),
   (R.CLK_DOMAIN_RUNNING, 1, 4, 0, 2), (R.CLK_DOMAIN_RUNNING, 1, 4, 0, 4), (R.ETH_STATUS_LINK_UP, 1, 0, 0, 0),
   (R.ID_DIE_PARTITION_COUNT, 1, 0, 0, 0), (R.ID_UNITS_MC_PRESENT, 0xFFFFFFFF, 4, 0, 0), (R.ID_UNITS_STACK_PRESENT, 0xFF, 4, 0, 0),
   (R.ID_UNITS_PEER_PRESENT, 0xFF, 0, 0, 0), (R.STREAM_REGION_STATE, 0, 0, 0, 0), (R.STREAM_REGION_STATE, 0, 0, 0, 1),
   (R.STREAM_REGION_STATE, 0, 0, 0, 2), (R.STREAM_REGION_STATE, 0, 0, 0, 4), (R.STREAM_REGION_STATE, 0, 0, 0, 0x10),
   (R.STREAM_REGION_STATE, 0, 0, 0, 0x20), (R.OCT_CTX_STATE, 1, 0, 0, 3), (R.OCT_CTX_ASSIGNED, 1, 0, 0, 3),
   (R.WEAVE_STATUS_STATE, 2, 0, 0, 0), (R.WEAVE_STATUS_STATE, 2, 4, 0, 0), (R.WEAVE_STATUS_STATE, 2, 0, 1, 0),
   (R.WEAVE_STATUS_STATE, 2, 5, 0, 0), (R.SEAM_STATUS_STATE, 4, 0, 0, 0),
   (R.SEAM_STATUS_STATE, 4, 1, 0, 0)]

theorem live_rest : live.Rest := rest_of (by decide +kernel)

/-- The session of the requests below. -/
def sess : Sess := { src := 5, port := 7, id := 9, version := 2, opening := 1, next := 1 }

/-- The header of its next request: opcode-free, with CTX, COUNT, TARGET and payload. -/
def req (ctx count target : Nat) (payload : List Byte) : OctHdr :=
  { src := 5, port := 7, version := 2, ctx := ctx, session := 9, seq := 1, length := payload.length, count := count,
    target := target, payload := payload }

/-- The live module with that session open. -/
def inSess (s : State) : State := { s with sessions := [sess], openings := 1 }

/-- The live module in that session. -/
def oct : State := inSess live

/-- Put bytes in memory. -/
def mem (l : List (Nat × List Byte)) (s : State) : State := { s with mem := l.foldl (fun m x => m.write x.1 x.2) s.mem }

/-- A descriptor from its fields, as (lowest bit, value). -/
def pack (l : List (Nat × Nat)) : Nat := l.foldl (fun n x => n + x.2 * 2 ^ x.1) 0

/-- Put a unit of matrix cores of C0 in a state. -/
def unit (core : Nat) (u : MxUnit) (s : State) : State := s.putMx 4 core u

/-! ### The machine -/

/-- CommandsEndAndIllFormedOnesDoNothing: a command that is not well formed, on a state at rest. -/
theorem wit_illFormed : (Instr.throttleStep 9).wf = false ∧ live.Rest := ⟨by decide, live_rest⟩

/-- StepKeepsMemoryCanonical: a sound state with a step. -/
theorem wit_step : live.Sound ∧ (∃ t, step { live with pending := [.throttleStep 4] } = .next t) ∧ ∃ t, step live = .next t :=
  ⟨live_rest.2, ⟨_, rfl⟩, ⟨_, rfl⟩⟩

/-! ### Power (R355 to R364) -/

/-- C0 is ordered to level 12 from 0, C3 stands at 12 with none ordered. -/
def sThrottle : State := pw { target := [(4, 12)] } (on live [(R.PWR_STATUS_LEVEL, 12, 7, 0, 0)])

/-- ThrottleLevelsAndPowerReadings: a level below, above and at its target, on the highest compute die too. -/
theorem wit_throttle : let s := sThrottle
    s.Rest ∧ (s.aon.powered = true ∧ isComp 4 = true ∧ s.excluded 4 = false ∧ s.isHeld 4 = false ∧ isComp 7 = true ∧
    s.get R.PWR_STATUS_LEVEL 4 < ngetD s.power.target 4 0 ∧ ngetD s.power.target 7 0 < s.get R.PWR_STATUS_LEVEL 7 ∧
    s.get R.PWR_STATUS_LEVEL 5 = ngetD s.power.target 5 0) := ⟨rest_of (by decide +kernel), by decide +kernel⟩

/-- R358: one step at a time, up and down. -/
theorem test_throttleStep : let s := sThrottle
    (fin (exec (.throttleStep 4) s)).get R.PWR_STATUS_LEVEL 4 = 1 ∧ (fin (exec (.throttleStep 7) s)).get R.PWR_STATUS_LEVEL 7 = 11 ∧
    (fin (exec (.throttleStep 4) s)).flag R.PWR_STATUS_THROTTLING 4 = true := by
  decide +kernel

/-- ThrottleLevelsAndPowerReadings: readings at both sides of 6,600 W and of 200 readings in a row. -/
theorem wit_powerReading : let s := pw { past := 199 } live
    s.Rest ∧ live.Rest ∧ (s.runs 0 5 = true ∧ (6600 ≤ 6600 ∧ (0 : Nat) < 200) ∧ 6600 < 6601 ∧ s.get R.PWR_LIMITS_CAP 0 < 5401 ∧ 200 ≤ s.power.past + 1) :=
  ⟨rest_of (by decide +kernel), live_rest, by decide +kernel⟩

/-- R359: 6,601 W is an excursion, 6,600 W is none; C becomes 12 at once. -/
theorem test_powerReading :
    (fin (exec (.powerReading 6601 5000) live)).flag R.PWR_ERROR_EXCURSION 0 = true ∧
    (fin (exec (.powerReading 6601 5000) live)).get R.PWR_INPUT_CAP_LEVEL 0 = 12 ∧
    (fin (exec (.powerReading 6600 5000) live)).flag R.PWR_ERROR_EXCURSION 0 = false ∧
    (fin (exec (.powerReading 6600 5000) live)).get R.PWR_INPUT_PIN 0 = 6600 := by decide +kernel

/-- MsBoundaryMovesCapAndThermalLevels. -/
theorem wit_msBoundary : live.Rest ∧ (live.aon.powered = true ∧ live.runs 0 5 = true ∧ (Instr.powerMsBoundary [(4, 255), (127, 0)]).wf = true ∧
    isComp 4 = true ∧ live.excluded 4 = false ∧ live.isHeld 4 = false) := ⟨live_rest, by decide +kernel⟩

/-- R359, R360: an average above CAP raises C by one; a stack at 95 °C raises its die's thermal level. -/
theorem test_powerMsBoundary : let s := on live [(R.PWR_INPUT_PIN_AVG, 5401, 0, 0, 0)]
    (fin (exec (.powerMsBoundary []) s)).get R.PWR_INPUT_CAP_LEVEL 0 = 1 ∧
    ngetD (fin (exec (.powerMsBoundary [(96, 95)]) live)).power.thermal 4 0 = 1 ∧
    ngetD (fin (exec (.powerMsBoundary [(96, 94)]) live)).power.thermal 4 0 = 0 := by decide +kernel

/-- InputPowerAndEmergencyReset: voltages at the edges of R355's ranges, power lost, power good, and the reset input. -/
theorem wit_inputPower : let s := pw { low := 9 } live
    live.Rest ∧ s.Rest ∧ State.reset.Rest ∧ (6600 ≤ 6600 ∧ 7800 ≤ 7800 ∧ (6000 ≤ 6599 ∨ live.power.low < 9) ∧ 6599 < 6600 ∧ 7800 < 7801 ∧ 8200 ≤ 8200 ∧
    8200 < 8201 ∧ (5999 < 6000 ∧ 9 ≤ s.power.low) ∧ live.install = none ∧ State.reset.aon.powered = false ∧
    State.reset.aon.lost100 = false ∧ live.aon.lost100 = false ∧ live.get R.RST_LAST_COUNT 0 + 1 < 2 ^ R.RST_LAST_COUNT.width) :=
  ⟨live_rest, rest_of (by decide +kernel), State.Rest.reset, by decide +kernel⟩

/-- R355: 65.99 V sets VIN_LOW, 78.01 V VIN_HIGH, 66 V neither; above 82 V power is lost. -/
theorem test_vinSample : (fin (exec (.vinSample 6599) live)).flag R.PWR_ERROR_VIN_LOW 0 = true ∧
    (fin (exec (.vinSample 7801) live)).flag R.PWR_ERROR_VIN_HIGH 0 = true ∧
    (fin (exec (.vinSample 6600) live)).flag R.PWR_ERROR_VIN_LOW 0 = false ∧
    (fin (exec (.vinSample 8201) live)).aon.powered = false := by decide +kernel

/-- R355, R407: without the supply nothing is kept; with it, Daybreak is at step 1. -/
theorem test_power : (fin (exec .powerLost live)).csr = [] ∧ (fin (exec (.powerApplied true) State.reset)).aon.step = 1 ∧
    (fin (exec (.powerApplied true) State.reset)).get R.PWR_INPUT_J20_MODE 0 = 1 := by decide +kernel

/-- R364, R434: midnight with cause 2; release only ends the wait. -/
theorem test_emergency : (fin (exec .emergencyReset live)).get R.RST_LAST_CAUSE 0 = 2 ∧ (fin (exec .emergencyReset live)).aon.emrst = true ∧
    (fin (exec .emrstNRelease (fin (exec .emergencyReset live)))).aon.emrst = false := by decide +kernel

/-- HeatAndCoolantAct: 105 °C on a compute die and on a hub, 104 °C, and the coolant's limits. -/
theorem wit_heat : live.Rest ∧ (105 < 256 ∧ isComp 7 = true ∧ live.excluded 7 = false ∧ live.power.tripped.contains 7 = false ∧ live.resets = [] ∧
    live.install = none ∧ isDie 1 = true ∧ (499 < 500 ∨ 40 < 40) ∧ (500 < 500 ∨ 40 < 41) ∧ 500 ≤ 500 ∧ 40 ≤ 40) := ⟨live_rest, by decide +kernel⟩

/-- R360: at 105 °C a compute die loses power; at 104 °C nothing happens; a hub takes every die with it. -/
theorem test_thermalTrip : (fin (exec (.thermalTrip 7 105) live)).isHeld 7 = true ∧ (fin (exec (.thermalTrip 7 104) live)).isHeld 7 = false ∧
    (fin (exec (.thermalTrip 1 105) live)).held = [1, 4, 5, 6, 7] := by decide +kernel

/-- R361. -/
theorem test_coolant : (fin (exec (.coolantFault 20 30 499) live)).flag R.PWR_ERROR_FLOW_LOW 0 = true ∧
    (fin (exec (.coolantFault 20 30 499) live)).get R.PWR_INPUT_CAP_LEVEL 0 = 8 ∧
    (fin (exec (.coolantFault 41 50 500) live)).flag R.PWR_ERROR_COOLANT_HOT 0 = true ∧
    (fin (exec (.coolantClear 40 50 500) live)).power.coolant = false := by decide +kernel

/-! ### Registers, regions and queues -/

/-- The engine registers of die C0 may be written: its region is STOPPED, and so is that of C1. -/
def sStopped : State := on live [(R.STREAM_REGION_STATE, 2, 0, 0, 4), (R.MXC_ERROR_QCFG, 1, 4, 31, 0), (R.MXC_ERROR_FEED_PARITY, 1, 4, 31, 0)]

/-- RegisterWritesActByAccessCode: an error register of the highest core, and an RWL register in a region running and stopped. -/
theorem wit_registerWrite : live.Rest ∧ sStopped.Rest ∧ sStopped.Reaches R.MXC_ERROR 4 31 0 ∧ live.Reaches R.VEC_OP_HI 4 31 0 ∧
    sStopped.Reaches R.VEC_OP_LO 4 0 0 ∧
    (live.aon.powered = true ∧ R.MXC_ERROR ∈ errorRegs ∧ regionOf 4 R.VEC_OP_HI.block 31 = some 4 ∧ live.region 4 ≠ 2 ∧ sStopped.region 4 = 2) :=
  ⟨live_rest, rest_of (by decide +kernel), reach_of (by decide +kernel), reach_of (by decide +kernel), reach_of (by decide +kernel),
   by decide +kernel⟩

/-- R9: a bit of a W1C field clears where 1 is written and stands elsewhere. R72: a rejected write is counted. -/
theorem test_registerWrite :
    (fin (exec (.registerWrite (R.MXC_ERROR.addr 4 31 0) (2 ^ R.MXC_ERROR_QCFG.lo)) sStopped)).flag R.MXC_ERROR_QCFG 4 31 = false ∧
    (fin (exec (.registerWrite (R.MXC_ERROR.addr 4 31 0) (2 ^ R.MXC_ERROR_QCFG.lo)) sStopped)).flag R.MXC_ERROR_FEED_PARITY 4 31 = true ∧
    (fin (exec (.registerWrite (R.VEC_OP_HI.addr 4 31 0) 5) live)).get R.STREAM_RWL_REJECTS_COUNT 0 = 1 ∧
    (fin (exec (.registerWrite (R.VEC_OP_LO.addr 4 0 0) 5) sStopped)).rd R.VEC_OP_LO 4 0 0 = 5 := by decide +kernel

/-- Rings of 16 entries with three descriptors queued: a tile queue, a move queue, a set queue under COMPUTE and a reduction ring. -/
def sQueues : State := recs [(0, [⟨0, 0, 7, 0, 0, 0, [1, 0xFF, 3, 0], []⟩])] (on live
  [(R.MXC_QCFG_ENABLE, 1, 4, 31, 3), (R.MXC_QCFG_SIZE_LOG2, 4, 4, 31, 3), (R.MXC_QTAIL_TAIL, 3, 4, 31, 3),
   (R.SPAD_QCFG_ENABLE, 1, 4, 0, 3), (R.SPAD_QCFG_SIZE_LOG2, 4, 4, 0, 3), (R.SPAD_QTAIL_TAIL, 3, 4, 0, 3),
   (R.SETE_QCFG_ENABLE, 1, 0, 3, 3), (R.SETE_QCFG_SIZE_LOG2, 4, 0, 3, 3), (R.SETE_QTAIL_TAIL, 3, 0, 3, 3),
   (R.RED_QCFG_ENABLE, 1, 0, 5, 0), (R.RED_QCFG_SIZE_LOG2, 4, 0, 5, 0), (R.RED_QTAIL_TAIL, 3, 0, 5, 0)])

/-- Core 31 of C0 is the second of a pair (FUSION of quad 7 is 1). -/
def sFused : State := recs [(4, [⟨0, 0, 0x201, 0, 4, 0, leBytes 8 0x4000, []⟩])] sQueues

/-- DoorbellsMoveQueueTails: open and closed contexts, regions that run and not, cores that lead and not, tails that queue more and fewer. -/
theorem wit_doorbells : sQueues.Rest ∧ sQueues.Reaches R.MXC_QTAIL 4 31 3 ∧ sQueues.Reaches R.SPAD_QTAIL 4 0 3 ∧
    sQueues.Reaches R.SETE_QTAIL 0 3 3 ∧ sQueues.Reaches R.RED_QTAIL (sQueues.chanHome 5) 5 0 ∧ sQueues.Reaches R.MXC_QTAIL 4 31 63 ∧
    sFused.Reaches R.MXC_QTAIL 4 31 3 ∧ sFused.Rest ∧
    (sQueues.ctxOpen 3 = true ∧ sQueues.running 4 = true ∧ sQueues.lead 4 31 = 31 ∧ sQueues.claim 1 0 ≠ 1 ∧ sQueues.running 0x10 = true ∧
     sQueues.running (0x20 + 5 / 8) = true ∧ sQueues.ctxOpen 63 = false ∧ sFused.lead 4 31 ≠ 31 ∧ live.claim 1 0 = 1 ∧
     sStopped.running 4 = false ∧ sFused.ctxOpen 3 = true ∧ sFused.running 4 = true) :=
  ⟨rest_of (by decide +kernel), reach_of (by decide +kernel), reach_of (by decide +kernel), reach_of (by decide +kernel),
   reach_of (by decide +kernel), reach_of (by decide +kernel), reach_of (by decide +kernel), rest_of (by decide +kernel), by decide +kernel⟩

/-- TailTaken: queues with ENABLE 0 and 1, and tails that queue as many descriptors and fewer. -/
theorem wit_tailTaken : live.flag R.MXC_QCFG_ENABLE 4 31 3 = false ∧ sQueues.flag R.MXC_QCFG_ENABLE 4 31 3 = true ∧
    sQueues.qLen mxcQ 4 31 3 = 3 := by decide +kernel

/-- R84: the tail is taken modulo the ring size; one that queues fewer is ignored with QCFG set. -/
theorem test_doorbells :
    (fin (exec (.mxcQtailWrite 4 31 3 0x25) sQueues)).get R.MXC_QTAIL_TAIL 4 31 3 = 5 ∧
    (fin (exec (.mxcQtailWrite 4 31 3 2) sQueues)).flag R.MXC_ERROR_QCFG 4 31 = true ∧
    (fin (exec (.spadQtailWrite 4 0 3 0x25) sQueues)).get R.SPAD_QTAIL_TAIL 4 0 3 = 5 ∧
    (fin (exec (.seteQtailWrite 0 3 0x25) sQueues)).get R.SETE_QTAIL_TAIL 0 3 3 = 5 ∧
    (fin (exec (.redQtailWrite 5 0x25) sQueues)).get R.RED_QTAIL_TAIL 0 5 0 = 5 ∧
    (fin (exec (.mxcQtailWrite 4 31 3 0x25) sFused)).flag R.MXC_ERROR_FUSED_DOORBELL 4 31 = true := by decide +kernel

/-- QueuesEnableAndResume: a queue that may be enabled, one that may not, one enabled, and one stopped. -/
def sEnable : State := on live [(R.MXC_QBASE_BASE, spadBase 4 0, 4, 31, 3), (R.MXC_CQBASE_BASE, spadBase 4 0 + 0x1000, 4, 31, 3),
  (R.MXC_QCFG_STOPPED, 1, 4, 31, 3), (R.MXC_QTAIL_TAIL, 9, 4, 31, 3)]

theorem wit_queueEnable : sEnable.Rest ∧ sEnable.Reaches R.MXC_QCFG 4 31 3 ∧ live.Reaches R.MXC_QCFG 4 31 3 ∧ sQueues.Reaches R.MXC_QCFG 4 31 3 ∧
    (qOf 0x10 = some mxcQ ∧ mxcQ.enable.reg = R.MXC_QCFG ∧ sEnable.flag R.MXC_QCFG_ENABLE 4 31 3 = false ∧ sEnable.qEnableOk mxcQ 4 31 3 4 = true ∧
     sEnable.qEnableOk mxcQ 4 31 3 3 = false ∧ sQueues.flag R.MXC_QCFG_ENABLE 4 31 3 = true ∧ sQueues.get R.MXC_QCFG_SIZE_LOG2 4 31 3 = 4 ∧
     (0x36 = 0x36 → sQueues.claim 1 0 ≠ 1)) :=
  ⟨rest_of (by decide +kernel), reach_of (by decide +kernel), reach_of (by decide +kernel), reach_of (by decide +kernel), by decide +kernel⟩

/-- R104: enabling sets the pointers to 0 and clears STOPPED; a ring size below 16 entries is refused. R84: RESUME clears STOPPED alone. -/
theorem test_queueEnable :
    (fin (exec (.queueEnable 0x10 4 31 3 4) sEnable)).get R.MXC_QTAIL_TAIL 4 31 3 = 0 ∧
    (fin (exec (.queueEnable 0x10 4 31 3 4) sEnable)).flag R.MXC_QCFG_ENABLE 4 31 3 = true ∧
    (fin (exec (.queueEnable 0x10 4 31 3 3) sEnable)).flag R.MXC_QCFG_ENABLE 4 31 3 = false ∧
    (fin (exec (.queueEnable 0x10 4 31 3 3) sEnable)).flag R.MXC_ERROR_QCFG 4 31 = true ∧
    (fin (exec (.queueResume 0x10 4 31 3) sEnable)).flag R.MXC_QCFG_STOPPED 4 31 3 = false ∧
    (fin (exec (.queueResume 0x10 4 31 3) sEnable)).get R.MXC_QTAIL_TAIL 4 31 3 = 9 := by decide +kernel

/-- A partial stream (R38 to R43): one FUSION record of region 4, by its bytes. -/
def partStream : List Byte := leBytes 112 0x39CAB5B6000040000000040100040201A34FB147640190EEEF4DAFB2BCD92A675499BF945CE5B51F4768216514C5E0CC5E5F321AC6EACAFDE3D4C66C427B76490000000000000000000000000000000000000000000000001234567801000041000000010000007000600002534F5A55

/-- The session with region 4 in a state. -/
def sRegion (st : Nat) : State := on oct [(R.STREAM_REGION_STATE, st, 0, 0, 4)]

/-- The session with region 4 STOPPED and the partial stream staged, and with nothing staged. -/
def sStaged : State := mem [(stagingBase, partStream)] (sRegion 2)

/-- RegionsFollowTheirStates: the requests on region 4 RUNNING, STOPPED with a valid stream staged and with none, and under a HALF
region that does not run; and on a HALF region whose parts run. -/
theorem wit_regions :
    (sRegion 0).InTurn 0x20 (req 0xFF 0 4 []) sess ∧ (sRegion 0).InTurn 0x21 (req 0xFF 0 4 []) sess ∧
    (sRegion 0).InTurn 0x22 (req 0xFF 0 4 []) sess ∧ (sRegion 2).InTurn 0x20 (req 0xFF 0 4 []) sess ∧
    sStaged.InTurn 0x21 (req 0xFF 0 4 []) sess ∧ sStaged.InTurn 0x22 (req 0xFF 0 4 []) sess ∧
    (sRegion 2).InTurn 0x21 (req 0xFF 0 4 []) sess ∧ (sRegion 0).InTurn 0x20 (req 0xFF 0 1 []) sess ∧
    (on (sRegion 2) [(R.STREAM_REGION_STATE, 2, 0, 0, 1)]).InTurn 0x22 (req 0xFF 0 4 []) sess ∧
    (∀ st ∈ [1, 4, 5], turnB (sRegion st) 0x20 (req 0xFF 0 4 []) sess = true ∧ turnB (sRegion st) 0x22 (req 0xFF 0 4 []) sess = true) ∧
    (∀ op ∈ [0x20, 0x21, 0x22], turnB (sRegion 0) op (req 0xFF 0 0 []) sess = true ∧ turnB (sRegion 0) op (req 0xFF 0 3 []) sess = true) :=
  ⟨turn_of (by decide +kernel), turn_of (by decide +kernel), turn_of (by decide +kernel), turn_of (by decide +kernel),
   turn_of (by decide +kernel), turn_of (by decide +kernel), turn_of (by decide +kernel), turn_of (by decide +kernel),
   turn_of (by decide +kernel), by decide +kernel, by decide +kernel⟩

/-- The states of those requests. -/
theorem wit_regionStates :
    let t (s : State) := s.taken (req 0xFF 0 4 []) sess
    (t (sRegion 0)).region 4 = 0 ∧ (t (sRegion 0)).region 1 = 0 ∧ (t sStaged).region 4 = 2 ∧ (t sStaged).parentOk 4 = true ∧
    (t (on (sRegion 2) [(R.STREAM_REGION_STATE, 2, 0, 0, 1)])).parentOk 4 = false ∧
    (halfDeps 4).all (fun d => (t (sRegion 0)).region d == 2 || (t (sRegion 0)).region d == 5) = true ∧
    (halfDeps 1).all (fun d => (t (sRegion 0)).region d == 2 || (t (sRegion 0)).region d == 5) = false ∧ regionKnown 4 = true ∧ regionKnown 3 = false ∧ regionKnown 0 = true ∧
    (∀ st ∈ [1, 4, 5], (t (sRegion st)).region 4 = st) ∧ sStaged.starts = [] ∧ (sRegion 0).starts = [] := by
  decide +kernel

/-- A stream that validates and one that does not. -/
theorem wit_validate : ((sStaged.taken (req 0xFF 0 4 []) sess).validate (sStaged.taken (req 0xFF 0 4 []) sess).staged (some 4)).toBool = true ∧
    (match ((sRegion 2).taken (req 0xFF 0 4 []) sess).validate ((sRegion 2).taken (req 0xFF 0 4 []) sess).staged (some 4) with
     | .error f => f.status | .ok _ => 0) = 1 := by decide +kernel

/-- A move in hand at core 0 of die 4, which keeps region 4 from being drained. -/
def sBusy : State := { sRegion 1 with movers := [(128, { hand := some { ctx := 3, gen := 0, raw := 1, waiting := false } })] }

/-- C0's region STARTING for the firmware, whose REGION_START of C1's comes next. -/
def sStarting : State := { on (sRegion 4) [(R.STREAM_REGION_STATE, 2, 0, 0, 5)] with starts := [4, 5] }

/-- RegionsFollowTheirStates: regions STOPPING, drained and not, STARTING, and RUNNING. -/
theorem wit_regionEvents : (sRegion 1).Rest ∧ sBusy.Rest ∧ (sRegion 4).Rest ∧ live.Rest ∧ sStarting.Rest ∧
    (sStarting.region 4 = 4 ∧ sStarting.regionHeld 4 = false ∧ sStarting.resets = [] ∧ (sStarting.unitsInitialised 4 true).starts = [5] ∧
     (sStarting.unitsInitialised 4 true).region 5 = 2 ∧ (sStarting.unitsInitialised 4 true).parentOk 5 = true) ∧
    ((sRegion 1).clocked 0 5 = true ∧ (sRegion 1).region 4 = 1 ∧ (sRegion 1).drained 4 = true ∧ sBusy.region 4 = 1 ∧
     sBusy.drained 4 = false ∧ (sRegion 4).region 4 = 4 ∧ live.region 4 ≠ 1 ∧ live.region 4 ≠ 4) :=
  ⟨rest_of (by decide +kernel), rest_of (by decide +kernel), rest_of (by decide +kernel), live_rest, rest_of (by decide +kernel),
   by decide +kernel, by decide +kernel⟩

/-- Region 4 STARTING for OCT's REGION_START, and a stop of a STOPPING one that waits. -/
def sStartOct : State := { sRegion 4 with octBusy := some { op := 0x22, hdr := req 0xFF 0 4 [], opening := sess.opening } }
def sStopOct : State := { sRegion 1 with octWait := [(4, { op := 0x20, hdr := req 0xFF 0 4 [], opening := sess.opening })] }

/-- RegionsFollowTheirStates: a REGION_START held, a stop that waits, and requests behind the firmware's REGION_STARTs. -/
theorem wit_regionHeldAnswers : ({ sStartOct with octBusy := none } : State).Rest ∧ sStopOct.Rest ∧
    (∀ op ∈ [0x21, 0x22], turnB sStarting op (req 0xFF 0 5 []) sess = true) ∧
    (sStartOct.octBusy.isSome = true ∧ sStartOct.clocked 0 5 = true ∧ sStartOct.region 4 = 4 ∧ sStartOct.regionHeld 4 = false ∧
     sStartOct.resets = [] ∧ sStartOct.starts = [] ∧ sStopOct.region 4 = 1 ∧ sStopOct.drained 4 = true) :=
  ⟨rest_of (by decide +kernel), rest_of (by decide +kernel), by decide +kernel, by decide +kernel⟩

/-- R64: the answers held go out: the start's and the stop's. -/
theorem test_regionAnswers :
    (fin (exec (.regionUnitsInitialised 4 true) sStartOct)).out.length = sStartOct.out.length + 1 ∧
    (fin (exec (.regionDrained 4) sStopOct)).out.length = sStopOct.out.length + 1 ∧
    (fin (exec (.regionStart (req 0xFF 0 5 [])) sStarting)).octQ.length = 1 := by decide +kernel

/-- R60, R64: a running region stops, a stopped one loads, and starts. -/
theorem test_regions :
    (fin (exec (.regionStop (req 0xFF 0 4 [])) (sRegion 0))).region 4 = 1 ∧
    (fin (exec (.regionStart (req 0xFF 0 4 [])) sStaged)).region 4 = 4 ∧
    (fin (exec (.regionLoad (req 0xFF 0 4 []) false) sStaged)).get R.STREAM_REGION_LOAD_ID 0 0 4 = 0x12345678 ∧
    (fin (exec (.regionLoad (req 0xFF 0 4 []) false) sStaged)).fusion 4 7 = 1 ∧
    (fin (exec (.regionLoad (req 0xFF 0 4 []) true) sStaged)).region 4 = 5 ∧
    (fin (exec (.regionLoad (req 0xFF 0 4 []) false) (sRegion 2))).get R.STREAM_REGION_LAST_STATUS 0 0 4 = 1 := by decide +kernel

/-- R60 to R62: what ends a STOPPING and a STARTING region. -/
theorem test_regionEvents :
    (fin (exec (.regionDrained 4) (sRegion 1))).region 4 = 2 ∧ (fin (exec (.regionDrained 4) sBusy)).region 4 = 1 ∧
    (fin (exec (.drainTimeout 4) sBusy)).region 4 = 5 ∧ (fin (exec (.drainTimeout 4) sBusy)).get R.STREAM_REGION_LAST_STATUS 0 0 4 = 0x1A ∧
    (fin (exec (.regionUnitsInitialised 4 true) (sRegion 4))).region 4 = 0 ∧
    (fin (exec (.regionUnitsInitialised 4 true) sStarting)).region 5 = 4 ∧
    (fin (exec (.regionUnitsInitialised 4 false) (sRegion 4))).get R.STREAM_REGION_LAST_STATUS 0 0 4 = 0x1B := by decide +kernel

/-! ### Matrix cores and vector engines -/

/-- A product of 2 by 2 by 2 FP32 elements (R87): A at 0, B at 4 * 64, C at 8 * 64, rows of 64 bytes; with more fields. -/
def prod (l : List (Nat × Nat)) : Nat :=
  pack ([(0, 1), (64, 2), (73, 2), (82, 2), (160, 1), (192, 4), (224, 1), (256, 8), (288, 1)] ++ l)

/-- The queue of context 3 at core 0 of C0 with one descriptor waiting, the column groups awake, and the operands
A = ((1, 2), (3, 4)) and B = ((1, 0), (0, 1)). -/
def sTile (raw : Nat) : State :=
  mem [(spadBase 4 0 + 0x1000, leBytes 64 raw), (spadBase 4 0, leBytes 8 0x400000003F800000), (spadBase 4 0 + 64, leBytes 8 0x4080000040400000),
       (spadBase 4 0 + 256, leBytes 8 0x3F800000), (spadBase 4 0 + 320, leBytes 8 0x3F80000000000000)]
    (on live [(R.MXC_QBASE_BASE, spadBase 4 0 + 0x1000, 4, 0, 3), (R.MXC_QCFG_ENABLE, 1, 4, 0, 3), (R.MXC_QCFG_SIZE_LOG2, 4, 4, 0, 3),
              (R.MXC_QTAIL_TAIL, 1, 4, 0, 3), (R.MXC_STATUS_AWAKE, 16, 4, 0, 0), (R.MXC_STATUS_RUN, 1, 4, 0, 0),
              (R.MXC_TOKEN_COUNT, 5, 4, 0, 7)])

/-- A descriptor in hand. -/
def inHand (raw : Nat) (st : DStage) : TDesc := { id := 0, ctx := 3, gen := 0, raw := raw, stage := st }

/-- The unit with that descriptor alone in hand. -/
def held (raw : Nat) (st : DStage) : State := unit 0 { inHand := [inHand raw st], nextId := 1 } (sTile raw)

/-- A product that waits for token 7. -/
def waitDesc : Nat := prod [(27, 1), (106, 7)]

/-- A product that takes the LOCK. -/
def lockDesc : Nat := prod [(23, 1)]

/-- A routed product of one row, and a product with a post chain whose 64 bytes are zero. -/
def routed : Nat := pack [(0, 1), (24, 1), (64, 1), (73, 2), (82, 2), (160, 1), (192, 4), (224, 1), (256, 8), (288, 1)]
def chained : Nat := prod [(25, 1), (448, 0x100)]

/-- DescriptorsAndTokensAreTaken: a queue with a product that takes the LOCK, one that waits, one with a reserved opcode, and none. -/
theorem wit_descriptorTake : (sTile lockDesc).Rest ∧ (sTile waitDesc).Rest ∧ (sTile 3).Rest ∧ live.Rest ∧
    (∀ raw ∈ [lockDesc, waitDesc, 3],
      (sTile raw).coreAt 4 0 0 = true ∧ (sTile raw).lead 4 0 = 0 ∧
      (sTile raw).takeFrom 4 0 ((sTile raw).discardingDie 4 || (sTile raw).unitIdle 4 0x10 0) = some 3 ∧
      ((sTile raw).load { die := 4, part := (sTile raw).partOfDie 4 } ((sTile raw).qSlot mxcQ 4 0 3) 64).2.toOption = some (leBytes 64 raw) ∧
      leVal (leBytes 64 raw) = raw) ∧
    (tOp lockDesc = 1 ∧ tLock lockDesc = true ∧ tWait waitDesc = true ∧ 2 < tOp 3 ∧ (sTile 0).get R.MXC_QCFG_SIZE_LOG2 4 0 3 ≤ 16 ∧
     live.takeFrom 4 0 (live.discardingDie 4 || live.unitIdle 4 0x10 0) = none) :=
  ⟨rest_of (by decide +kernel), rest_of (by decide +kernel), rest_of (by decide +kernel), live_rest, by decide +kernel, by decide +kernel⟩

/-- A move that waits for token 7, held back. -/
def sMoveWait (n : Nat) : State :=
  { on live [(R.MXC_TOKEN_COUNT, n, 4, 0, 7)] with
    movers := [(128, { held := [{ ctx := 3, gen := 0, raw := pack [(0, 1), (5, 1), (8, 7)], waiting := true }] })] }

/-- DescriptorsAndTokensAreTaken: a descriptor, and a move, waiting for a token that is zero and one that is not. -/
theorem wit_tokenWait : (held waitDesc .waiting).Rest ∧ (on (held waitDesc .waiting) [(R.MXC_TOKEN_COUNT, 0, 4, 0, 7)]).Rest ∧
    (sMoveWait 1).Rest ∧ (sMoveWait 0).Rest ∧
    ((held waitDesc .waiting).coreAt 4 0 0 = true ∧ (held waitDesc .waiting).waitingTile 4 0 3 = some (inHand waitDesc .waiting) ∧
     tWaitTok waitDesc = 7 ∧ (held waitDesc .waiting).token 4 0 7 = 5 ∧ (on (held waitDesc .waiting) [(R.MXC_TOKEN_COUNT, 0, 4, 0, 7)]).token 4 0 7 = 0 ∧
     (held waitDesc .waiting).tileCheck 4 0 3 waitDesc [] = (0, none) ∧
     (on (held waitDesc .waiting) [(R.MXC_TOKEN_COUNT, 4, 4, 0, 7)]).tileCheck 4 0 3 waitDesc [] = (0, none) ∧
     ((sMoveWait 1).mover 4 0).hand = none ∧ ((sMoveWait 1).mover 4 0).held.find? (fun d => d.ctx == 3) = ((sMoveWait 1).mover 4 0).held.head? ∧
     ((sMoveWait 1).mover 4 0).held ≠ [] ∧ (sMoveWait 1).token 4 0 (mWaitTok (pack [(0, 1), (5, 1), (8, 7)])) = 1 ∧ (sMoveWait 0).token 4 0 (mWaitTok (pack [(0, 1), (5, 1), (8, 7)])) = 0) :=
  ⟨rest_of (by decide +kernel), rest_of (by decide +kernel), rest_of (by decide +kernel), rest_of (by decide +kernel), by decide +kernel⟩

/-- R84, R91, R95: the descriptor at HEAD is taken; a reserved opcode stops its queue; a token met goes down by one. -/
theorem test_descriptorTake :
    (fin (exec (.descriptorTake 4 0) (sTile lockDesc))).get R.MXC_QHEAD_HEAD 4 0 3 = 1 ∧
    ((fin (exec (.descriptorTake 4 0) (sTile lockDesc))).unit 4 0).lock = some 3 ∧
    (fin (exec (.descriptorTake 4 0) (sTile 3))).flag R.MXC_QCFG_STOPPED 4 0 3 = true ∧
    (fin (exec (.tokenWaitMet false 4 0 3) (held waitDesc .waiting))).token 4 0 7 = 4 ∧
    ((fin (exec (.tokenWaitMet false 4 0 3) (held waitDesc .waiting))).unit 4 0).inHand.map (·.stage) = [.ready] ∧
    (fin (exec (.tokenClear 4 0) (held waitDesc .waiting))).token 4 0 7 = 0 := by decide +kernel

/-- A product issues while a post chain that has not begun holds its tile. -/
def stalledState : State :=
  unit 0 { inHand := [{ inHand chained .handed with id := 1 }, inHand (prod []) .issuing], nextId := 2 } (sTile chained)

/-- ProductsStartAndLand: a product, a routed product, one whose unit sleeps, and none; landing in a free and in a held tile. -/
theorem wit_products : (held (prod []) .ready).Rest ∧ (held routed .ready).Rest ∧ live.Rest ∧ (held (prod []) .issuing).Rest ∧
    ((held (prod []) .ready).coreAt 4 0 0 = true ∧ startable [] ((held (prod []) .ready).unit 4 0).inHand = some (inHand (prod []) .ready) ∧
     (held (prod []) .ready).tileCheck 4 0 3 (prod []) [] = (0, none) ∧ (held (prod []) .ready).mayStart 4 0 (inHand (prod []) .ready) = true ∧
     (on (held (prod []) .ready) [(R.MXC_STATUS_AWAKE, 15, 4, 0, 0)]).mayStart 4 0 (inHand (prod []) .ready) = false ∧
     startable [] (live.unit 4 0).inHand = none ∧ tRoute (prod []) = false ∧ tRoute routed = true ∧
     (held routed .ready).tileCheck 4 0 3 routed [] = (0, none) ∧ (held routed .ready).mayStart 4 0 (inHand routed .ready) = true ∧
     live.issuing 4 0 = none ∧ (held (prod []) .issuing).issuing 4 0 = some (inHand (prod []) .issuing) ∧ writesTile (prod []) = true ∧
     ((held (prod []) .issuing).unit 4 0).holds (inHand (prod []) .issuing) = false ∧
     (held (prod []) .issuing).prodBad 4 0 0 (prod []) [] = none ∧
     (held (prod []) .issuing).carriesOn 4 0 (inHand (prod []) .issuing) false = false ∧
     stalledState.issuing 4 0 = some (inHand (prod []) .issuing) ∧
     stalledState.carriesOn 4 0 (inHand (prod []) .issuing) false = false ∧
     (stalledState.unit 4 0).holds (inHand (prod []) .issuing) = true) ∧ stalledState.Rest :=
  ⟨rest_of (by decide +kernel), rest_of (by decide +kernel), live_rest, rest_of (by decide +kernel), by decide +kernel,
   rest_of (by decide +kernel)⟩

/-- R76, R111: two FP32 elements are two beats; the product of A and the identity is A. -/
theorem test_products :
    (fin (exec (.productStart 4 0 9) (held (prod []) .ready))).get R.MXC_BEATS_COUNT 4 0 = 2 ∧
    (fin (exec (.productStart 4 0 9) (held (prod []) .ready))).get R.MXC_STARVED_COUNT 4 0 = 9 ∧
    (fin (exec (.productComplete 4 0 0) (held (prod []) .issuing))).unitElem 4 0 0 0 1 = 0x40000000 ∧
    (fin (exec (.productComplete 4 0 0) (held (prod []) .issuing))).unitElem 4 0 0 1 0 = 0x40400000 := by decide +kernel

/-- R97: a landing waits for a chain that has not begun; R85, R103: a run carries over; errors corrected are counted. -/
theorem test_landing :
    fin (exec (.productComplete 4 0 0) stalledState) = stalledState ∧
    (fin (exec (.productComplete 4 0 0 [(0, 0), (2, spadBase 4 0)]) (held (prod []) .issuing))).get R.MXC_ECC_CORR_COUNT 4 0 = 1 ∧
    (fin (exec (.productComplete 4 0 0 [(0, 0), (2, spadBase 4 0)]) (held (prod []) .issuing))).get R.SPAD_ECC_CORR_COUNT 4 0 = 1 := by
  decide +kernel

/-- A LOCK of context 3 with descriptors in hand. -/
def sLock (l : List TDesc) : State := unit 0 { inHand := l, lock := some 3 } live

/-- BarriersLocksAndColumnGroups: a BARRIER alone in hand; a LOCK with an empty queue, with a descriptor that waits, and none. -/
theorem wit_barriers : (held 2 .ready).Rest ∧ (sLock []).Rest ∧ (sLock [inHand waitDesc .waiting]).Rest ∧
    ((held 2 .ready).coreAt 4 0 0 = true ∧ ((held 2 .ready).unit 4 0).inHand = [inHand 2 .ready] ∧ tOp 2 = 2 ∧ tComplete 2 = false ∧
     (held 2 .ready).tileCheck 4 0 3 2 [] = (0, none) ∧ (live.unit 4 0).lock = none ∧ ((sLock []).unit 4 0).lock = some 3 ∧
     (sLock []).qLen mxcQ 4 0 3 = 0 ∧ ((sLock [inHand waitDesc .waiting]).unit 4 0).inHand.any (fun d => d.ctx == 3 && d.stage == .waiting) = true) :=
  ⟨rest_of (by decide +kernel), rest_of (by decide +kernel), rest_of (by decide +kernel), by decide +kernel⟩

/-- BarriersLocksAndColumnGroups: column groups at 0, 1, 15 and 16 awake, with a product issuing, ready and none. -/
theorem wit_groups : live.Rest ∧ (held (prod []) .ready).Rest ∧ (held (prod []) .issuing).Rest ∧
    (live.get R.MXC_STATUS_AWAKE 4 0 = 0 ∧ (on live [(R.MXC_STATUS_AWAKE, 1, 4, 0, 0)]).issuing 4 0 = none ∧
     (held (prod []) .issuing).get R.MXC_STATUS_AWAKE 4 0 = 16 ∧ ((held (prod []) .issuing).issuing 4 0).isSome = true ∧
     (on (held (prod []) .ready) [(R.MXC_STATUS_AWAKE, 15, 4, 0, 0)]).get R.MXC_STATUS_AWAKE 4 0 = 15 ∧
     (held (prod []) .ready).nextReady 4 0 = true ∧ live.nextReady 4 0 = false ∧ live.lead 4 0 = 0) :=
  ⟨live_rest, rest_of (by decide +kernel), rest_of (by decide +kernel), by decide +kernel⟩

/-- R86, R87, R102. -/
theorem test_barriers :
    (fin (exec (.barrierComplete 4 0 3) (held 2 .ready))).get R.MXC_DESCS_COUNT 4 0 = 1 ∧
    ((fin (exec (.barrierComplete 4 0 3) (held 2 .ready))).unit 4 0).inHand = [] ∧
    (fin (exec (.lockLimitExpire 4 0) (sLock []))).flag R.MXC_ERROR_LOCK_BROKEN 4 0 = true ∧
    (fin (exec (.groupSleep 4 0 3) (on live [(R.MXC_STATUS_AWAKE, 1, 4, 0, 0)]))).get R.MXC_STATUS_AWAKE 4 0 = 0 ∧
    (fin (exec (.groupSleep 4 0 3) (on live [(R.MXC_STATUS_AWAKE, 1, 4, 0, 0)]))).get R.MXC_FILLERS_COUNT 4 0 = 3 ∧
    (fin (exec (.groupWake 4 0 3) (on (held (prod []) .ready) [(R.MXC_STATUS_AWAKE, 15, 4, 0, 0)]))).get R.MXC_STATUS_AWAKE 4 0 = 16 := by
  decide +kernel

/-- UncorrectableErrorsFaultTheUnit: the highest core of C0, with nothing in progress. -/
theorem wit_uncorrectable : live.Rest ∧ (live.coreAt 4 31 0 = true ∧ live.coreAt 4 31 1 = true ∧ live.inProgress 4 (live.lead 4 31) = none ∧
    (live.unit 4 (live.lead 4 31)).inHand = []) := ⟨live_rest, by decide +kernel⟩

/-- R103, R150, R154. -/
theorem test_uncorrectable :
    (fin (exec (.accEccUncorr 4 31 1) live)).flag R.MXC_STATUS_FAULTED 4 31 = true ∧
    ((fin (exec (.accEccUncorr 4 31 1) live)).tile 4 31 1).undef = some 0 ∧
    (fin (exec (.feedParity 4 31) live)).flag R.MXC_ERROR_FEED_PARITY 4 31 = true ∧
    (fin (exec (.tbEccUncorr 4 31 5) live)).flag R.VEC_ERROR_TB_ECC_UNCORR 4 31 = true ∧
    (fin (exec (.spadEccUncorr 4 31 0x3FFFFF) live)).mem.bad = [spadBase 4 31 + 0x3FFFF8] := by decide +kernel

/-- TheEngineTakesAndFinishesWork: a chain and a routed product handed to the engine and on it, and an engine with no work. -/
theorem wit_engine : (held chained .handed).Rest ∧ (held routed .handed).Rest ∧ (held chained .engine).Rest ∧ (held routed .engine).Rest ∧
    ((held chained .handed).coreAt 4 0 1 = true ∧ engineNext (live.unit 4 0).inHand = none ∧
     engineNext ((held chained .handed).unit 4 0).inHand = some (inHand chained .handed) ∧ tRoute chained = false ∧
     engineNext ((held routed .handed).unit 4 0).inHand = some (inHand routed .handed) ∧ tRoute routed = true ∧
     ((held chained .engine).unit 4 0).inHand.find? (fun d => d.stage == .engine && tPost d.raw) = some (inHand chained .engine) ∧
     (held chained .engine).chainStops 4 0 (inHand chained .engine) = none ∧
     ((held chained .engine).unit 4 0).inHand = [inHand chained .engine] ∧ tComplete chained = false ∧ (inHand chained .engine).status = 0 ∧
     ((held routed .engine).unit 4 0).inHand = [inHand routed .engine] ∧ tComplete routed = false ∧
     (held routed .engine).prodBad 4 0 0 routed [] = none ∧ 4 * tN routed ≤ 64 * tLdc routed) :=
  ⟨rest_of (by decide +kernel), rest_of (by decide +kernel), rest_of (by decide +kernel), rest_of (by decide +kernel), by decide +kernel⟩

/-- R128, R142, R148: the engine takes work up; a chain's end is counted; a routed product's row stands at C_OFF. -/
theorem test_engine :
    (fin (exec (.postChainStart 4 0) (held chained .handed))).flag R.VEC_STATUS_BUSY 4 0 = true ∧
    (fin (exec (.postChainStart 4 0) (held routed .handed))).flag R.VEC_STATUS_ROUTED 4 0 = true ∧
    (fin (exec (.chainComplete 4 0 7 0) (held chained .engine))).get R.VEC_CHAINS_COUNT 4 0 = 1 ∧
    (fin (exec (.routedProductComplete 4 0 7) (held routed .engine))).get R.VEC_ROUTED_COUNT 4 0 = 1 ∧
    (fin (exec (.routedProductComplete 4 0 7) (held routed .engine))).win 4 0 512 8 = leBytes 8 0x400000003F800000 := by decide +kernel

/-! ### Memory -/

/-- A COPY of n bytes (R157). -/
def copy (src dst n : Nat) : Nat := pack [(0, 1), (64, src), (128, dst), (192, n), (216, 1)]

/-- The move queue of context 3 at core 0 of C0 with one descriptor waiting. -/
def sMove (raw : Nat) : State :=
  mem [(spadBase 4 0 + 0x1000, leBytes 64 raw)]
    (on live [(R.SPAD_QBASE_BASE, spadBase 4 0 + 0x1000, 4, 0, 3), (R.SPAD_QCFG_ENABLE, 1, 4, 0, 3), (R.SPAD_QCFG_SIZE_LOG2, 4, 4, 0, 3),
              (R.SPAD_QTAIL_TAIL, 1, 4, 0, 3)])

/-- A move of five bytes from the end of a scratchpad to home DRAM. -/
def goodMove : Nat := copy (spadBase 4 0 + 0x3FFFFB) 0x400000000123 5

/-- The same, waiting for token 7. -/
def waitMove : Nat := goodMove + pack [(5, 1), (8, 7)]

/-- A move to a die that has no memory. -/
def badMove : Nat := copy (spadBase 4 0) 0x200000000000 5

/-- MovesAreTakenAndLand: descriptors that pass, wait, and fail. -/
theorem wit_moveTake : (sMove goodMove).Rest ∧ (sMove waitMove).Rest ∧ (sMove badMove).Rest ∧
    (∀ raw ∈ [goodMove, waitMove, badMove],
      (sMove raw).coreAt 4 0 0 = true ∧ (sMove raw).unitIdle 4 0x12 0 = false ∧ (sMove raw).running 4 = true ∧ ((sMove raw).mover 4 0).hand = none ∧
      roundRobin 64 ((sMove raw).mover 4 0).rr ((sMove raw).moverMayTake 4 0) = some 3 ∧
      ((sMove raw).load { die := 4, part := (sMove raw).partOfDie 4 } ((sMove raw).qSlot spadQ 4 0 3) 64).2.toOption = some (leBytes 64 raw)) ∧
    ((sMove goodMove).moveCheck 4 0 goodMove = (0, none) ∧ (sMove waitMove).moveCheck 4 0 waitMove = (0, none) ∧ mWait waitMove = true ∧
     ((sMove badMove).moveCheck 4 0 badMove).1 ≠ 0) :=
  ⟨rest_of (by decide +kernel), rest_of (by decide +kernel), rest_of (by decide +kernel), by decide +kernel, by decide +kernel⟩

/-- A move in hand, with five bytes at the end of core 0's scratchpad, and the queue pair of the far window READY. -/
def sMoving (raw : Nat) : State :=
  { mem [(spadBase 4 0 + 0x3FFFFB, [1, 2, 3, 4, 5])] (on live [(R.RDMA_FAR_VALID, 1, 0, 0, 0), (R.RDMA_FAR_QPN, 9, 0, 0, 0), (R.RDMA_QP_STATE, 1, 0, 0, 9)]) with
    movers := [(128, { hand := some { ctx := 3, gen := 0, raw := raw, waiting := false } })], qps := [(9, {})],
    recs := [(0, [⟨0, 0, 5, 0, 0, 0, leBytes 24 (pack [(0, 6), (16, 0), (64, 0xE00000000000), (128, 0x10000)]), []⟩])] }

/-- MovesAreTakenAndLand: a copy in hand to the other side of the die's memory, and one from the far window. -/
theorem wit_moveComplete : (sMoving goodMove).Rest ∧ (sMoving (copy 0xE00000000010 0x400000000123 5)).Rest ∧
    (∀ raw ∈ [goodMove, copy 0xE00000000010 0x400000000123 5],
      (sMoving raw).coreAt 4 0 0 = true ∧ mOp raw = 1 ∧ mRows raw = 1 ∧ mRowBytes raw = 5 ∧ mComplete raw = false ∧ isFar (mDst raw) = false ∧
      (sMoving raw).movePath 4 raw = true ∧ (sMoving raw).moveCut 4 0 = false ∧
      (sMoving raw).mem.bad = [] ∧ (sMoving raw).judge { die := 4, part := some 0, mover := true } (mDst raw) 5 = 0 ∧
      (sMoving raw).accumCarve (mDst raw) 5 = none ∧ (sMoving raw).partOfDie 4 = some 0) ∧
    (isFar (mSrc goodMove) = false ∧ (sMoving goodMove).judge { die := 4, part := some 0, mover := true } (mSrc goodMove) 5 = 0 ∧
     mDst goodMove + 5 ≤ mSrc goodMove) ∧
    (isFar (mSrc (copy 0xE00000000010 0x400000000123 5)) = true ∧ ((sMoving 0).farQp 0).isSome = true ∧ (sMoving 0).flag R.ETH_STATUS_LINK_UP 0 = true) :=
  ⟨rest_of (by decide +kernel), rest_of (by decide +kernel), by decide +kernel, by decide +kernel, by decide +kernel⟩

/-- R155, R157, R158, R173. -/
theorem test_moves :
    ((fin (exec (.moveTake 4 0) (sMove goodMove))).mover 4 0).hand.isSome = true ∧
    ((fin (exec (.moveTake 4 0) (sMove waitMove))).mover 4 0).held.length = 1 ∧
    (fin (exec (.moveTake 4 0) (sMove badMove))).get R.SPAD_ERROR_STATUS 4 0 = 0xB ∧
    (fin (exec (.moveComplete 4 0 9) (sMoving goodMove))).mem.read 0x400000000123 5 = [1, 2, 3, 4, 5] ∧
    (fin (exec (.moveComplete 4 0 9) (sMoving goodMove))).get R.SPAD_MOVED_COUNT 4 0 = 1 ∧
    (fin (exec (.farSpillAck 4 0 9 [6, 7, 8, 9, 10]) (sMoving (copy 0xE00000000010 0x400000000123 5)))).mem.read 0x400000000123 5 = [6, 7, 8, 9, 10] := by
  decide +kernel

/-- A read and a write of five bytes of C0's home DRAM across a 128-byte line, and the same to no memory. -/
def memReq (wr : Bool) (a : Nat) : MemReq :=
  { tag := 77, die := 4, part := none, addr := a, len := 5, write := wr, plain := false, data := [1, 2, 3, 4, 5], damage := [] }

/-- C1 holds a copy of line 0x80 of C0's home DRAM. -/
def sCopy : State := { live with rlc := [(5, [0x400000000080])] }

/-- MemoryIsServedAndCached: a read, a write with no copy and with one, and an address without memory. -/
theorem wit_memoryRequest : live.Rest ∧ sCopy.Rest ∧
    ((memReq true 0x4000000000FD).wf = true ∧ live.linked 4 4 = true ∧ live.linked 4 2 = true ∧ live.aon.powered = true ∧ live.isHeld 4 = false ∧ (∀ a ∈ [0x4000000000FD, 0x2000000000FD], live.cutAt 4 none a 5 = false) ∧
     (live.load { die := 4, part := none } 0x4000000000FD 5).2.toOption = some [0, 0, 0, 0, 0] ∧ live.cacheable 4 0x4000000000FD = false ∧
     (live.storeRaw { die := 4, part := none } 0x4000000000FD [1, 2, 3, 4, 5]).2 = 0 ∧ live.rlc = [] ∧ live.fills = [] ∧
     lineOf 0x4000000000FD = 0x400000000080 ∧ isHomeDram 0x400000000080 = true ∧ isComp 5 = true ∧
     0x400000000080 ∈ ngetD sCopy.rlc 5 [] ∧ (sCopy.storeRaw { die := 4, part := none } 0x4000000000FD [1, 2, 3, 4, 5]).2 = 0 ∧
     live.judge { die := 4, part := none } 0x200000000000 5 = 1) := ⟨live_rest, rest_of (by decide +kernel), by decide +kernel⟩

/-- Fills outstanding at C0 for a line of C1, and a write that waits for C0 to give up line 0. -/
def sFill (killed : Bool) : State :=
  { live with fills := [⟨4, 0x500000000080, killed⟩], rlc := [(4, [0x500000000000])], invWaits := [⟨0x500000000000, [4], 77⟩] }

theorem wit_rlc : (sFill true).Rest ∧ (sFill false).Rest ∧
    ((sFill true).clocked 4 2 = true ∧ (sFill true).linked 4 5 = true ∧ (sFill true).fills.find? (fun f => f.die == 4 && f.line == 0x500000000080) = some ⟨4, 0x500000000080, true⟩ ∧
     (sFill false).invWaits = [⟨0x500000000000, [4], 77⟩]) := ⟨rest_of (by decide +kernel), rest_of (by decide +kernel), by decide +kernel⟩

/-- R164 to R166, R171. -/
theorem test_memory :
    (fin (exec (.memoryRequest (memReq false 0x4000000000FD)) live)).out = [.mem 77 true 0 [0, 0, 0, 0, 0]] ∧
    (fin (exec (.memoryRequest (memReq true 0x4000000000FD)) live)).mem.read 0x4000000000FD 5 = [1, 2, 3, 4, 5] ∧
    (fin (exec (.memoryRequest (memReq true 0x4000000000FD)) sCopy)).out = [] ∧
    (fin (exec (.memoryRequest (memReq true 0x200000000000)) live)).out = [.mem 77 false 1 []] ∧
    ngetD (fin (exec (.rlcFillReturn 4 0x500000000080) { sFill false with rlc := [] })).rlc 4 [] = [0x500000000080] ∧
    ngetD (fin (exec (.rlcFillReturn 4 0x500000000080) (sFill true))).rlc 4 [] = [0x500000000000] ∧
    (fin (exec (.rlcInvalidation 4 0x500000000000) (sFill false))).out = [.mem 77 true 0 []] := by decide +kernel

/-- C0's stacks run and are scrubbed, and channel 31 of stack 7 has its refresh as the class-0 requester. -/
def sScrub : State := on live ((List.range 8).flatMap (fun i => [(R.CLK_DOMAIN_RUNNING, 1, 4, 0, 4 + i), (R.HBMC_CFG_SCRUB_EN, 1, 4, i, 0)]))

/-- ScrubAndRefreshGoOn. -/
theorem wit_scrub : sScrub.Rest ∧ (sScrub.clocked 4 11 = true ∧ sScrub.flag R.HBMC_CFG_SCRUB_EN 4 7 = true ∧ 7 ∈ sScrub.stacks 4 ∧
    isHomeDram 0x40000000003F = true ∧ sScrub.flag R.HBMC_ERROR_UNCORR 4 (sScrub.dramPlace 0x400000000020).1 = false ∧
    sScrub.arbClass 4 0x4FF 5 = 0 ∧ (∀ r < 5, sScrub.arbClass 4 0x4FF r ≠ 0) ∧ (sScrub.arb 4 0x4FF).left 5 = 0) :=
  ⟨rest_of (by decide +kernel), by decide +kernel⟩

/-- R162, R176: a scrub reads 32 bytes; corrections and errors are noted; a refresh is granted at once. -/
theorem test_scrub :
    (fin (exec (.patrolScrub 4 7 1 0) sScrub)).get R.HBMC_RD_BYTES_COUNT 4 7 = 32 ∧
    (fin (exec (.patrolScrub 4 7 1 0) sScrub)).get R.HBMC_ECC_CORR_COUNT 4 7 = 1 ∧
    (fin (exec (.patrolScrub 4 7 2 0x40000000003F) sScrub)).mem.bad = [0x400000000020] ∧
    ((fin (exec (.dramRefresh 4 7 31) sScrub)).arb 4 0x4FF).left 5 = 0 := by decide +kernel

/-! ### Arbiters -/

/-- At port 0 of bank 0 of C0's first scratchpad: a class-2 and a class-3 requester with beats pending. -/
def sArb : State := { live with arbs := [(4 * 4096, { pend := [(2, [2]), (4, [1])] })] }

/-- ArbitersChooseAndGrant: beats arriving at an arbiter with grant counters, a class-2 and a class-3 requester pending, and an
arbiter with FREEZE; requesters of classes 1 and 2, with none, class 0 or a burst in progress, pending. -/
theorem wit_arbiters : live.Rest ∧ sArb.Rest ∧ (isDie 4 = true ∧ live.clocked 4 (arbDomain 4 0) = true ∧ arbType 4 0 = some 0 ∧ arbHasFreeze 0 = false ∧
    (Instr.arbGrant 4 0 [(0, 2), (1, 1), (255, 1)]).wf = true ∧ live.arbChoose 4 0 { pend := [(0, [2]), (1, [1])] } = some 0 ∧
    live.arbPending 4 0 {} = [] ∧ (∃ r ∈ sArb.arbPending 4 0 (sArb.arb 4 0), sArb.arbClass 4 0 r = 2) ∧
    (∃ r ∈ sArb.arbPending 4 0 (sArb.arb 4 0), sArb.arbClass 4 0 r = 3) ∧ arbType 0 0x42 = some 4 ∧ arbHasFreeze 4 = true ∧
    (∃ r ∈ live.arbPending 4 0x4FF { pend := [(5, [1])] }, live.arbClass 4 0x4FF r = 0) ∧
    (on live [(R.ARB_STATUS_BURST_OWNER, 2, 4, 0, 0)]).arbPending 4 0 { pend := [(2, [1]), (4, [1])] } = [2, 4] ∧
    live.get R.ARB_STATUS_BURST_OWNER 4 0 = 0x3F) :=
  ⟨live_rest, rest_of (by decide +kernel), by decide +kernel⟩

/-- R309, R311, R312, R314: class 1 before class 2; a burst in progress goes on; an aged class is marked; FREEZE is one bit. -/
theorem test_arbiters :
    live.arbChoose 4 0 { pend := [(0, [1]), (2, [1])] } = some 0 ∧
    (on live [(R.ARB_STATUS_BURST_OWNER, 2, 4, 0, 0)]).arbChoose 4 0 { pend := [(0, [1]), (2, [1])] } = some 2 ∧
    live.arbChoose 4 0 { pend := [(2, [1]), (3, [8])], begun := [3] } = some 3 ∧
    (fin (exec (.arbGrant 4 0 [(0, 2), (2, 1)]) live)).get R.ARB_GRANTS_COUNT 4 0 0 = 1 ∧
    (fin (exec (.arbGrant 4 0 [(0, 2), (2, 1)]) live)).get R.ARB_WAIT_COUNT 4 0 2 = 1 ∧
    (fin (exec (.arbAged 4 0 2) sArb)).flag R.ARB_STATUS_AGED_2 4 0 = true ∧
    (fin (exec (.arbFreeze 0 0x42 3) live)).get R.ARB_FREEZE_FREEZE 0 0x42 = 1 := by decide +kernel

/-! ### Media ingest -/

/-- A record of a region's stream. -/
def rec (region type : Nat) (payload : List Byte) : SRec := ⟨0, 0, type, 0, region, 0, payload, []⟩

/-- A node of hub AM's graph: node, block, instance, then its parameters as (byte, value); its memory is 1 MiB of home DRAM. -/
def node (n block inst : Nat) (ps : List (Nat × Nat)) : SRec :=
  rec 0x10 0x301 (leBytes 8 (pack [(0, n), (8, block), (16, inst), (24, 0x80)]) ++
    leBytes 0x80 (pack ([(0, 0x400010000000 + n * 0x100000), (64, 16)] ++ ps.map (fun x => (8 * x.1, x.2)))))

/-- An edge of that graph, one entry deep: node and port to node and port. -/
def edge (a p b q : Nat) : SRec := rec 0x10 0x302 (leBytes 8 (pack [(0, a), (8, p), (16, b), (24, q), (32, 0)]))

/-- Hub AM's graph: a demux, a video decoder, an audio and a caption node, a transform, a tokeniser, a delivery ring of two slots,
the permutation engine and two set engines. -/
def graph : List SRec :=
  [node 0 0x30 0 [(0x12, 0xFFFF), (0x16, 1), (0x17, 9), (0x18, 4)],
   node 1 0x31 0 [(0x10, 0xFE)], node 2 0x32 0 [(0x12, 1)], node 3 0x32 1 [(0x10, 1), (0x11, 0xF)],
   node 4 0x33 0 [(0x13, 1), (0x1C, 8), (0x1E, 8)], node 5 0x34 0 [],
   rec 0x10 0x301 (leBytes 8 (pack [(0, 6), (8, 0xFE), (16, 0), (24, 0x80)]) ++
     leBytes 0x80 (pack [(0, 0x400020000000), (64, 0x1000), (96, 2), (128, 0x400020010000), (192, 0x400020010008)])),
   node 7 0x35 0 [(0x10, 5), (0x18, 6), (0x38, 1), (0x3C, 4), (0x3E, 1), (0x40, 1)],
   node 8 0x36 0 [(0x10, 1), (0x18, 0xFF)], node 9 0x36 1 [(0x10, 4), (0x18, 0xFF)],
   edge 0 1 2 0, edge 2 0 6 0, edge 3 0 6 1, edge 5 0 6 2, edge 7 0 6 3, edge 7 1 6 4, edge 8 0 6 5]

/-- The graph in force, with a reservoir of the given size at home DRAM, and entries at the fronts of input queues:
(node, port, kind, flags, body); with them the queue pair 7 that feeds hub AM's reservoir. -/
def ing (size : Nat) (l : List (Nat × Nat × Nat × Nat × List Byte)) : State :=
  let q (x : Nat × Nat × Nat × Nat × List Byte) : Nat × List SEntry :=
    (stageKey 0 x.1 x.2.1, [⟨0x400030000000 + 0x1000 * x.1 + 0x800 * x.2.1, x.2.2.2.2.length, 9, 0, 2, x.2.2.1, x.2.2.2.1, 0⟩])
  let s := mem (l.map fun x => (0x400030000000 + 0x1000 * x.1 + 0x800 * x.2.1, x.2.2.2.2)) (on live [(R.RDMA_QP_STATE, 1, 0, 0, 7)])
  { s with stageQ := l.map q, qps := [(7, { entry := leBytes 64 0xFF0001, rq := 5 })],
           recs := [(0x10, rec 0x10 0x303 (leBytes 16 (pack [(0, 0x100000), (64, 0x80000)])) :: graph),
                    (0, [rec 0 5 (leBytes 24 (pack [(0, 1), (16, 0x10), (64, 0x400040000000), (128, size)]))])] }

/-- The node of an engine of that graph. -/
def nd (block inst : Nat) : NodeCfg := ((ing 0 []).nodeOf 0 block inst).getD ⟨0, 0, 0, []⟩

/-- A SEND packet of 20 bytes for queue pair 7. -/
def chunkPkt (psn : Nat) : RdmaPkt := ⟨7, 0, true, true, psn, false, 0, 0, 0, leBytes 20 0x7B00000000000000000000000900060002⟩

/-- ReservoirTakesChunks: a first packet that finds room and one that does not; a message that has arrived whole. -/
theorem wit_reservoir : (ing 0x200000 []).Rest ∧ (ing 0x1000 []).Rest ∧ { ing 0x200000 [] with resv := [(0, { ring := [{ start := 0, qp := 7, bytes := 20, landed := true }] })] }.Rest ∧
    (∀ size ∈ [0x200000, 0x1000], (ing size []).clocked 0 4 = true ∧ (chunkPkt 5).wf = true ∧ (ing size []).flag R.ETH_STATUS_LINK_UP 0 = true ∧
      (ing size []).qpState 7 = qpReady ∧ ((ing size []).qp 7).kind = 1 ∧ ((ing size []).qp 7).owner = 0 ∧ ((ing size []).qp 7).place 5 = 0 ∧
      (ing size []).inReset 0 = false ∧ ((ing size []).qp 7).inMsg = false ∧ (ing size []).linkedTo 0 [0, 0x400040000000] = true ∧ (ing size []).resvCarve 0 = some ⟨1, 0, 0x10, 0x400040000000, size⟩ ∧
      (ing size []).water 0 = some (0x100000, 0x80000) ∧ ((ing size []).reservoir 0).ring = []) ∧
    (resvNext ((ing 0x200000 []).reservoir 0) 0x200000 = some 0 ∧ resvNext ((ing 0x1000 []).reservoir 0) 0x1000 = none ∧
     (ing 0x200000 []).region 0x10 ≠ 1 ∧ ((ing 0x200000 []).qp 7).inMsg = false ∧ ((ing 0x200000 []).qp 7).hub = 0) ∧
    (on { ing 0x200000 [] with resv := [(0, { ring := [{ start := 0, qp := 7, bytes := 20, landed := true }] })] } [(R.STREAM_REGION_STATE, 1, 0, 0, 0x10)]).region 0x10 ≠ 0 :=
  ⟨rest_of (by decide +kernel), rest_of (by decide +kernel), rest_of (by decide +kernel), by decide +kernel, by decide +kernel, by decide +kernel⟩

/-- R183 to R187, R372: the packet lands, passes HIGH and is acknowledged; without room it is counted and has no other effect; a whole message is a chunk. -/
theorem test_reservoir :
    (let t := fin (exec (.reservoirPacket (chunkPkt 5)) (ing 0x200000 []))
     (t.reservoir 0).ring = [{ start := 0, bytes := 20, qp := 7, landed := true }] ∧ (t.reservoir 0).pos = 0x100040 ∧ (t.qp 7).rq = 6 ∧
       t.out = [.eth 0 [3, 0xFFFF] [], .eth 5 [7, 5] []] ∧ t.mem.read 0x400040000000 3 = [2, 0, 6]) ∧
    (fin (exec (.reservoirPacket (chunkPkt 5)) (ing 0x1000 []))).get R.DEMUX_RES_OVERFLOW_COUNT 0 = 1 ∧
    (fin (exec (.reservoirChunkComplete 7) (fin (exec (.reservoirPacket (chunkPkt 5)) (ing 0x200000 []))))).get R.DEMUX_RES_CHUNKS_COUNT 0 = 1 := by
  decide +kernel

/-- A unit of five bytes held back by an engine at one of its ports. -/
def heldBack (port : Nat) : Emis := { port := port, e := ⟨0, 0, 9, 0, 2, 5, 3, 0⟩, body := [1, 2, 3, 4, 5] }

/-- An engine of the graph holds that unit back. -/
def holds (block inst port : Nat) (s : State) : State := s.putNode 0 (nd block inst).node { held := [heldBack port] }

/-- The delivery ring's queue for audio is full. -/
def ringFull : State := holds 0x32 0 0 (ing 0 [(6, 0, 5, 3, [0])])

/-- A complete chunk of the given FLAGS lies in the reservoir. -/
def chunkIn (flags : Nat) : State :=
  mem [(0x400040000000, leBytes 20 (0x7B000000000000000000000009 * 2 ^ 32 + flags * 2 ^ 16 + 2))]
    { ing 0x200000 [] with resv := [(0, { ring := [{ start := 0, qp := 7, bytes := 20, landed := true, complete := true }], order := 1 })] }

/-- ChunksAreWorkedThrough: held units without an edge, without a place and with both; a demux with a chunk and without. -/
theorem wit_chunks : (holds 0x33 0 0 (ing 0 [])).Rest ∧ ringFull.Rest ∧ (holds 0x32 0 0 (ing 0 [])).Rest ∧ (chunkIn 6).Rest ∧ (ing 0x200000 []).Rest ∧
    ((holds 0x33 0 0 (ing 0 [])).engineOn 0 0x33 0 = true ∧ (holds 0x33 0 0 (ing 0 [])).nodeOf 0 0x33 0 = some (nd 0x33 0) ∧ (holds 0x33 0 0 (ing 0 [])).ingestOn 0 = true ∧
     ((holds 0x33 0 0 (ing 0 [])).inode 0 (nd 0x33 0).node).held = [heldBack 0] ∧
     ((holds 0x33 0 0 (ing 0 [])).edges 0).find? (fun g => g.src == (nd 0x33 0).node && g.sport == 0) = none) ∧
    (∀ s ∈ [ringFull, holds 0x32 0 0 (ing 0 [])], s.engineOn 0 0x32 0 = true ∧ s.nodeOf 0 0x32 0 = some (nd 0x32 0) ∧ s.ingestOn 0 = true ∧
      (s.inode 0 (nd 0x32 0).node).held = [heldBack 0] ∧
      (s.edges 0).find? (fun g => g.src == (nd 0x32 0).node && g.sport == 0) = some ⟨2, 0, 6, 0, 1⟩) ∧
    ((ringFull.inq 0 6 0).length = 1 ∧ (holds 0x32 0 0 (ing 0 [])).inq 0 6 0 = [] ∧
     (holds 0x32 0 0 (ing 0 [])).room 0 (nd 0x32 0) 5 = some (0x400010200000, 0) ∧
     (holds 0x32 0 0 (ing 0 [])).judge ((ing 0 []).engWho 0 (nd 0x32 0)) 0x400010200000 5 = 0 ∧
     (holds 0x32 0 0 (ing 0 [])).accumCarve 0x400010200000 5 = none ∧ (ing 0 []).mem.bad = []) ∧
    (∀ s ∈ [chunkIn 6, ing 0x200000 []], s.engineOn 0 0x30 0 = true ∧ s.dropUnbound 0 = s ∧ s.nodeOf 0 0x30 0 = some (nd 0x30 0) ∧
      s.resvCarve 0 = some ⟨1, 0, 0x10, 0x400040000000, 0x200000⟩ ∧ s.mayWork 0 (nd 0x30 0) = true ∧ s.region 0x10 = 0 ∧ s.linkedTo 0 [0x400040000000] = true) ∧
    ((oldest ((chunkIn 6).demuxMine 0 (nd 0x30 0))).isSome = true ∧ (ing 0x200000 []).demuxMine 0 (nd 0x30 0) = [] ∧
     ((chunkIn 6).reservoir 0).ring.all (fun k => k.complete && !k.released) = true ∧
     ((chunkIn 6).demuxFor 0 ((chunkIn 6).chunkSource 0x400040000000 { start := 0, qp := 7, bytes := 20, landed := true, complete := true })) = some (nd 0x30 0) ∧
     ((chunkIn 6).load { die := 0, part := some ((chunkIn 6).partOfEngine 0 0x30 0), resv := true } 0x400040000000 20).2.toBool = true ∧
     bit 6 0 = false ∧ ((chunkIn 6).inode 0 (nd 0x30 0).node).items = []) :=
  ⟨rest_of (by decide +kernel), rest_of (by decide +kernel), rest_of (by decide +kernel), rest_of (by decide +kernel), rest_of (by decide +kernel),
   by decide +kernel, by decide +kernel, by decide +kernel, by decide +kernel, by decide +kernel⟩

/-- R180, R206: a unit is dropped and counted, waits, or is emitted. R188, R209: a chunk that opens its item is an elementary
stream's unit, and one of an item that is not open is dropped with code 8. -/
theorem test_chunks :
    (fin (exec (.stageRoomResume 0 0x33 0) (holds 0x33 0 0 (ing 0 [])))).get R.XFORM_DROPPED_COUNT 0 0 = 1 ∧
    ((fin (exec (.stageRoomResume 0 0x32 0) ringFull)).inode 0 2).held.length = 1 ∧
    (fin (exec (.stageRoomResume 0 0x32 0) (holds 0x32 0 0 (ing 0 [])))).mem.read 0x400010200000 5 = [1, 2, 3, 4, 5] ∧
    (fin (exec (.demuxChunk 0 0) (chunkIn 7))).inq 0 2 0 = [⟨0x400010000000, 68, 9, 0, 2, 1, 3, 0⟩] ∧
    (fin (exec (.demuxChunk 0 0) (chunkIn 7))).mem.read 0x400010000000 20 = leBytes 20 (0x20901 * 2 ^ 128 + 9) ∧
    (fin (exec (.demuxChunk 0 0) (chunkIn 6))).get R.DEMUX_ERROR_LAST_CODE 0 0 = 8 := by decide +kernel

/-- An elementary stream's unit for the video decoder: its codec code in the header. -/
def unitBody (codec : Nat) : List Byte := leBytes 64 (codec * 2 ^ 136 + 9) ++ [1, 2, 3, 4]

/-- A monochrome picture of 3 by 1 samples, one block of vectors (3, -4) whose residuals' squares sum to 255. -/
def picture : VFrame :=
  { width := 3, height := 1, layout := 0, sample := 1, depth := 8, prim := 1, transfer := 1, matrix := 1, rgb := false, nits := 0,
    range := 1, pts := 77, key := true, blocks := [⟨3, -4, 255, 1⟩], damage := [], planes := [[5, 6, 7]] }

/-- A unit that its standard decodes to that picture, and one outside R192. -/
def goodUnit : VUnit := { profile := .avcHigh, level := 52, tools := false, within := true, error := 0, frames := [picture], userData := [] }
def alienUnit : VUnit := { goodUnit with profile := .avcHigh10 }

/-- A unit waits at each decoder. -/
def sMedia : State := ing 0 [(1, 0, 1, 1, unitBody 2), (2, 0, 1, 1, unitBody 9), (3, 1, 4, 1, leBytes 64 9)]

/-- A block of audio of two samples on two channels, and a CEA-608 record of channel 1. -/
def ablock : ABlock := { rate := 48000, pts := 5, samples := 2, channels := [[1, 2, 3, 4], [5, 6, 7, 8]] }
def caption : CapRec := { service := 0, channel := 1, lang := 0, duration := 3, pts := 6, text := [0x41], bmW := 0, bmH := 0, page := 0, sub := false }

/-- MediaUnitsAreDecoded: a unit waiting at a video decoder, an audio node and a caption node. -/
theorem wit_media : sMedia.Rest ∧
    (goodUnit.wf = true ∧ alienUnit.wf = true ∧ unitOk 0xFE 2 goodUnit = true ∧ unitOk 0xFE 2 alienUnit = false ∧ ablock.wf = true ∧ caption.wf = true ∧
     (∀ x ∈ [(0x31, 0), (0x32, 0), (0x32, 1)], sMedia.engineOn 0 x.1 x.2 = true ∧ sMedia.nodeOf 0 x.1 x.2 = some (nd x.1 x.2) ∧
       sMedia.mayWork 0 (nd x.1 x.2) = true ∧ (sMedia.inode 0 (nd x.1 x.2).node).items = [] ∧ (sMedia.inode 0 (nd x.1 x.2).node).ended = [])) ∧
    ((sMedia.take 0 (nd 0x31 0) 0).2 = some (⟨0x400030001000, 68, 9, 0, 2, 1, 1, 0⟩, some (unitBody 2)) ∧ fieldAt (unitBody 2) 0x11 1 = 2 ∧
     (nd 0x31 0).par 0x10 2 = 0xFE ∧ bit ((nd 0x31 0).par 0x12 1) 0 = false) ∧
    ((nd 0x32 0).par 0x10 1 = 0 ∧ (nd 0x32 1).par 0x10 1 = 1 ∧ sMedia.nextPort 0 (nd 0x32 1) = some 1 ∧ capWanted (nd 0x32 1) 4 0 caption = true ∧
     bit 1 flagLast = false) ∧
    (let a := sMedia.take 0 (nd 0x32 0) 0
     let r := audioUnit (nd 0x32 0) { item := 9, source := 2 } 9 0 false [ablock]
     a.2.map (fun x => x.2.map (fun b => fieldAt b 0x11 1)) = some (some 9) ∧ r.2.length = 1 ∧
       ((a.1.putNode 0 2 ((a.1.inode 0 2).putItem r.1)).emitGroup 0 (nd 0x32 0) r.2).isSome = true) ∧
    (let a := sMedia.take 0 (nd 0x32 1) 1
     let r := capEmis { item := 9, source := 2 } 0 caption
     a.2.isSome = true ∧ ((a.1.putNode 0 3 ((a.1.inode 0 3).putItem r.1)).emit 0 (nd 0x32 1) r.2).isSome = true) :=
  ⟨rest_of (by decide +kernel), by decide +kernel, by decide +kernel, by decide +kernel, by decide +kernel, by decide +kernel⟩

/-- R192, R195, R197, R198, R199: a picture is held behind its item's next, in a row of 64 bytes; a unit outside R192 ends its item with
code 5; audio and captions leave. ENERGY of a block whose squares sum to 255 is 256 times 8. -/
theorem test_media :
    ((((fin (exec (.vdecUnit 0 0 goodUnit) sMedia)).inode 0 1).items.map (·.last)).map (List.map (fun m => (m.e.pts, m.e.flags, m.body.length, (m.body.drop 64).take 4)))) =
      [[(77, 0x41, 128, [5, 6, 7, 0])]] ∧
    blockEnergy 255 1 = 2048 ∧ blockEnergy 2 0 = 405 ∧
    (fin (exec (.vdecUnit 0 0 alienUnit) sMedia)).get R.VDEC_ERROR_LAST_CODE 0 0 = 5 ∧
    ((fin (exec (.adecAudioBlock 0 0 0 [ablock]) sMedia)).inq 0 6 0).map (fun e => (e.kind, e.bytes, e.pts)) = [(5, 128, 5)] ∧
    ((fin (exec (.adecCaption 0 1 0 [caption]) sMedia)).inq 0 6 1).map (fun e => (e.kind, e.bytes, e.pts)) = [(6, 65, 6)] := by decide +kernel

/-- A frame of the given geometry, in a body whose header says so. -/
def frameBody (w h : Nat) : List Byte :=
  leBytes 64 (pack [(0, 9), (0x11 * 8, 2), (0x14 * 8, w), (0x16 * 8, h), (0x19 * 8, 1), (0x1E * 8, 1)]) ++ [1, 2, 3, 4, 5, 6, 7, 8]

/-- A frame waits at the transform; the tokeniser holds two finished tiles. -/
def sFrame (w h : Nat) : State := (ing 0 [(4, 0, 2, 0, frameBody w h)]).putNode 0 5 { ready := [heldBack 0, heldBack 0] }

/-- An entry waits at the delivery node, and its ring has taken n entries, of which none has been consumed; CONSUMED reads v. -/
def sRing (n v : Nat) : State :=
  (mem [(0x400020010008, leBytes 8 v)] (ing 0 [(6, 0, 5, 3, [1, 2, 3])])).putNode 0 6 { n := n }

/-- FramesTilesAndDeliveries: frames within and outside the scaler's limits, final tiles, a ring with room, and a full one that reads
CONSUMED at its bounds, within and outside. -/
theorem wit_frames : (sFrame 8 8).Rest ∧ (sRing 1 0).Rest ∧ (sRing 2 0).Rest ∧
    (∀ w ∈ [8, 1], (sFrame w 8).mayWork 0 (nd 0x33 0) = true ∧ (sFrame w 8).mayWork 0 (nd 0x34 0) = true ∧ (sFrame w 8).engineOn 0 0x33 0 = true ∧
      (sFrame w 8).nodeOf 0 0x33 0 = some (nd 0x33 0) ∧ ((sFrame w 8).take 0 (nd 0x33 0) 0).2 = some (⟨0x400030004000, 72, 9, 0, 2, 2, 0, 0⟩, some (frameBody w 8)) ∧
      ((sFrame w 8).inode 0 4).items = [] ∧ bits (fieldAt (frameBody w 8) 0x18 1) 2 2 = 0 ∧ bobFrames (nd 0x33 0) (frameBody w 8) = 1) ∧
    (xformOk (nd 0x33 0) (frameBody 8 8) = true ∧ xformOk (nd 0x33 0) (frameBody 1 8) = false ∧ (nd 0x33 0).node = 4 ∧ (nd 0x34 0).node = 5 ∧
     (sFrame 8 8).engineOn 0 0x34 0 = true ∧ (sFrame 8 8).nodeOf 0 0x34 0 = some (nd 0x34 0) ∧
     (((sFrame 8 8).putNode 0 5 { ready := [heldBack 0] }).emit 0 (nd 0x34 0) (heldBack 0)).isSome = true) ∧
    (∀ n ∈ [1, 2], (sRing n 0).clocked 0 0 = true ∧ (sRing n 0).nodeOf 0 0xFE 0 = some (nd 0xFE 0) ∧ (sRing n 0).ingestOn 0 = true ∧
      ((sRing n 0).inode 0 6).stuck = false ∧ ((sRing n 0).inode 0 6).n = n ∧ ((sRing n 0).inode 0 6).cons = 0 ∧ (nd 0xFE 0).par 0xC 4 = 2) ∧
    ((sRing 1 0).nextPort 0 (nd 0xFE 0) = some 0 ∧ ((sRing 1 0).take 0 (nd 0xFE 0) 0).2 = some (⟨0x400030006000, 3, 9, 0, 2, 5, 3, 0⟩, some [1, 2, 3]) ∧
     64 + 3 ≤ (nd 0xFE 0).par 8 4 ∧ bit ((nd 0xFE 0).par 0x20 8) 0 = false ∧
     (((sRing 1 0).take 0 (nd 0xFE 0) 0).1.store ((sRing 1 0).engWho 0 (nd 0xFE 0)) 0x400020001000 (List.replicate 67 0)).2 = 0 ∧
     ((sRing 1 0).take 0 (nd 0xFE 0) 0).1.accumCarve 0x400020001000 67 = none) ∧
    (∀ v ∈ [0, 2, 3], (sRing 2 v).linkedTo 0 [0x400020000000, 0x400020010000, 0x400020010008] = true ∧
      ((sRing 2 v).load ((sRing 2 v).engWho 0 (nd 0xFE 0)) 0x400020010008 8).2.toOption = some (leBytes 8 v)) :=
  ⟨rest_of (by decide +kernel), rest_of (by decide +kernel), rest_of (by decide +kernel), by decide +kernel, by decide +kernel, by decide +kernel,
   by decide +kernel, by decide +kernel⟩

/-- R200, R201, R204, R205. -/
theorem test_frames :
    ((fin (exec (.xformFrame 0 0) (sFrame 1 8))).inode 0 4).items.map (fun i => i.last.map (fun m => (m.e.flags, m.body))) = [[(5, frameBody 1 8)]] ∧
    ((fin (exec (.tokenTile 0 0) (sFrame 8 8))).inq 0 6 2).map (·.bytes) = [5] ∧
    (let t := fin (exec (.deliveryEntry 0 0) (sRing 1 0))
     t.get R.DEMUX_DELIV_PRODUCED 0 0 0 = 2 ∧ t.mem.read 0x400020001000 6 = leBytes 6 0x400020001040 ∧ t.mem.read 0x400020001040 3 = [1, 2, 3] ∧
       t.mem.read 0x400020010000 8 = leBytes 8 2) ∧
    (fin (exec (.deliveryConsumedPoll 0 0) (sRing 2 1))).get R.DEMUX_DELIV_FULL 0 0 0 = 0 ∧
    (fin (exec (.deliveryConsumedPoll 0 0) (sRing 2 3))).get R.DEMUX_DELIV_FAULT 0 0 0 = 1 := by decide +kernel

/-! ### Shuffle and set engines -/

/-- TheGeneratorAndHostRequestsRun: the generator at its first block, and at its last. -/
theorem wit_generator : (ing 0 []).Rest ∧ ((ing 0 []).putNode 0 7 { j := 4, blk := 1 }).Rest ∧
    (∀ s ∈ [ing 0 [], (ing 0 []).putNode 0 7 { j := 4, blk := 1 }], s.engineOn 0 0x35 0 = true ∧ s.nodeOf 0 0x35 0 = some (nd 0x35 0) ∧
      s.mayWork 0 (nd 0x35 0) = true ∧ s.region 0x10 = 0 ∧ s.claim 2 0 = 1 ∧ (s.inode 0 (nd 0x35 0).node).genStop = false) ∧
    (genRun 6 5 0 0 1 0 4 0).length = 4 ∧ (genRecord 6 5 0 0 1 0 4).isSome = true ∧ (genRun 6 5 0 0 1 0 4 4).length = 2 ∧
    (genRecord 6 5 0 0 1 0 6).isSome = false ∧
    (match (genNext (nd 0x35 0) ((ing 0 []).inode 0 7)).1 with | some m => ((ing 0 []).emit 0 (nd 0x35 0) m).isSome | none => false) = true ∧
    (match (genNext (nd 0x35 0) { j := 4, blk := 1 }).1 with
     | some m => (((ing 0 []).putNode 0 7 { j := 4, blk := 1 }).emit 0 (nd 0x35 0) m).isSome | none => false) = true :=
  ⟨rest_of (by decide +kernel), rest_of (by decide +kernel), by decide +kernel, by decide +kernel⟩

/-- COMPUTE owns PERM and SETE instance 3 of hub AM; a request for three positions of five, at the given place. -/
def sHost (busy dest : Nat) : State :=
  recs [(0, [rec 0 7 [2, 0, 3, 0, 1, 0, 3, 0]])] (on live [(R.PERM_HOST_CTRL_BUSY, busy, 0, 0, 0), (R.PERM_HOST_N_N, 5, 0, 0, 0),
    (R.PERM_HOST_POS_FIRST, 2, 0, 0, 0), (R.PERM_HOST_SEED_SEED, 7, 0, 0, 0), (R.PERM_HOST_DEST_DEST, dest, 0, 0, 0)])

theorem wit_hostRequests : (∀ b ∈ [0, 1], (sHost b 0x400000000040).aon.powered = true ∧ (sHost b 0x400000000040).isHeld 0 = false ∧
      (sHost b 0x400000000040).claim 2 0 = 3 ∧ (sHost b 0x400000000040).region 0x10 = 0) ∧
    (sHost 0 0).Rest ∧ (sHost 1 0x400000000040).Rest ∧ (sHost 1 0x400000000041).Rest ∧ live.Rest ∧ live.claim 2 0 ≠ 3 ∧ live.flag R.PERM_HOST_CTRL_BUSY 0 = false ∧
    (on (sHost 0 0) [(R.STREAM_REGION_STATE, 2, 0, 0, 0x10)]).region 0x10 ≠ 0 ∧ (sHost 1 0x400000000040).flag R.PERM_HOST_CTRL_BUSY 0 = true ∧
    (sHost 1 0x400000000040).engineOn 0 0x35 0 = true ∧ ((sHost 1 0x400000000040).permHostRecs 0).length = 3 ∧
    (sHost 1 0x400000000040).permDest 0 3 = 0 ∧ (sHost 1 0x400000000041).permDest 0 3 ≠ 0 ∧
    (sHost 1 0x400000000040).linkedTo 0 [0x400000000040] = true ∧ (sHost 1 0x400000000040).cutAt 0 none 0x400000000040 48 = false ∧
    (sHost 1 0x400000000040).accumCarve 0x400000000040 48 = none ∧ (sHost 1 0x400000000040).mem.bad = [] :=
  ⟨by decide +kernel, rest_of (by decide +kernel), rest_of (by decide +kernel), rest_of (by decide +kernel), live_rest, by decide +kernel⟩

/-- PermIsAPermutation: five positions under a seed, taken to five positions, all different. -/
theorem wit_perm : (∀ p < 5, perm p 5 9 1 < 5) ∧ ((List.range 5).map (fun p => perm p 5 9 1)).Nodup := by decide +kernel

/-- R214, R215: the first block holds four records, the last two; positions lie in the records' second half. -/
theorem test_permutations :
    ((fin (exec (.permGenBlock 0) (ing 0 []))).inq 0 6 4).map (fun e => (e.bytes, e.flags)) = [(128, 1)] ∧
    ((fin (exec (.permGenBlock 0) ((ing 0 []).putNode 0 7 { j := 4, blk := 1 }))).inode 0 7).genStop = true ∧
    (fin (exec (.permHostGo 0) live)).get R.PERM_HOST_CTRL_STATUS 0 = 0x1D ∧
    (fin (exec (.permHostDone 0) (sHost 1 0x400000000040))).mem.read 0x400000000048 8 = leBytes 8 2 ∧
    (fin (exec (.permHostDone 0) (sHost 1 0x400000000041))).get R.PERM_HOST_CTRL_STATUS 0 = 5 := by decide +kernel

/-- The shuffle of one place: it holds the entries given, and one waits at its input where `w`. -/
def sShuffle (w : Bool) (held : List SEntry) : State := (ing 0 (if w then [(7, 0, 1, 0, [1, 2, 3])] else [])).putNode 0 7 { buf := held }

/-- An entry of the shuffle's. -/
def heldEntry : SEntry := ⟨0x400010700000, 3, 8, 0, 2, 1, 0, 0⟩

/-- TheShuffleHoldsAndEmits: an entry arriving at an empty buffer and at a full one, and a full buffer whose input is empty. -/
theorem wit_shuffle : (sShuffle true []).Rest ∧ (sShuffle true [heldEntry]).Rest ∧ (sShuffle false [heldEntry]).Rest ∧
    (∀ s ∈ [sShuffle true [], sShuffle true [heldEntry], sShuffle false [heldEntry]], s.engineOn 0 0x35 0 = true ∧ s.nodeOf 0 0x35 0 = some (nd 0x35 0) ∧
      s.mayWork 0 (nd 0x35 0) = true ∧ s.claim 2 0 = 1 ∧ (nd 0x35 0).par 0x40 2 = 1 ∧ (nd 0x35 0).node = 7 ∧
      (s.edges 0).find? (fun g => g.src == 7 && g.sport == 0) = some ⟨7, 0, 6, 3, 1⟩ ∧ s.inq 0 6 3 = []) ∧
    ((sShuffle true []).inq 0 7 0 = [⟨0x400030007000, 3, 9, 0, 2, 1, 0, 0⟩] ∧ ((sShuffle true []).room 0 (nd 0x35 0) 3).isSome = true ∧
     ((sShuffle true []).take 0 (nd 0x35 0) 0).2 = some (⟨0x400030007000, 3, 9, 0, 2, 1, 0, 0⟩, some [1, 2, 3]) ∧
     (((sShuffle true []).take 0 (nd 0x35 0) 0).1.store ((sShuffle true []).engWho 0 (nd 0x35 0)) 0x400010700000 [1, 2, 3]).2 = 0 ∧
     (sShuffle true []).region 0x10 ≠ 1 ∧ (on (sShuffle true [heldEntry]) [(R.STREAM_REGION_STATE, 1, 0, 0, 0x10)]).mayWork 0 (nd 0x35 0) = true) ∧
    (let a := (sShuffle true [heldEntry]).shuffleOut 0 (nd 0x35 0)
     a.2 = true ∧ a.1.inq 0 7 0 = [⟨0x400030007000, 3, 9, 0, 2, 1, 0, 0⟩] ∧ (a.1.room 0 (nd 0x35 0) 3).isSome = true ∧
     (a.1.take 0 (nd 0x35 0) 0).2 = some (⟨0x400030007000, 3, 9, 0, 2, 1, 0, 0⟩, some [1, 2, 3])) ∧
    (sShuffle false [heldEntry]).inq 0 7 0 = [] :=
  ⟨rest_of (by decide +kernel), rest_of (by decide +kernel), rest_of (by decide +kernel), by decide +kernel, by decide +kernel, by decide +kernel,
   by decide +kernel⟩

/-- R216. -/
theorem test_shuffle :
    ((fin (exec (.shuffleEntry 0) (sShuffle true []))).inode 0 7).buf.map (fun e => (e.item, e.body)) = [(9, 0x400010700000)] ∧
    ((fin (exec (.shuffleEntry 0) (sShuffle true [heldEntry]))).inode 0 7).buf.map (·.item) = [9] ∧
    ((fin (exec (.shuffleEntry 0) (sShuffle true [heldEntry]))).inq 0 6 3).map (·.item) = [8] ∧
    ((fin (exec (.shuffleFlush 0) (sShuffle false [heldEntry]))).inq 0 6 3).map (·.item) = [8] := by decide +kernel

/-- SetOperationsOrderAndGroup: sorted inputs, and one that is not. -/
theorem wit_setOrder : isSorted 0xFF [(1, 5), (1, 6), (0x102, 7)] = true ∧ isSorted 0xFF [(3, 0)] = true ∧ isSorted 0xFF [(3, 0), (0x101, 0)] = false := by
  decide +kernel

/-- R218: hand-worked results of each operation. -/
theorem test_setOperations :
    (setOp 1 0 0 0xFF false [(3, 1), (0x101, 2), (3, 0)] []).recs = [(0x101, 2), (3, 1), (3, 0)] ∧
    (setOp 2 0 0 0xFF true [(1, 5)] [(1, 6), (2, 7)]).recs = [(5, 1), (6, 1), (7, 2)] ∧
    (setOp 4 1 0 0xFF false [(1, 5), (2, 6)] [(2, 9)]).recs = [(1, 5)] ∧
    (setOp 5 0 0 0xFF false [(1, 5), (1, 6), (2, 7)] []).segs = [(1, 0, 2), (2, 2, 1)] ∧
    (setOp 6 0 2 0xFF false [(1, 5), (2, 6), (2, 7), (2, 8)] []).list = [5, 0xFFFF, 6, 7, 8, 0xFFFF] ∧
    (setOp 6 0 1 0xFF false [(1, 5), (2, 0xFFFF)] []).status = 0xD := by decide +kernel

/-- A block of two records out of order. -/
def recBlock : List Byte := leBytes 64 (2 * 2 ^ 160 + 9) ++ [(3, 1), (2, 2)].flatMap recBytes

/-- A block waits at the SORT node and at the JOIN node, whose table is unsorted. -/
def sBlock : State := (ing 0 [(8, 0, 8, 3, recBlock), (9, 0, 8, 3, recBlock)]).putNode 0 9 { badTable := true }

/-- SetWorkRuns: blocks at a SORT and at a JOIN node. -/
theorem wit_setBlocks : sBlock.Rest ∧
    (∀ i ∈ [0, 1], sBlock.engineOn 0 0x36 i = true ∧ sBlock.nodeOf 0 0x36 i = some (nd 0x36 i) ∧ sBlock.mayWork 0 (nd 0x36 i) = true ∧
      (sBlock.take 0 (nd 0x36 i) 0).2.isSome = true) ∧
    ((nd 0x36 0).par 0x10 1 = 1 ∧ (nd 0x36 1).par 0x10 1 = 4 ∧ ((sBlock.take 0 (nd 0x36 1) 0).1.inode 0 9).badTable = true ∧
     ((nd 0x36 0).node = 8 ∧ (nd 0x36 1).node = 9)) ∧
    (let o := setOp 1 0 0 0xFF false (blockRecs recBlock) []
     o.status = 0 ∧ (blockOut 1 ⟨0x400030008000, 96, 9, 0, 2, 8, 3, 0⟩ o).length = 1 ∧
     (blockOut 1 ⟨0x400030008000, 96, 9, 0, 2, 8, 3, 0⟩ o).all (fun m => ((sBlock.take 0 (nd 0x36 0) 0).1.emit 0 (nd 0x36 0) m).isSome) = true) :=
  ⟨rest_of (by decide +kernel), by decide +kernel, by decide +kernel, by decide +kernel⟩

/-- A set descriptor: op, A, records and OUT. -/
def setDesc (op a n out : Nat) : Nat := pack [(0, op), (64, a), (128, n), (256, out), (448, 0xFF)]

/-- The set queue of context 3 with one descriptor waiting. -/
def sSet (raw : Nat) : State :=
  recs [(0, [rec 0 7 [1, 0xFF, 3, 0]])] (mem [(0x400000000400, leBytes 64 raw)]
    (on live [(R.SETE_QBASE_BASE, 0x400000000400, 0, 3, 3), (R.SETE_QCFG_ENABLE, 1, 0, 3, 3), (R.SETE_QCFG_SIZE_LOG2, 4, 0, 3, 3),
              (R.SETE_QTAIL_TAIL, 1, 0, 3, 3)]))

/-- A SORT of three records into place beyond them, and an operation there is none of. -/
def goodSort : Nat := setDesc 1 0x400000000000 3 0x400000000040
def badSet : Nat := setDesc 7 0 0 0

/-- A SORT in hand, its records at A. -/
def sSorting : State :=
  (mem [(0x400000000000, [(3, 1), (1, 2), (2, 3)].flatMap recBytes)] (sSet 0)).putMover 0 3 { hand := some { ctx := 3, gen := 0, raw := goodSort, waiting := false } }

/-- SetWorkRuns: descriptors that pass and fail their checks, and one in hand. -/
theorem wit_setDescriptors : (sSet goodSort).Rest ∧ (sSet badSet).Rest ∧ sSorting.Rest ∧
    (∀ raw ∈ [goodSort, badSet], (sSet raw).engineOn 0 0x36 3 = true ∧ (sSet raw).region 0x10 = 0 ∧ (sSet raw).claim 1 0 ≠ 1 ∧ ((sSet raw).mover 0 3).hand = none ∧
      roundRobin 64 ((sSet raw).mover 0 3).rr (fun c => (sSet raw).ctxOpen c && (sSet raw).qReady seteQ 0 3 c 0) = some 3 ∧
      ((sSet raw).load { die := 0, part := (sSet raw).ctxPart 3 } ((sSet raw).qSlot seteQ 0 3 3) 64).2.toOption = some (leBytes 64 raw)) ∧
    (sOp badSet = 7 ∧ sOp goodSort = 1 ∧ (sSet goodSort).setFlagsBad 0 goodSort = false ∧
     (sSet goodSort).setAddrCheck { die := 0, part := (sSet 0).ctxPart 3 } ((setSpans goodSort 0).1 ++ (setSpans goodSort 0).2) = (0, none)) ∧
    (sSorting.engineOn 0 0x36 3 = true ∧ sComplete goodSort = false ∧ sTmp goodSort = 0 ∧ sAN goodSort = 3 ∧ sSorting.linkedTo 0 [sA goodSort, sOut goodSort] = true ∧
     (∀ a ∈ [sA goodSort, sOut goodSort], sSorting.cutAt 0 none a 48 = false) ∧
     (sSet goodSort).linkedTo 0 [(sSet goodSort).qSlot seteQ 0 3 3] = true ∧ (sBlock.linkedTo 0 [(nd 0x36 1).par 0x20 8 % 2 ^ 48]) = true ∧
     sSorting.judge { die := 0, part := sSorting.ctxPart 3 } (sA goodSort) 48 = 0 ∧ sSorting.judge { die := 0, part := sSorting.ctxPart 3 } (sOut goodSort) 48 = 0 ∧
     sSorting.accumCarve (sOut goodSort) 48 = none ∧ sSorting.mem.bad = [] ∧ sA goodSort + 48 ≤ sOut goodSort) :=
  ⟨rest_of (by decide +kernel), rest_of (by decide +kernel), rest_of (by decide +kernel), by decide +kernel, by decide +kernel, by decide +kernel⟩

/-- R217, R218, R220, R224. -/
theorem test_setWork :
    (fin (exec (.seteBlock 0 0) sBlock)).mem.read 0x400010800040 32 = [(2, 2), (3, 1)].flatMap recBytes ∧
    (fin (exec (.seteBlock 0 1) sBlock)).get R.SETE_DROPPED_COUNT 0 1 = 1 ∧
    ((fin (exec (.setDescTake 0) (sSet goodSort))).mover 0 3).hand.isSome = true ∧
    (fin (exec (.setDescTake 0) (sSet badSet))).get R.SETE_DESC_ERROR_STATUS 0 3 = 1 ∧
    (fin (exec (.setDescComplete 0 5) sSorting)).mem.read 0x400000000040 48 = [(1, 2), (2, 3), (3, 1)].flatMap recBytes := by decide +kernel

/-! ### The training step -/

/-- Partition 0 in a phase, with a ring of two on channel 0 (this member's rank 0), tables and the loss in C0's memory. -/
def sStep (ph : Nat) : State := mem [(0x400000001000, leBytes 8 0x41), (0x400000000800, leBytes 8 0x3F8000003F800000)] (on live
  [(R.STEP_STATE_PHASE, ph, 0, 0, 0), (R.STEP_FMT_BASE_BASE, 0x400000001000, 0, 0, 0), (R.STEP_FMT_CFG_LAYERS, 1, 0, 0, 0),
   (R.STEP_LOSS_ADDR_ADDR, 0x400000000800, 0, 0, 0), (R.RED_CH_ROUTE_MEMBERS, 2, 0, 0, 0), (R.RED_CH_ROUTE_IN_HOP, 0x11, 0, 0, 0),
   (R.RED_CH_ROUTE_OUT_HOP, 0x11, 0, 0, 0)])

/-- The same in BACKWARD with two micro-batches to a step. -/
def sTwo : State := (sStep 2).putStep 0 { cfg := 2 }

/-- IDLE with a discard under way, a unit of C0 at rest or with a descriptor in hand. -/
def sDiscard (busy : Bool) : State :=
  let s := (sStep 0).putStep 0 { discarding := true }
  if busy then unit 3 { inHand := [{ id := 0, ctx := 3, gen := 0, raw := 0, stage := .waiting }] } s else s

/-- StepsFollowTheirPhasesToAVerdict: every phase; a BEGIN that passes its checks; the last BACKWARD and one before it; discards. -/
theorem wit_steps : (∀ ph ∈ [0, 1, 2, 3, 6], (sStep ph).clocked 0 5 = true ∧ (sStep ph).partExists 0 = true ∧ (sStep ph).phase 0 = ph) ∧
    (sStep 0).Rest ∧ (sStep 1).Rest ∧ (sStep 2).Rest ∧ (sStep 3).Rest ∧ (sStep 6).Rest ∧ sTwo.Rest ∧ (sDiscard true).Rest ∧ (sDiscard false).Rest ∧
    ((sStep 0).beginCheck 0 = 0 ∧ ((sStep 0).load (stepWho 0) 0x400000001000 8).2.toOption = some (leBytes 8 0x41) ∧
     (sStep 2).lastBackward 0 = true ∧ sTwo.phase 0 = 2 ∧ sTwo.lastBackward 0 = false ∧ ((sStep 0).stepSt 0).discarding = false ∧
     (∀ b, ((sDiscard b).stepSt 0).discarding = true ∧ (sDiscard b).clocked 0 5 = true ∧ (sDiscard b).partExists 0 = true) ∧ ((sDiscard true).unit 4 3).inHand ≠ [] ∧
     (3 ∈ (sDiscard true).unitLeads 4 ∧ 4 ∈ (sDiscard true).partDies 0) ∧
     ((sDiscard false).partDies 0).all (fun d => ((sDiscard false).unitLeads d).all (fun m => ((sDiscard false).unit d m).inHand.isEmpty)) = true) :=
  ⟨by decide +kernel, rest_of (by decide +kernel), rest_of (by decide +kernel), rest_of (by decide +kernel), rest_of (by decide +kernel),
   rest_of (by decide +kernel), rest_of (by decide +kernel), rest_of (by decide +kernel), rest_of (by decide +kernel), by decide +kernel⟩

/-- R226 to R229, R238. -/
theorem test_steps :
    (fin (exec (.stepBegin 0) (sStep 0))).phase 0 = 1 ∧ ngetD (fin (exec (.stepBegin 0) (sStep 0))).fmtCopy (4 * 4096) 0 = 0x41 ∧
    (fin (exec (.stepBegin 0) (sStep 1))).flag R.STEP_ERROR_CMD_REFUSED 0 0 0 = true ∧
    (fin (exec (.stepAdvance 0) (sStep 1))).phase 0 = 2 ∧ (fin (exec (.stepAdvance 0) (sStep 2))).phase 0 = 3 ∧
    (fin (exec (.stepAdvance 0) sTwo)).get R.STEP_STATE_MB_INDEX 0 0 0 = 1 ∧
    ((fin (exec (.discardAccum 0) (sStep 0))).stepSt 0).discarding = true ∧
    ((fin (exec (.discardAccumDone 0) (sDiscard false))).stepSt 0).discarding = false ∧
    ((fin (exec (.discardAccumDone 0) (sDiscard true))).stepSt 0).discarding = true ∧
    ((fin (exec (.stepBegin 0) (sDiscard true))).stepSt 0).cmds = [1] ∧ (fin (exec (.stepBegin 0) (sDiscard true))).phase 0 = 0 ∧
    (fin (exec (.discardAccumDone 0) ((sDiscard false).putStep 0 { discarding := true, cmds := [1] }))).phase 0 = 1 ∧
    (fin (exec (.stepAbort 0) (sStep 6))).flag R.STEP_STATE_DISCARD_PENDING 0 0 0 = true := by decide +kernel

/-- AWAIT_VERDICT with every engine's report in. -/
def sReported : State := (sStep 3).putStep 0 { reports := [4, 5, 6, 7] }

/-- AWAIT_VERDICT with the closing reduction out, its result not in, or in with the check sum given. -/
def sClosing (g : Option Nat) : State :=
  on ((sStep 3).putStep 0 { gathered := g.map fun x => (leBytes 16 (0x40000000 * 2 ^ 96 + x * 2 ^ 64), false) }) [(R.STEP_STATE_CLOSING, 1, 0, 0, 0)]

/-- The result in, the verdict true, and a die of the partition reset since BEGIN. -/
def sDieGone : State := (sClosing (some 0)).putStep 0 { (sClosing (some 0)).stepSt 0 with dieReset := true }

/-- StepsFollowTheirPhasesToAVerdict: a closing reduction that may go, one that is out, a true and a false verdict, and none. -/
theorem wit_verdicts : sReported.Rest ∧ (sClosing (some 0)).Rest ∧ (sClosing (some 1)).Rest ∧ (sClosing none).Rest ∧
    (∀ s ∈ [sReported, sClosing (some 0), sClosing (some 1), sClosing none, sDieGone], s.clocked 0 5 = true ∧ s.partExists 0 = true ∧ s.phase 0 = phAwait ∧
      (s.stepSt 0).discarding = false) ∧ (sDieGone.Rest ∧ (sDieGone.stepSt 0).dieReset = true ∧ ((sClosing (some 0)).stepSt 0).dieReset = false) ∧
    (sReported.flag R.STEP_STATE_CLOSING 0 0 0 = false ∧ sReported.get R.STEP_STATE_OUTSTANDING 0 0 0 = 0 ∧
     (∀ d ∈ sReported.partDies 0, d ∈ (sReported.stepSt 0).reports) ∧
     (sReported.load (stepWho 0) 0x400000000800 8).2.toOption = some (leBytes 8 0x3F8000003F800000) ∧ sReported.linkedTo 0 [0x400000000800] = true ∧
     (sClosing (some 0)).linkedTo 0 [0x400000000800] = true ∧
     sReported.chan (sReported.chanBase 0) = {} ∧ 1 < sReported.members? (sReported.chanBase 0)) ∧
    ((sClosing (some 0)).flag R.STEP_STATE_CLOSING 0 0 0 = true ∧ ((sClosing (some 0)).stepSt 0).gathered.isSome = true ∧
     ((sClosing none).stepSt 0).gathered = none ∧ verdictTrue (wordsOf (leBytes 16 (0x40000000 * 2 ^ 96))) 2 false = true ∧
     verdictTrue (wordsOf (leBytes 16 (0x40000000 * 2 ^ 96 + 2 ^ 64))) 2 false = false) :=
  ⟨rest_of (by decide +kernel), rest_of (by decide +kernel), rest_of (by decide +kernel), rest_of (by decide +kernel), by decide +kernel,
   ⟨rest_of (by decide +kernel), by decide +kernel⟩, by decide +kernel, by decide +kernel⟩

/-- R233 to R237. -/
theorem test_verdicts :
    (fin (exec (.closingReductionIssue 0) sReported)).flag R.STEP_STATE_CLOSING 0 0 0 = true ∧
    (fin (exec (.verdict 0) (sClosing (some 0)))).phase 0 = 4 ∧ (fin (exec (.verdict 0) (sClosing (some 1)))).get R.STEP_SKIPS_TOTAL 0 0 0 = 1 ∧
    (fin (exec (.verdict 0) (sClosing (some 0)))).mem.read 0x40000000084C 4 = leBytes 4 0x40000000 ∧
    (fin (exec (.verdict 0) sDieGone)).phase 0 = 6 ∧ (fin (exec (.verdictTimeout 0) (sClosing none))).phase 0 = 6 := by decide +kernel

/-- A layer of one row and one column under MOMENTUM: weight, gradient and moment 64 bytes apart in C0's memory. -/
def layer : List Byte := leBytes 64 (pack [(4, 1), (32, 0x3F800000), (64, 1), (96, 1), (128, 0x400000002000), (192, 0x400000002040), (256, 0x400000002080)])

/-- A hyper set: rate 1, GRAD_MUL 1, one iteration. -/
def hypers : List Byte := leBytes 1024 (pack [(0, 0x3F800000), (160, 0x3F800000), (416, 1)])

/-- An engine's latch of a table of the given entries. -/
def latch (es : List (List Byte)) : UpdSt :=
  { table := es.length * 2 ^ 48, entries := es, hypers := hypers, latched := true, accepted := true }

/-- The partition in a phase, C0's engine at work on those entries; weight 3, gradient 1, moment 0. -/
def sUpd (ph : Nat) (es : List (List Byte)) (applied : List Nat) : State :=
  (mem [(0x400000002000, leBytes 4 0x40400000), (0x400000002040, leBytes 4 0x3F800000)] ((sStep ph).putStep 0 { applied := applied })).putUpd 4 (latch es)

/-- UpdateTablesAreCheckedAndApplied: a good table and a bad one to report; a table to apply, an empty one, first and last of the
engines; and a fault in its entry. -/
theorem wit_updates : (sUpd 3 [layer] []).Rest ∧ (sUpd 3 [List.replicate 64 0xFF] []).Rest ∧ (sUpd 4 [layer] []).Rest ∧ (sUpd 4 [] []).Rest ∧
    (sUpd 4 [] [5, 6, 7]).Rest ∧ live.applying 4 = none ∧
    (∀ s ∈ [sUpd 3 [layer] [], sUpd 3 [List.replicate 64 0xFF] [], sUpd 4 [layer] [], sUpd 4 [] [], sUpd 4 [] [5, 6, 7]],
      s.clocked 4 2 = true ∧ s.partOfDie 4 = some 0 ∧ s.linked 0 4 = true) ∧
    ((sUpd 3 [layer] []).phase 0 = phAwait ∧ (sUpd 3 [layer] []).tableCheck 4 (latch [layer]) = (0, 0) ∧
     (sUpd 3 [List.replicate 64 0xFF] []).tableCheck 4 (latch [List.replicate 64 0xFF]) = (1, 0)) ∧
    (∀ s ∈ [sUpd 4 [layer] [], sUpd 4 [] [], sUpd 4 [] [5, 6, 7]], s.applying 4 = some 0) ∧
    ((∃ d ∈ (sUpd 4 [layer] []).partDies 0, d ≠ 4 ∧ d ∉ ((sUpd 4 [layer] []).stepSt 0).applied) ∧
     (∀ d ∈ (sUpd 4 [] [5, 6, 7]).partDies 0, d = 4 ∨ d ∈ ((sUpd 4 [] [5, 6, 7]).stepSt 0).applied)) ∧
    (leValid layer = true ∧ leFrozen layer = false ∧ leRule layer = 0 ∧ leCopyEn layer = false ∧
     (∀ r ∈ leRegions layer, (sUpd 4 [layer] []).judge ((sUpd 4 [layer] []).updWho 4) r.1 r.2 = 0) ∧
     (∀ r ∈ leWritten layer, (sUpd 4 [layer] []).accumCarve r.1 r.2 = none) ∧
     (leRegions layer).Pairwise (fun x y => x.1 + x.2 ≤ y.1 ∨ y.1 + y.2 ≤ x.1) ∧ (sUpd 4 [layer] []).mem.bad = []) :=
  ⟨rest_of (by decide +kernel), rest_of (by decide +kernel), rest_of (by decide +kernel), rest_of (by decide +kernel), rest_of (by decide +kernel),
   by decide +kernel, by decide +kernel, by decide +kernel, by decide +kernel, by decide +kernel, by decide +kernel⟩

/-- R278, R282, R289, R291: 3 less the rate times the moment 1 is 2; a frozen layer is skipped; the last engine ends the step. -/
theorem test_updates :
    (fin (exec (.updTableReport 4) (sUpd 3 [List.replicate 64 0xFF] []))).get R.UPD_TABLE_STATUS_STATUS 4 = 1 ∧
    ((fin (exec (.updTableReport 4) (sUpd 3 [layer] []))).updSt 4).accepted = true ∧
    (fin (exec (.updApplyDone 4) (sUpd 4 [layer] []))).mem.read 0x400000002000 4 = leBytes 4 0x40000000 ∧
    (fin (exec (.updApplyDone 4) (sUpd 4 [layer] []))).mem.read 0x400000002080 4 = leBytes 4 0x3F800000 ∧
    (fin (exec (.updApplyDone 4) (sUpd 4 [] [5, 6, 7]))).stepNumber 0 = 1 ∧
    (fin (exec (.updCommitFault 4 0 0x400000002000) (sUpd 4 [layer] []))).phase 0 = 6 := by decide +kernel

/-! ### Reduction channels -/

/-- A request of context 3: opcode, SRC, DST, ELEMENTS. -/
def request (op src dst n : Nat) : Nat := pack [(0, op), (34, 3), (64, src), (128, dst), (192, n)]

/-- Three elements from C0's memory to C0's memory. -/
def allReduce : Nat := request 1 0x400000000000 0x400000000040 3

/-- A PERMUTE that moves nothing. -/
def permute : Nat := request 4 0x400000000000 0x400000000000 1

/-- Channel 0 in a ring of n, in a phase, with its queue's next request, a request taken, and a head. -/
def sRed (n ph : Nat) (queued : Option Nat) (taken : Option Nat) (head : Option RHead) : State :=
  let s := on (sStep ph) [(R.RED_CH_ROUTE_MEMBERS, n, 0, 0, 0), (R.RED_QBASE_BASE, 0x400000000400, 0, 0, 0), (R.RED_QCFG_ENABLE, 1, 0, 0, 0),
    (R.RED_QCFG_SIZE_LOG2, 4, 0, 0, 0), (R.RED_QTAIL_TAIL, if queued.isSome then 1 else 0, 0, 0, 0), (R.OCT_CTX_OUTSTANDING, 1, 0, 0, 3)]
  (mem [(0x400000000400, leBytes 64 (queued.getD 0)), (0x400000000000, leBytes 12 0x4040000040000000)] s).putChan 0
    { nxt := taken.map (fun d => { ctx := 3, gen := s.ctxGen 3, raw := d }), head := head }

/-- A PERMUTE at the head, at its end or not. -/
def atHead (arrived : Bool) : RHead := { req := some { ctx := 3, gen := 0, raw := permute }, op := 4, arrived := arrived, n := 2, status := 5 }

/-- RequestsRunOnTheirChannels: requests that pass and fail their checks; gates closed and open; rings of two and one; a PERMUTE
outside IDLE and in it, and one at its end and before it. -/
theorem wit_requests :
    (sRed 2 2 (some allReduce) none none).Rest ∧ (sRed 2 2 (some 5) none none).Rest ∧ (sRed 2 1 none (some allReduce) none).Rest ∧
    (sRed 2 2 none (some allReduce) none).Rest ∧ (sRed 1 2 none (some allReduce) none).Rest ∧ (sRed 2 2 none (some permute) none).Rest ∧
    (sRed 2 0 none (some permute) none).Rest ∧ (sRed 2 0 none none (some (atHead true))).Rest ∧ (sRed 2 0 none none (some (atHead false))).Rest ∧
    (∀ s ∈ [sRed 2 2 (some allReduce) none none, sRed 2 2 (some (5 + 3 * 2 ^ 34)) none none, sRed 2 1 none (some allReduce) none, sRed 1 2 none (some allReduce) none],
      s.clocked (s.chanHome 0) 2 = true ∧ (s.chan 0).hung = false ∧ (s.chan 0).inq = [] ∧ s.ctxOpen 3 = true ∧ s.ctxPart 3 = some (s.partOfChan 0) ∧
      s.running (redRegion 0) = true ∧ (s.chan 0).head = none ∧ (s.chan 0).done = [] ∧ (s.chan 0).closing = none ∧ (s.chan 0).carry = []) ∧
    (∀ d ∈ [allReduce, 5 + 3 * 2 ^ 34], (sRed 2 2 (some d) none none).qReady redQ 0 0 0 0 = true ∧ (sRed 2 2 (some d) none none).linkedTo 0 [0x400000000400] = true ∧
      (∀ b, (sRed 2 0 none none (some (atHead b))).headLinked 0 (atHead b) = true) ∧ (sRed 2 2 (some d) none none).chan 0 = {} ∧ rqCtx d = 3 ∧
      ((sRed 2 2 (some d) none none).load ((sRed 2 2 none none none).redWho 0) ((sRed 2 2 (some d) none none).qSlot redQ 0 0 0) 64).2.toOption = some (leBytes 64 d)) ∧
    ((sRed 2 2 none none none).reqCheck 0 allReduce = 0 ∧ (sRed 2 2 none none none).reqCheck 0 (5 + 3 * 2 ^ 34) ≠ 0) ∧
    (let q : RedReq := { ctx := 3, gen := live.ctxGen 3, raw := allReduce }
     let r : RedReq := { ctx := 3, gen := live.ctxGen 3, raw := permute }
     ((sRed 2 1 none (some allReduce) none).chan 0).nxt = some q ∧ (sRed 2 1 none (some allReduce) none).reqReady 0 q = false ∧
     (sRed 2 2 none (some allReduce) none).reqReady 0 q = true ∧ (sRed 1 2 none (some allReduce) none).reqReady 0 q = true ∧
     (sRed 2 2 none (some permute) none).reqReady 0 r = true ∧ (sRed 2 0 none (some permute) none).reqReady 0 r = true ∧
     rqOp allReduce = 1 ∧ rqOp permute = 4 ∧ (sRed 2 2 none none none).members? 0 = 2 ∧ (sRed 1 2 none none none).members? 0 = 1 ∧
     (sRed 2 2 none none none).get R.STEP_STATE_OUTSTANDING 0 0 0 < 0xFFFF ∧ rqNorm allReduce = false ∧ rqComplete allReduce = false ∧ rqElems allReduce = 3) ∧
    (let s := sRed 1 2 none (some allReduce) none
     s.mem.bad = [] ∧ s.judge (s.redWho 0) (rqSrc allReduce) 12 = 0 ∧ s.judge (s.redWho 0) (rqDst allReduce) 12 = 0 ∧ s.accumCarve (rqDst allReduce) 12 = none) :=
  ⟨rest_of (by decide +kernel), rest_of (by decide +kernel), rest_of (by decide +kernel), rest_of (by decide +kernel), rest_of (by decide +kernel),
   rest_of (by decide +kernel), rest_of (by decide +kernel), rest_of (by decide +kernel), rest_of (by decide +kernel), by decide +kernel,
   by decide +kernel, by decide +kernel, by decide +kernel, by decide +kernel⟩

/-- R248, R251, R252, R300, R303. -/
theorem test_requests :
    ((fin (exec (.redRequestTake 0) (sRed 2 2 (some allReduce) none none))).chan 0).nxt.isSome = true ∧
    (fin (exec (.redRequestTake 0) (sRed 2 2 (some (5 + 3 * 2 ^ 34)) none none))).get R.RED_CH_ERROR_STATUS 0 0 = 1 ∧
    (fin (exec (.redRequestStart 0) (sRed 1 2 none (some allReduce) none))).mem.read 0x400000000040 8 = leBytes 8 0x4040000040000000 ∧
    (fin (exec (.permuteStart 0) (sRed 2 0 none (some permute) none))).get R.RED_CH_EPOCH_PERMUTING 0 0 = 1 ∧
    (fin (exec (.permuteComplete 0) (sRed 2 0 none none (some (atHead true))))).get R.RED_CH_EPOCH_EPOCH 0 0 = 1 := by decide +kernel

/-- A frame of the ring's other member for channel 0: PASS comes from the command; segment 0 of one. -/
def ringFrame (step elems : Nat) (ext payload : List Byte) : Frame :=
  { channel := 0, pass := 0, flags := 0, redId := 0, epoch := 0, step := step, seg := 0, segs := 1, elems := elems, present := 1, carried := 0,
    firstNf := 0xFFFF, esc := 0, sender := 1, ext := ext, payload := payload }

/-- A STREAM gather of three members' shards into two slots; CONSUMED lies at 0x400000000100. -/
def streamGather : Nat := request 3 0x400000000000 0x400000000040 3 + pack [(0x28 * 8 + 12, 1), (0x28 * 8 + 32, 2), (0x38 * 8, 0x400000000100)]

/-- That gather at the head, rank 0 of three, with the third shard waiting, and CONSUMED as given. -/
def sGather (consumed : Nat) : State :=
  let s := mem [(0x400000000100, leBytes 8 consumed)] (sRed 3 2 none none
    (some { req := some { ctx := 3, gen := live.ctxGen 3, raw := streamGather }, op := 3, n := 3, elems := 3, segs := 1, rneed := 2, r1sent := true }))
  s.putChan 0 { s.chan 0 with inq := [{ f := { ringFrame 0 3 (gatherExt 0 0 1) (leBytes 12 7) with pass := 3 } }] }

/-- A frame waits at a channel with no head, with a straggler decision or a watchdog enabled. -/
def sWaiting : State :=
  let s := on (sRed 2 2 none none none) [(R.RED_CH_TIMING_STRAGGLER_EN, 1, 0, 0, 0), (R.RED_CH_TIMING_WATCHDOG_EN, 1, 0, 0, 0)]
  s.putChan 0 { inq := [{ f := { ringFrame 0 3 [] [] with pass := 2 } }], nxt := some { ctx := 3, gen := live.ctxGen 3, raw := allReduce } }

/-- StreamGathersStragglersAndHangs. -/
theorem wit_streams : (sGather 0).Rest ∧ (sGather 1).Rest ∧ sWaiting.Rest ∧ live.Rest ∧
    (rqStream streamGather = true ∧ rqSlots streamGather = 2) ∧ (∀ n ∈ [0, 1], (sGather n).clocked 0 2 = true ∧ ((sGather n).chan 0).hung = false ∧ ((sGather n).chan 0).inq.length = 1 ∧
      (((sGather n).chan 0).head.map (fun h => (h.op, h.rneed, h.raw, h.shardOf 1, (sGather n).headLinked 0 h))) = some (3, 2, streamGather, 2, true) ∧
      ((sGather n).load ((sGather n).redWho 0) (rqCons streamGather) 8).2.toOption = some (leBytes 8 n)) ∧
    (live.clocked (live.chanHome 0) 2 = true ∧ live.straggling 0 = false ∧ sWaiting.straggling 0 = true ∧ (sWaiting.chan 0).inq.length = 1 ∧
     sWaiting.members? 0 = 2 ∧ live.red R.RED_CH_TIMING_WATCHDOG_EN 0 = 0 ∧ (live.chan 0).inq = [] ∧ sWaiting.red R.RED_CH_TIMING_WATCHDOG_EN 0 = 1) :=
  ⟨rest_of (by decide +kernel), rest_of (by decide +kernel), rest_of (by decide +kernel), live_rest, by decide +kernel, by decide +kernel, by decide +kernel⟩

/-- R258, R263, R296. -/
theorem test_streams :
    ((fin (exec (.gatherConsumedPoll 0) (sGather 0))).chan 0).inq.length = 1 ∧ ((fin (exec (.gatherConsumedPoll 0) (sGather 1))).chan 0).inq = [] ∧
    (fin (exec (.redHang 0) sWaiting)).get R.RED_STALE_FRAMES_COUNT 0 0 = 1 ∧
    (fin (exec (.stragglerDecision 0) sWaiting)).get R.RED_STRAGGLES_COUNT 0 0 = 1 := by decide +kernel

/-- Rank 1 of three with a started reduction of one segment at the head, all its frames to come and several of its own to go. -/
def ringHead (op raw : Nat) : RHead :=
  { req := some { ctx := 3, gen := live.ctxGen 3, raw := raw }, op := op, n := 3, r := 1, elems := 3, segs := 1, rneed := 5, dneed := 5, r1sent := true }

/-- A head one frame of whose passes arrives from the hub-local hop. -/
def sArrive (op raw : Nat) : State := on (sRed 3 2 none none (some (ringHead op raw))) [(R.RED_CH_ROUTE_RANK, 1, 0, 0, 0)]

/-- A gather whose shards lie at 0x400000000040, and a move of three bytes to there. -/
def gather : Nat := request 3 0x400000000000 0x400000000040 3
def moved : Frame := ringFrame 0 3 (moveExt 1 0 0 3 0 0x400000000040 0) [1, 2, 3]

/-- The same state with its channel hung. -/
def sHung : State := live.putChan 0 { hung := true }

/-- RingFramesDoTheirPass: a frame arrives for a reduction, a gather and a PERMUTE. -/
theorem wit_frames_arrive : (∀ x ∈ [(1, allReduce), (3, gather), (4, permute)],
      (sArrive x.1 x.2).cut ≠ 0 ∧ 0 < (sArrive x.1 x.2).parts ∧ 0 < (sArrive x.1 x.2).chanCount ∧ 0 = (sArrive x.1 x.2).chanBase 0 + 0 ∧
      (sArrive x.1 x.2).members? 0 ≠ 0 ∧ (sArrive x.1 x.2).red R.RED_CH_ROUTE_IN_HOP 0 = 0x11 ∧ (sArrive x.1 x.2).running (redRegion 0) = true ∧ (sArrive x.1 x.2).clocked ((sArrive x.1 x.2).chanHome 0) 2 = true ∧
      (sArrive x.1 x.2).hopUp ((sArrive x.1 x.2).red R.RED_CH_ROUTE_OUT_HOP 0) = true ∧ (sArrive x.1 x.2).headLinked 0 (ringHead x.1 x.2) = true ∧ ((sArrive x.1 x.2).chan 0).hung = false ∧
      ((sArrive x.1 x.2).chan 0).inq = [] ∧ ((sArrive x.1 x.2).chan 0).head = some (ringHead x.1 x.2) ∧ (sArrive x.1 x.2).ctxStale (3, live.ctxGen 3) = false) ∧
    (sArrive 1 allReduce).Rest ∧ (sArrive 3 gather).Rest ∧ (sArrive 4 permute).Rest ∧
    (let f (p : Nat) : Frame := { ringFrame 0 3 (gatherExt 0 0 0) (leBytes 4 0x3F800000) with pass := p }
     (f 0).wf = true ∧ moved.wf = true ∧ (∀ p ∈ [2, 3, 4], (ringHead 1 allReduce).mismatch 0 (f p) = 0) ∧
     ({ ringHead 1 allReduce with bs16 := true } : RHead).mismatch 0 (f 1) = 0 ∧ (ringHead 3 gather).mismatch 0 (f 3) = 0 ∧
     (ringHead 4 permute).mismatch 0 { moved with pass := 5 } = 0 ∧ moved.dest = 1 ∧ moved.mvKind = 0) ∧
    ((ringHead 1 allReduce).owner 0 = false ∧ ({ ringHead 1 allReduce with r := 2 } : RHead).origin 0 = false ∧
     ({ ringHead 1 allReduce with r := 2 } : RHead).owner 0 = false) ∧
    (let s := sArrive 1 allReduce
     (s.load (s.redWho 0) (rqSrc allReduce) (4 * segLen 3 0)).2.toBool = true ∧ s.mem.bad = [] ∧
     ∀ n ∈ [3, 4, 12], s.judge (s.redWho 0) (rqDst allReduce) n = 0 ∧ s.accumCarve (rqDst allReduce) n = none) ∧
    (sHung.Rest ∧ sHung.clocked (sHung.frameHome 0x11 0 moved) 2 = true ∧ 0 < sHung.parts ∧ sHung.clocked (sHung.frameHome 0x11 0 { moved with channel := 32 }) 2 = true ∧
     sHung.chanCount ≤ 32 ∧ (sHung.chan 0).hung = true ∧ (on sHung [(R.RED_CH_ROUTE_MEMBERS, 2, 0, 0, 0), (R.RED_CH_ROUTE_IN_HOP, 0x11, 0, 0, 0)]).members? 0 ≠ 0) :=
  ⟨by decide +kernel, rest_of (by decide +kernel), rest_of (by decide +kernel), rest_of (by decide +kernel), by decide +kernel, by decide +kernel,
   by decide +kernel, rest_of (by decide +kernel), by decide +kernel⟩

/-- R254, R255, R294, R301: 1 and the member's 2 are 3; results, shards and moved bytes lie where they should. -/
theorem test_ring :
    ((fin (exec (.reduceScatterFrame 0x11 0 (ringFrame 0 3 [] (leBytes 4 0x3F800000))) (sArrive 1 allReduce))).out.map
      (fun o => match o with | .ring _ _ _ b => b.take 4 | _ => [])) = [leBytes 4 0x40400000] ∧
    (fin (exec (.allGatherFrame 0x11 0 (ringFrame 0 3 [] (leBytes 4 0x3F800000))) (sArrive 1 allReduce))).mem.read 0x400000000040 4 = leBytes 4 0x3F800000 ∧
    (fin (exec (.allgatherShardFrame 0x11 0 (ringFrame 0 3 (gatherExt 0 0 2) (leBytes 4 7))) (sArrive 3 gather))).mem.read 0x400000000058 4 = leBytes 4 7 ∧
    (fin (exec (.permuteMoveFrame 0x11 0 moved) (sArrive 4 permute))).mem.read 0x400000000040 3 = [1, 2, 3] ∧
    ((fin (exec (.rollCallFrame 0x11 0 (ringFrame 0 3 [] (leBytes 4 7))) (sArrive 1 allReduce))).chan 0).head.map (·.arrived) = some true ∧
    (fin (exec (.exponentFrame 0x11 0 moved) sHung)).get R.RED_MISROUTED_COUNT 0 0 = 1 := by decide +kernel

/-! ### Links -/

/-- Port 9 of hub PM: enabled, its link up or not, last seen at a version; channel 5's ring comes in over it. -/
def sPeer (up last : Nat) : State :=
  { on live [(R.CLK_DOMAIN_RUNNING, 1, 1, 0, 2), (R.PEER_CFG_ENABLE, 1, 1, 9, 0), (R.PEER_CFG_OPP_MAX, 2, 1, 9, 0), (R.PEER_STATUS_UP, up, 1, 9, 0),
             (R.ID_UNITS_PEER_PRESENT, 0xFF, 1, 0, 0), (R.RED_CH_ROUTE_MEMBERS, 2, 0, 5, 0), (R.RED_CH_ROUTE_IN_HOP, 9, 0, 5, 0)] with peerVer := [(9, last)] }

/-- PeerLinksAndWeavesTrain: a port that is up and one that is down, seen at the version it comes up with and at another. -/
theorem wit_peers : (sPeer 0 2).Rest ∧ (sPeer 1 2).Rest ∧ (sPeer 0 1).Rest ∧ live.Rest ∧ (sPeer 0 2).clocked (9 / 8) 2 = true ∧
    (sPeer 1 2).clocked (9 / 8) 2 = true ∧ (sPeer 1 2).flag R.PEER_STATUS_UP 1 9 = true ∧ (sPeer 0 2).flag R.PEER_STATUS_UP 1 9 = false ∧
    (sPeer 0 2).flag R.PEER_CFG_ENABLE 1 9 = true ∧ bit ((sPeer 0 2).get R.ID_UNITS_PEER_PRESENT 1) 1 = true ∧ nfind 9 (sPeer 0 1).peerVer = some 1 ∧
    5 ∈ (sPeer 0 1).portChans 9 ∧ (sPeer 0 1).running (redRegion 5) = true :=
  ⟨rest_of (by decide +kernel), rest_of (by decide +kernel), rest_of (by decide +kernel), live_rest, by decide +kernel⟩

/-- C0's weave in a state, with a replay of word and width history. -/
def sWeave (st : Nat) (w : WeaveSt) : State :=
  { on live [(R.WEAVE_STATUS_STATE, st, 0, 0, 0), (R.WEAVE_STATUS_STATE, st, 4, 0, 0), (R.WEAVE_CFG_REPLAY_LIMIT, 3, 0, 0, 0)] with weaves := [(4, w)] }

theorem wit_weaves : (∀ st ∈ [0, 1, 2], (sWeave st {}).get R.WEAVE_STATUS_STATE 4 = st ∧ (sWeave st {}).aon.powered = true ∧ (sWeave st {}).isHeld 4 = false) ∧
    (sWeave 0 {}).Rest ∧ (sWeave 1 {}).Rest ∧ (sWeave 2 {}).Rest ∧ (sWeave 1 { prev := 2 }).Rest ∧ (sWeave 2 { runDie := 2 }).Rest ∧
    ((sWeave 1 { prev := 2 }).weave 4).prev = 2 ∧ ((sWeave 2 { runDie := 2 }).weave 4).runDie = 2 ∧ (sWeave 2 {}).get R.WEAVE_CFG_REPLAY_LIMIT 0 0 = 3 ∧
    isComp 4 = true :=
  ⟨by decide +kernel, rest_of (by decide +kernel), rest_of (by decide +kernel), rest_of (by decide +kernel), rest_of (by decide +kernel),
   rest_of (by decide +kernel), by decide +kernel⟩

/-- R270, R322, R323, R415. -/
theorem test_links :
    (fin (exec (.peerReplay 9 true) (sPeer 1 2))).get R.PEER_ERR_FRAMES_COUNT 1 9 = 1 ∧
    (fin (exec (.peerLinkDown 9) (sPeer 1 2))).flag R.PEER_ERROR_REPLAY_FAIL 1 9 = true ∧
    (fin (exec (.peerLinkUp 9 255 2 7 true) (sPeer 0 1))).get R.PEER_STATUS_VERSION 1 9 = 2 ∧
    ((fin (exec (.peerLinkUp 9 255 2 7 true) (sPeer 0 1))).chan 5).hung = true ∧
    (fin (exec (.peerLinkRetry 9 255 2 7 false) (sPeer 0 1))).get R.PEER_STATUS_VERSION 1 9 = 1 ∧
    (fin (exec (.weaveRetrain 4) (sWeave 2 {}))).get R.WEAVE_STATUS_STATE 0 0 = 1 ∧
    (fin (exec (.weaveTrainDone 4 false true) (sWeave 1 { prev := 2 }))).get R.WEAVE_STATUS_GROUP 4 = 1 ∧
    (fin (exec (.weaveWordError 4 true true) (sWeave 2 { runDie := 2 }))).flag R.WEAVE_ERROR_REPLAY_FAIL 0 0 = true ∧
    (fin (exec (.weaveDownRetry 4) (sWeave 0 {}))).get R.WEAVE_STATUS_STATE 4 = 1 := by decide +kernel

/-- Hub AM's seam end in a state, with the widths 64 advertised, lane masks, and failures so far. -/
def sSeam (st fails : Nat) (e : SeamEnd) : State :=
  { on live [(R.SEAM_STATUS_STATE, st, 0, 0, 0), (R.CLK_DOMAIN_RUNNING, 1, 0, 0, 3), (R.SEAM_WIDTH_STATUS_OWN_ADV, 64, 0, 0, 0),
             (R.SEAM_LANES_MASK, 0xFFFF, 0, 0, 0), (R.SEAM_PARTNER_LANES_MASK, 0xFF00, 0, 0, 0), (R.SEAM_WIDTH_STATUS_FAILS, fails, 0, 0, 0)]
      with seams := [(0, e)] }

/-- No lane is good at both ends. -/
def sNoLane : State := on (sSeam 2 2 {}) [(R.SEAM_PARTNER_LANES_MASK, 0xFF0000, 0, 0, 0)]

/-- A training set by its widths and lanes. -/
def setOf (adv echo mask : Nat) : List Byte :=
  let b := leBytes 28 (pack [(0, 0x5354344B), (32, 1), (48, adv), (56, echo), (64, mask)])
  b ++ leBytes 4 (crc32c b)

/-- TheSeamAgreesOnAWidth and TheSeamFailsAndRecovers: each state of an end, before and after its lock, with few failures and many. -/
theorem wit_seam : (∀ st ∈ [0, 1, 2, 3, 4, 5], (sSeam st 0 {}).aon.powered = true ∧ (sSeam st 0 {}).isHeld 0 = false ∧ (sSeam st 0 {}).runs 0 3 = true ∧
      (sSeam st 0 {}).seamState 0 = st ∧ (sSeam st 0 {}).isHeld (otherHub 0) = false) ∧
    (sSeam 0 0 {}).Rest ∧ (sSeam 1 0 {}).Rest ∧ (sSeam 1 0 { locked := true }).Rest ∧ (sSeam 2 0 {}).Rest ∧ (sSeam 2 2 {}).Rest ∧ sNoLane.Rest ∧
    (sSeam 3 0 { agreed := 8 }).Rest ∧ (sSeam 3 2 { agreed := 8 }).Rest ∧ (sSeam 4 0 { stable := true }).Rest ∧
    (((sSeam 1 0 { locked := true }).seam 0).locked = true ∧ ((sSeam 1 0 {}).seam 0).locked = false ∧ ((sSeam 3 0 { agreed := 8 }).seam 0).agreed = 8 ∧
     ((sSeam 4 0 { stable := true }).seam 0).stable = true ∧ trainSet? [] = none ∧ trainSet? (setOf 8 8 0xFF00) = some ⟨false, 8, 8, 0xFF00, 0⟩ ∧
     trainSet? (setOf 16 8 0xFFFF) = some ⟨false, 16, 8, 0xFFFF, 0⟩ ∧ (sSeam 2 2 {}).get R.SEAM_WIDTH_STATUS_FAILS 0 = 2 ∧
     (bit ((sSeam 2 2 {}).get R.SEAM_LANES_MASK 0) 8 && bit ((sSeam 2 2 {}).get R.SEAM_PARTNER_LANES_MASK 0) 8) = true ∧
     (List.range 64).all (fun l => !(bit (sNoLane.get R.SEAM_LANES_MASK 0) l && bit (sNoLane.get R.SEAM_PARTNER_LANES_MASK 0) l)) = true ∧
     (sSeam 4 0 {}).seamState (otherHub 0) = 4 ∧ 1 < (sSeam 4 0 {}).get R.SEAM_CFG_REPLAY_LIMIT 1) :=
  ⟨by decide +kernel, rest_of (by decide +kernel), rest_of (by decide +kernel), rest_of (by decide +kernel), rest_of (by decide +kernel),
   rest_of (by decide +kernel), rest_of (by decide +kernel), rest_of (by decide +kernel), rest_of (by decide +kernel), rest_of (by decide +kernel),
   by decide +kernel⟩

/-- A sender whose flit has been replayed as often as REPLAY_LIMIT allows but one. -/
def sReplayed : State := (sSeam 4 0 {}).putSeam 1 { runs := (sSeam 4 0 {}).get R.SEAM_CFG_REPLAY_LIMIT 1 - 1 }

/-- R326 to R332, R336: a lane test offers what two whole waveguides carry, and sets agree on one. -/
theorem test_seam :
    (fin (exec (.seamLaneTestEnd 0 0xFFFF) (sSeam 1 0 { locked := true }))).get R.SEAM_WIDTH_STATUS_OWN_ADV 0 = 16 ∧
    (fin (exec (.seamLaneTestEnd 0 0) (sSeam 1 0 { locked := true }))).flag R.SEAM_ERROR_DOWN 0 = true ∧
    ((fin (exec (.seamReceiverLock 0) (sSeam 1 0 {}))).seam 0).locked = true ∧
    (fin (exec (.seamTrainingSet 0 (setOf 8 8 0xFF00)) (sSeam 2 0 {}))).seamState 0 = 3 ∧
    (fin (exec (.seamTrainingSet 0 (setOf 16 8 0xFFFF)) (sSeam 2 0 {}))).get R.SEAM_WIDTH_STATUS_OWN_ADV 0 = 16 ∧
    (fin (exec (.seamConfirmEnd 0 false) (sSeam 3 0 { agreed := 8 }))).get R.SEAM_WIDTH_STATUS_WG_USED 0 = 2 ∧
    ((fin (exec (.seamUpStable 0) (sSeam 4 2 {}))).seam 0).stable = true := by decide +kernel

/-- R326, R331, R332, R336: the third failure goes to SAFE on the lowest lane good at both ends. -/
theorem test_seamFails :
    (fin (exec (.seamAgreeLimit 0) (sSeam 2 2 {}))).get R.SEAM_WIDTH_STATUS_SAFE_LANE 0 = 8 ∧
    (fin (exec (.seamAgreeLimit 0) sNoLane)).seamState 0 = 0 ∧ (fin (exec (.seamAgreeLimit 0) (sSeam 2 0 {}))).get R.SEAM_WIDTH_STATUS_FAILS 0 = 1 ∧
    (fin (exec (.seamLossLimit 0) (sSeam 4 0 { stable := true }))).seamState 0 = 1 ∧ (fin (exec (.seamDownRetry 0) (sSeam 0 0 {}))).seamState 0 = 1 ∧
    (fin (exec (.seamRetrain 0) (sSeam 4 2 {}))).get R.SEAM_WIDTH_STATUS_FAILS 0 = 0 ∧
    (fin (exec (.seamFlitError 0 true) sReplayed)).flag R.SEAM_ERROR_REPLAY_FAIL 1 = true := by decide +kernel

/-! ### Fences, sessions, requests and contexts -/

/-- A fence entry's 64 bits: die, block, instance, context. -/
def fenceEntry (die block inst ctx : Nat) : Nat := pack [(0, die), (4, block), (12, inst), (24, ctx)]

/-- A FENCE over two queues of C0, and one over a queue there is none of. -/
def goodFence : OctHdr := req 0xFF 2 0 (leBytes 8 (fenceEntry 4 0x10 3 3) ++ leBytes 8 (fenceEntry 4 0x12 3 3))
def badFence : OctHdr := req 0xFF 2 0 (leBytes 8 (fenceEntry 4 0x10 3 3) ++ leBytes 8 (fenceEntry 4 0x13 3 3))

/-- A fence outstanding: the first of its entries as given, the second there or not. -/
def sFence (e : FEntry) (other : Bool) : State :=
  { oct with fences := [{ number := 5, req := { op := 0x31, hdr := goodFence, opening := 1 },
                          entries := [e, { die := 4, block := 0x12, inst := 3, ctx := 3, snap := some 2, sent := true, here := other }] }] }

/-- An entry not probed, probed and sent. -/
def entry0 : FEntry := { die := 4, block := 0x10, inst := 3, ctx := 3 }
def entry1 : FEntry := { entry0 with snap := some 1 }
def entry2 : FEntry := { entry1 with sent := true }

/-- Sixteen fences outstanding. -/
def sFences : State := { oct with fences := List.replicate 16 { number := 0, req := { op := 0x31, hdr := goodFence, opening := 1 }, entries := [entry0] } }

/-- FencesRunToTheirAnswers. -/
theorem wit_fences : oct.InTurn 0x31 goodFence sess ∧ oct.InTurn 0x31 badFence sess ∧ sFences.InTurn 0x31 goodFence sess ∧
    (sFence entry0 true).Rest ∧ (sFence entry1 true).Rest ∧ (sFence entry2 true).Rest ∧ (sFence entry2 false).Rest ∧
    (let s := oct.taken goodFence sess
     s.fenceEntryStatus (fenceEntry 4 0x10 3 3) = 0 ∧ s.fenceEntryStatus (fenceEntry 4 0x12 3 3) = 0 ∧ s.fenceEntryStatus (fenceEntry 4 0x13 3 3) ≠ 0 ∧
     s.fences.length < 16 ∧ 16 ≤ (sFences.taken goodFence sess).fences.length) ∧
    (∀ e ∈ [entry0, entry1, entry2], (sFence e true).clocked 0 5 = true ∧ (sFence e true).fences.length = 1 ∧ (sFence e true).probeHeld e = false) :=
  ⟨turn_of (by decide +kernel), turn_of (by decide +kernel), turn_of (by decide +kernel), rest_of (by decide +kernel), rest_of (by decide +kernel),
   rest_of (by decide +kernel), rest_of (by decide +kernel), by decide +kernel, by decide +kernel⟩

/-- The status and payload of the last OCT answer. -/
def answer (s : State) : Option (Nat × Nat × List Byte) :=
  match s.out.getLast? with | some (.oct _ _ _ _ _ _ st _ d _ p) => some (st, d, p) | _ => none

/-- R350 to R352: the fence's answer carries both snapshots. -/
theorem test_fences :
    (fin (exec (.fence goodFence) oct)).fences.length = 1 ∧ answer (fin (exec (.fence badFence) oct)) = some (0x0B, 1, []) ∧
    answer (fin (exec (.fence goodFence) sFences)) = some (0x0B, 2, []) ∧
    ((fin (exec (.fenceProbe 5 0) (sFence entry0 true))).fences.map (fun f => f.entries.map (·.snap))) = [[some 0, some 2]] ∧
    ((fin (exec (.fenceWatermarkSend 5 0) (sFence entry1 true))).fences.map (fun f => f.entries.map (·.sent))) = [[true, true]] ∧
    answer (fin (exec (.fenceWatermarkArrive 5 0) (sFence entry2 true))) = some (0, 0, [1, 0, 2, 0]) ∧
    (fin (exec (.fenceWatermarkArrive 5 0) (sFence entry2 false))).fences.length = 1 ∧
    answer (fin (exec (.fenceTimeout 5) (sFence entry2 false))) = some (0x0B, 3, []) := by decide +kernel

/-- A NEGOTIATE for versions lo to hi, of session 9 or 10. -/
def negotiate (session lo hi : Nat) : OctHdr := { req 0xFF 0 0 (leBytes 8 (lo + 256 * hi)) with session := session, seq := 0, version := 1 }

/-- Sixteen sessions open. -/
def sFull : State := { live with sessions := (List.range 16).map (fun i => { sess with id := 100 + i }) }

/-- A SUBSCRIBE of slot 7 to classes 1 and 4, and of a slot there is none of. -/
def subscribe (slot : Nat) : OctHdr := req 0xFF 0 0 (leBytes 24 (pack [(0, slot), (8, 5), (16, 777), (64, 3), (128, 4)]))

/-- SessionsOpenAndClose. -/
theorem wit_sessions : live.Rest ∧ sFull.Rest ∧ oct.Rest ∧ oct.InTurn 0x02 (req 0xFF 0 0 []) sess ∧ oct.InTurn 0x50 (subscribe 7) sess ∧
    oct.InTurn 0x50 (subscribe 8) sess ∧
    (∀ h ∈ [negotiate 9 1 2, negotiate 9 3 9], h.wf = true ∧ live.octUp = true ∧ h.version = 1 ∧ hdrBad h = false ∧ h.seq = 0 ∧ h.session ≠ 0 ∧ h.count = 0 ∧
      h.length = 8 ∧ h.payload.length = 8 ∧ h.target = 0 ∧ fieldAt h.payload 2 6 = 0) ∧
    (live.get R.OCT_CFG_MAX_VERSION 0 = 2 ∧ live.sess? 5 7 9 = none ∧ (oct.sess? 5 7 9).isSome = true ∧ sFull.sess? 5 7 9 = none ∧ sFull.octUp = true ∧
     sFull.sessions.length = 16 ∧ oct.clocked 0 5 = true) :=
  ⟨live_rest, rest_of (by decide +kernel), rest_of (by decide +kernel), turn_of (by decide +kernel), turn_of (by decide +kernel),
   turn_of (by decide +kernel), by decide +kernel, by decide +kernel⟩

/-- R376, R381: the answer to NEGOTIATE names the version chosen and the sessions left. -/
theorem test_sessions :
    (answer (fin (exec (.negotiate (negotiate 9 1 2)) live))).map (fun a => (a.1, a.2.2.take 1, (a.2.2.drop 6).take 1)) = some (0, [2], [15]) ∧
    answer (fin (exec (.negotiate (negotiate 9 3 9)) live)) = some (1, 0, []) ∧ answer (fin (exec (.negotiate (negotiate 9 1 2)) sFull)) = some (6, 0, []) ∧
    (fin (exec (.close (req 0xFF 0 0 [])) oct)).sessions = [] ∧ (fin (exec (.octSessionIdle 5 7 9) oct)).sessions = [] ∧
    (fin (exec (.subscribe (subscribe 7)) oct)).get R.OCT_SUB_CFG_CLASSES 0 0 7 = 5 ∧ answer (fin (exec (.subscribe (subscribe 8)) oct)) = some (4, 0, []) := by
  decide +kernel

/-- A register of hub AM that is read and written, the last of its block's, and one where there is none. -/
def aReg : Nat := R.STEP_LOSS_ADDR.addr 0 0 0
def noReg : Nat := R.STEP_LOSS_ADDR.addr 2 0 0

/-- The tile queue of context 3 at core 31 of C0, by a doorbell that writes 5 and names a generation. -/
def bell (ctx gen : Nat) : OctHdr := req ctx 1 (R.MXC_QTAIL.addr 4 31 3) (leBytes 8 (5 + gen * 65536))

/-- The session of the queues that doorbells move. -/
def sBell : State := inSess sQueues

/-- RequestsReachRegistersAndMemory. -/
theorem wit_octRequests : oct.InTurn 0x10 (req 0xFF 2 aReg []) sess ∧ oct.InTurn 0x10 (req 0xFF 2 noReg []) sess ∧ oct.InTurn 0x11 (req 0xFF 1 aReg (leBytes 8 0x4040)) sess ∧
    oct.InTurn 0x11 (req 0xFF 1 noReg (leBytes 8 0x4040)) sess ∧ oct.InTurn 0x14 (req 0xFF 5 0x400000000001 []) sess ∧ oct.InTurn 0x14 (req 0xFF 5 0x200000000001 []) sess ∧
    oct.InTurn 0x15 (req 0xFF 3 0x400000000001 [7, 8, 9]) sess ∧ oct.InTurn 0x15 (req 0xFF 3 0x200000000001 [7, 8, 9]) sess ∧
    sBell.InTurn 0x30 (bell 3 0) sess ∧ sBell.InTurn 0x30 (bell 3 1) sess ∧ (on sBell [(R.OCT_CTX_STATE, 0, 0, 0, 3)]).InTurn 0x30 (bell 3 0) sess ∧
    (let s := oct.taken (req 0xFF 2 aReg []) sess
     (∀ i < 2, s.octShut (aReg + 8 * i) = false ∧ s.accessStatus true (aReg + 8 * i) = 0 ∧ (s.regRead (aReg + 8 * i)).1 = s) ∧
     s.octShut noReg = false ∧ s.accessStatus true noReg ≠ 0) ∧
    (let s := oct.taken (req 0xFF 1 aReg (leBytes 8 0x4040)) sess
     let r := s.csrStore true aReg 0x4040 (some 0xFF)
     restB r.1 = true ∧ r.1.pending = oct.pending ∧ r.2.1 = 0 ∧ r.1.discardHeld aReg = false ∧ s.discardHeld aReg = false ∧ (s.csrStore true noReg 0x4040 (some 0xFF)).2.1 ≠ 0) ∧
    (let s := oct.taken (req 0xFF 5 0x400000000001 []) sess
     s.octMemCheck 0x400000000001 5 = (0, 0) ∧ (s.octMemCheck 0x200000000001 5).1 ≠ 0 ∧ (s.load octWho 0x400000000001 5).2.toBool = true ∧ s.mem.bad = [] ∧
     s.accumCarve 0x400000000001 3 = none ∧ s.judge octWho 0x400000000001 3 = 0) ∧
    (tailAt (R.MXC_QTAIL.addr 4 31 3) = some (mxcQ, 3) ∧ mxcQ.block ≠ 0x61 ∧ fieldAt (bell 3 1).payload 3 5 = 0 ∧
     (let s := sBell.taken (bell 3 0) sess
      s.ctxOpen 3 = true ∧ s.ctxGen 3 = 0 ∧ (on s [(R.OCT_CTX_STATE, 0, 0, 0, 3)]).ctxOpen 3 = false ∧
      (s.csrStore true (R.MXC_QTAIL.addr 4 31 3) 5 (some 3)).2 = (0, 0, 0))) :=
  ⟨turn_of (by decide +kernel), turn_of (by decide +kernel), turn_of (by decide +kernel), turn_of (by decide +kernel), turn_of (by decide +kernel),
   turn_of (by decide +kernel), turn_of (by decide +kernel), turn_of (by decide +kernel), turn_of (by decide +kernel), turn_of (by decide +kernel),
   turn_of (by decide +kernel), by decide +kernel, by decide +kernel, by decide +kernel, by decide +kernel⟩

/-- A session beside a DISCARD_ACCUM under way. -/
def octDiscard : State := oct.putStep 0 { discarding := true }

/-- RequestsReachRegistersAndMemory: a STEP_CMD whose DISCARD_ACCUM is accepted holds its request, and one that meets it waits. -/
theorem wit_heldWrite : (octDiscard.InTurn 0x11 (req 0xFF 1 (R.STEP_CMD.addr 0 0 0) (leBytes 8 1)) sess ∧
     (octDiscard.taken (req 0xFF 1 (R.STEP_CMD.addr 0 0 0) (leBytes 8 1)) sess).discardHeld (R.STEP_CMD.addr 0 0 0) = true) ∧ oct.InTurn 0x11 (req 0xFF 1 (R.STEP_CMD.addr 0 0 0) (leBytes 8 3)) sess ∧
    (let r := (oct.taken (req 0xFF 1 (R.STEP_CMD.addr 0 0 0) (leBytes 8 3)) sess).csrStore true (R.STEP_CMD.addr 0 0 0) 3 (some 0xFF)
     restB r.1 = true ∧ r.2.1 = 0 ∧ r.1.discardHeld (R.STEP_CMD.addr 0 0 0) = true) := ⟨⟨turn_of (by decide +kernel), by decide +kernel⟩, turn_of (by decide +kernel), by decide +kernel⟩

/-- R379, R383: a write and the read of it; memory; the three ways of a doorbell. -/
theorem test_octRequests :
    (fin (exec (.csrWrite (req 0xFF 1 aReg (leBytes 8 0x4040))) oct)).get R.STEP_LOSS_ADDR_ADDR 0 0 0 = 0x4040 ∧
    answer (fin (exec (.csrRead (req 0xFF 1 aReg [])) (on oct [(R.STEP_LOSS_ADDR_ADDR, 0x4040, 0, 0, 0)]))) = some (0, 0, leBytes 8 0x4040) ∧
    (fin (exec (.csrWrite (req 0xFF 1 (R.STEP_CMD.addr 0 0 0) (leBytes 8 3))) oct)).octBusy.isSome = true ∧
    answer (fin (exec (.memRead (req 0xFF 2 0x400000000001 [])) (mem [(0x400000000000, [1, 2, 3])] oct))) = some (0, 0, [2, 3]) ∧
    (fin (exec (.memWrite (req 0xFF 3 0x400000000001 [7, 8, 9])) oct)).mem.read 0x400000000000 5 = [0, 7, 8, 9, 0] ∧
    (answer (fin (exec (.memWrite (req 0xFF 3 0x200000000001 [7, 8, 9])) oct))).map (·.1) = some 0x0A ∧
    (fin (exec (.doorbell (bell 3 0)) sBell)).get R.MXC_QTAIL_TAIL 4 31 3 = 5 ∧ (answer (fin (exec (.doorbell (bell 3 1)) sBell))).map (·.1) = some 0x0D := by
  decide +kernel

/-- Context 3 in a state, with work outstanding. -/
def sCtx (st n : Nat) : State := on oct [(R.OCT_CTX_STATE, st, 0, 0, 3), (R.OCT_CTX_OUTSTANDING, n, 0, 0, 3)]

/-- ContextsOpenDrainAndClose. -/
theorem wit_contexts : (sCtx 0 0).InTurn 0x41 (req 3 0 0 []) sess ∧ (sCtx 1 0).InTurn 0x41 (req 3 0 0 []) sess ∧ oct.InTurn 0x41 (req 63 0 0 []) sess ∧
    (sCtx 0 0).InTurn 0x42 (req 3 0 0 []) sess ∧ (sCtx 1 0).InTurn 0x42 (req 3 0 0 []) sess ∧
    ((sCtx 0 0).ctxPart 3).isSome = true ∧ oct.ctxPart 63 = none ∧
    (∀ x ∈ [(0, 0), (1, 0), (2, 0), (2, 5), (3, 0), (3, 5)], restB (sCtx x.1 x.2) = true ∧ (sCtx x.1 x.2).clocked 0 5 = true ∧ (sCtx x.1 x.2).get R.OCT_CTX_STATE 0 0 3 = x.1 ∧
      (sCtx x.1 x.2).get R.OCT_CTX_OUTSTANDING 0 0 3 = x.2) ∧
    (sCtx 2 0).ctxConfirmable 3 = false ∧
    (on (sCtx 2 0) [(R.WEAVE_STATUS_STATE, 2, 0, 1, 0), (R.WEAVE_STATUS_STATE, 2, 5, 0, 0), (R.WEAVE_STATUS_STATE, 2, 1, 0, 0), (R.WEAVE_STATUS_STATE, 2, 6, 0, 0),
      (R.WEAVE_STATUS_STATE, 2, 1, 1, 0), (R.WEAVE_STATUS_STATE, 2, 7, 0, 0)]).ctxConfirmable 3 = true :=
  ⟨turn_of (by decide +kernel), turn_of (by decide +kernel), turn_of (by decide +kernel), turn_of (by decide +kernel), turn_of (by decide +kernel),
   by decide +kernel, by decide +kernel, by decide +kernel, by decide +kernel⟩

/-- R384 to R388. -/
theorem test_contexts :
    answer (fin (exec (.ctxOpen (req 3 0 0 [])) (sCtx 0 0))) = some (0, 0, [0]) ∧ answer (fin (exec (.ctxOpen (req 63 0 0 [])) oct)) = some (0x0F, 0, []) ∧
    (fin (exec (.ctxClose (req 3 0 0 [])) (sCtx 1 0))).get R.OCT_CTX_STATE 0 0 3 = 2 ∧ (fin (exec (.ctxStopConfirmed 3) (sCtx 2 0))).get R.OCT_CTX_STATE 0 0 3 = 2 ∧
    (fin (exec (.ctxClosed 3) (sCtx 3 0))).get R.OCT_CTX_GEN 0 0 3 = 1 ∧ (fin (exec (.ctxClosed 3) (sCtx 3 5))).get R.OCT_CTX_STATE 0 0 3 = 3 ∧
    (fin (exec (.ctxDrainLimit 3) (sCtx 3 5))).flag R.OCT_CTX_ESCALATED 0 0 3 = true := by decide +kernel

/-! ### Clocks, the Ethernet port and RoCEv2 -/

/-- ClocksStopWithTheirReferences: a running domain with a PLL, one that stands still, and AON. -/
theorem wit_clocks : live.Rest ∧ bare.Rest ∧ live.aon.powered = true ∧ isDie 0 = true ∧ 2 < (clkDoms 0).length ∧ live.runs 0 2 = true ∧ bare.runs 0 2 = false ∧
    clkAON < (clkDoms 0).length ∧ 2 ≠ clkAON ∧ live.aon.lost100 = false ∧ live.aon.lost156 = false ∧ ((clkDoms 0)[2]?).isSome = true :=
  ⟨live_rest, rest_of (by decide +kernel), by decide +kernel⟩

/-- R341, R342. -/
theorem test_clocks :
    (fin (exec (.pllLockLost 0 2) live)).flag R.CLK_DOMAIN_LOCK_LOST 0 0 2 = true ∧ (fin (exec (.pllLockLost 0 2) live)).runs 0 2 = false ∧
    (fin (exec (.pllLockLost 0 2) live)).runs 0 3 = true ∧ (fin (exec (.referenceLost 0) live)).runs 4 1 = false ∧
    (fin (exec (.referenceLost 1) live)).flag R.ETH_STATUS_LINK_UP 0 = false ∧ (fin (exec (.referenceLost 1) live)).runs 4 1 = true ∧
    (fin (exec (.referenceLost 1) live)).runs 0 4 = false := by decide +kernel

/-- The link down, a speed being tried, of the speeds enabled. -/
def sTry (trying speeds : Nat) : State :=
  { on live [(R.ETH_STATUS_LINK_UP, 0, 0, 0, 0), (R.ETH_CFG_SPEEDS, speeds, 0, 0, 0)] with eth := { live.eth with trying := trying } }

/-- TheLinkChoosesItsSpeed: the link up, a speed with another below it, the slowest, and none enabled. -/
theorem wit_speeds : live.Rest ∧ (sTry 3 5).Rest ∧ (sTry 1 5).Rest ∧ (sTry 0 0).Rest ∧
    (live.clocked 0 4 = true ∧ live.flag R.ETH_STATUS_LINK_UP 0 = true ∧ (sTry 3 5).clocked 0 4 = true ∧ (sTry 3 5).flag R.ETH_STATUS_LINK_UP 0 = false ∧
     (sTry 3 5).eth.trying = 3 ∧ (sTry 3 5).speeds = 5 ∧ live.aon.powered = true ∧ live.isHeld 0 = false) ∧
    ((1 < 3 ∧ bit 5 0 = true) ∧ (∀ m, 1 < m → m < 3 → bit 5 (m - 1) = false)) ∧ (∀ m, 0 < m → m < 1 → bit 5 (m - 1) = false) ∧ bit 5 2 = true :=
  ⟨live_rest, rest_of (by decide +kernel), rest_of (by decide +kernel), rest_of (by decide +kernel), by decide +kernel,
   ⟨by decide, fun m a b => by have : m = 2 := by omega
                               subst this; decide⟩, fun m a b => by omega, by decide⟩

/-- R366, R367: from 1.6 Tb/s to 400 Gb/s and round again; four lanes lock the slowest. -/
theorem test_speeds :
    (fin (exec .ethSpeedTry (sTry 3 5))).eth.trying = 1 ∧ (fin (exec .ethSpeedTry (sTry 1 5))).eth.trying = 3 ∧
    (fin (exec (.pcsLock 0x0F) (sTry 1 5))).flag R.ETH_STATUS_LINK_UP 0 = true ∧ (fin (exec (.pcsLock 0x0F) (sTry 3 5))).flag R.ETH_STATUS_LINK_UP 0 = false ∧
    (fin (exec .ethLinkLoss live)).flag R.ETH_ERROR_LINK_DOWN 0 = true ∧ (fin (exec (.ethSpeedsWrite 2) live)).eth.trying = 2 := by decide +kernel

/-- The port with an IPv4 address, priority 3 asserting, PFC obeyed on priorities 0 and 3, and priority 5 paused. -/
def sPort : State :=
  { on (oct.wr R.ETH_MAC 0 0 0 0x020000000001) [(R.ETH_IP4_VALID, 1, 0, 0, 0), (R.ETH_IP4_ADDR, 0x0A000001, 0, 0, 0), (R.ETH_CFG_PFC_RX, 9, 0, 0, 0), (R.DEMUX_RES_STATUS_ASSERTING, 1, 0, 0, 0),
            (R.DEMUX_RES_CFG_PFC_EN, 1, 0, 0, 0), (R.DEMUX_RES_CFG_PFC_PRIO, 3, 0, 0, 0), (R.RDMA_QP_STATE, 1, 0, 0, 7), (R.ETH_CFG_MTU, 0, 0, 0, 0)]
      with eth := { oct.eth with pauses := [(3, 9), (5, 9)] } }

/-- A frame to the port's address. -/
def frameOf (kind len port : Nat) (payload : List Byte) (p : Option RdmaPkt) : EthFrame :=
  { kind := kind, len := len, exts := false, src := 5, dst := 0xFFFF0A000001, srcPort := 7, dstPort := port, payload := payload, rdma := p }

/-- A MEM_READ of session 9 as its datagram: version 2, sequence number 1, two bytes of C0's memory. -/
def datagram : List Byte :=
  [2, 0x14, 0, 0, 0xFF, 0, 0, 0] ++ beBytes 4 9 ++ beBytes 4 1 ++ beBytes 4 0 ++ beBytes 4 2 ++ beBytes 8 0x400000000001

/-- FramesAreReceived. -/
theorem wit_rxFrames : sPort.Rest ∧ sPort.clocked 0 4 = true ∧ sPort.flag R.ETH_STATUS_LINK_UP 0 = true ∧
    (∀ f ∈ [frameOf 0 64 0 [] none, frameOf 2 1500 0 [1] none, frameOf 2 1501 0 [1] none, frameOf 4 100 50200 datagram none, frameOf 4 100 4791 [] (some (chunkPkt 0))],
      f.wf = true ∧ sPort.ownAddr f.dst = true ∧ f.exts = false) ∧
    (sPort.flag R.ETH_CFG_MTU 0 = false ∧ sPort.flag R.ETH_IP4_VALID 0 = true ∧ v4Mapped (sPort.get R.ETH_IP4_ADDR 0) = 0xFFFF0A000001 ∧
     sPort.ownAddr 0xFFFF0A000002 = false ∧ linkLocal (sPort.get R.ETH_MAC_MAC 0) / 2 ^ 32 ≠ 0xFFFF ∧
     octParse (frameOf 4 100 50200 datagram none) = some (0x14, req 0xFF 2 0x400000000001 []) ∧ (req 0xFF 2 0x400000000001 []).wf = true ∧ sPort.octUp = true) ∧
    ((Instr.pfcRx 0x29 [0, 0, 0, 7]).wf = true ∧ bit 0x29 3 = true ∧ bit (sPort.get R.ETH_CFG_PFC_RX 0) 3 = true ∧ bit (sPort.get R.ETH_CFG_PFC_RX 0) 5 = false) ∧
    (linkLocal (sPort.get R.ETH_MAC_MAC 0) = 0xFE80000000000000000000FFFE000001 ∧ sPort.ownAddr 0xFE80000000000000000000FFFE000001 = true) :=
  ⟨rest_of (by decide +kernel), by decide +kernel, by decide +kernel, by decide +kernel, by decide +kernel, by decide +kernel, by decide +kernel⟩

/-- R368, R369, R375: a frame of the MTU is taken and one byte more is not; quanta of 0 resume. -/
theorem test_rxFrames :
    (fin (exec (.ethRxFrame (frameOf 2 1500 0 [1] none)) sPort)).out = [.eth 22 [0x020000000001, 0xFFFF0A000001, 5] [1]] ∧
    (fin (exec (.ethRxFrame (frameOf 2 1501 0 [1] none)) sPort)).get R.ETH_DISCARDS_COUNT 0 = 1 ∧
    answer (fin (exec (.ethRxFrame (frameOf 4 100 50200 datagram none)) sPort)) = some (0, 0, [0, 0]) ∧
    (fin (exec (.pfcRx 0x29 [4]) sPort)).eth.pauses = [(0, 4), (5, 9)] ∧ (fin (exec (.pauseQuantaExpire 5) sPort)).eth.pauses = [(3, 9)] ∧
    (fin (exec .pfcRefresh sPort)).out = [.eth 0 [3, 0xFFFF] []] := by decide +kernel

/-- A queue pair's table entry: kind, PMTU code, starting numbers, key, base, size, ACK time-out and retries. -/
def qpEntry (kind ctx : Nat) : List Byte :=
  leBytes 64 (pack [(0, kind), (16, ctx), (24, 1), (64, 5), (96, 6), (0x24 * 8, 0x77), (0x28 * 8, 0x400000000100), (0x30 * 8, if kind = 3 then 0 else 0x100),
    (0x38 * 8, 1), (0x39 * 8, 2)])

/-- Queue pair 7 in a state with an entry, which also lies in the table at C0's memory; its retries spent so far. -/
def sQp (st kind ctx retries : Nat) : State :=
  { mem [(0x400000000000 + 64 * 7, qpEntry kind ctx)] (on live [(R.RDMA_QP_STATE, st, 0, 0, 7), (R.RDMA_QPT_BASE, 0x400000000000, 0, 0, 0),
      (R.RDMA_FAR_VALID, 1, 0, 0, 0), (R.RDMA_FAR_QPN, 7, 0, 0, 0)])
    with qps := [(7, { entry := qpEntry kind ctx, rq := 6, retries := retries })] }

/-- The same with a move from the far window in hand at C0. -/
def sFar (retries : Nat) : State := (sQp 1 3 0xFF retries).putMover 4 0 { hand := some { ctx := 3, gen := 0, raw := copy 0xE00000000010 0x400000000123 5, waiting := false } }

/-- QueuePairsLoadAndFail: a good and a bad entry in RESET, and a far-spill queue pair idle, and at work with and without retries left. -/
theorem wit_queuePairs : (sQp 0 2 3 0).Rest ∧ (sQp 0 4 3 0).Rest ∧ (sQp 1 3 0xFF 0).Rest ∧ (sFar 0).Rest ∧ (sFar 2).Rest ∧
    (∀ k ∈ [2, 4], (sQp 0 k 3 0).aon.powered = true ∧ (sQp 0 k 3 0).isHeld 0 = false ∧ (sQp 0 k 3 0).qpState 7 = 0 ∧ fieldAt (qpEntry k 3) 0 1 ≠ 0 ∧
      ((sQp 0 k 3 0).load { die := 0, part := none } ((sQp 0 k 3 0).get R.RDMA_QPT_BASE 0 + 64 * 7) 64).2.toOption = some (qpEntry k 3) ∧
      (sQp 0 k 3 0).qpBad (qpEntry k 3) = decide (k = 4) ∧ ((sQp 0 k 3 0).qp 7).inMsg = false) ∧
    (∀ s ∈ [sQp 1 3 0xFF 0, sFar 0, sFar 2], s.clocked 0 4 = true ∧ (s.qp 7).kind = 3 ∧ s.qpState 7 = 1 ∧ s.flag R.ETH_STATUS_LINK_UP 0 = true ∧ (s.qp 7).retry = 2) ∧
    ((sQp 1 3 0xFF 0).farBusy 7 = false ∧ (sFar 0).farBusy 7 = true ∧ (sFar 2).farBusy 7 = true) :=
  ⟨rest_of (by decide +kernel), rest_of (by decide +kernel), rest_of (by decide +kernel), rest_of (by decide +kernel), rest_of (by decide +kernel),
   by decide +kernel, by decide +kernel, by decide +kernel⟩

/-- R371, R374. -/
theorem test_queuePairs :
    (fin (exec (.qpLoad 7) (sQp 0 2 3 0))).qpState 7 = 1 ∧ ((fin (exec (.qpLoad 7) (sQp 0 2 3 0))).qp 7).sq = 5 ∧
    (fin (exec (.qpLoad 7) (sQp 0 4 3 0))).get R.RDMA_QP_CAUSE 0 0 7 = 1 ∧ (fin (exec (.qpToError 7) (sQp 1 2 3 0))).qpState 7 = 2 ∧
    (fin (exec (.qpToReset 7) (sQp 1 2 3 0))).qps = [] ∧ ((fin (exec (.rdmaAckTimeout 7) (sFar 0))).qp 7).retries = 1 ∧
    (fin (exec (.rdmaAckTimeout 7) (sFar 2))).get R.RDMA_QP_CAUSE 0 0 7 = 2 ∧ (fin (exec (.nakReceived 7) (sFar 0))).get R.RDMA_QP_CAUSE 0 0 7 = 3 := by
  decide +kernel

/-- A READ, or a one-packet WRITE of three bytes, of the memory queue pair's offset 0xFD, under a key. -/
def rdmaPkt (op key : Nat) : RdmaPkt := ⟨7, op, true, true, 6, false, 0xFD, key, 3, [7, 8, 9]⟩

/-- QueuePairsServeTheHost: requests that run, with a wrong key, and to memory there is none of; CNPs; rates far from and near the line's. -/
theorem wit_rdma : (sQp 1 2 3 0).Rest ∧
    (∀ p ∈ [rdmaPkt 1 0x77, rdmaPkt 2 0x77, rdmaPkt 1 0x78], p.wf = true ∧ p.qp < 4096 ∧ p.psn = ((sQp 1 2 3 0).qp 7).rq ∧ p.ce = false) ∧
    ((sQp 1 2 3 0).clocked 0 4 = true ∧ (sQp 1 2 3 0).flag R.ETH_STATUS_LINK_UP 0 = true ∧ (sQp 1 2 3 0).qpState 7 = 1 ∧ ((sQp 1 2 3 0).qp 7).kind = 2 ∧
     ((sQp 1 2 3 0).qp 7).ctx = 3 ∧ (sQp 1 2 3 0).ctxOpen 3 = true ∧ ((sQp 1 2 3 0).qp 7).rkey = 0x77 ∧ ((sQp 1 2 3 0).qp 7).size = 0x100 ∧
     (sQp 1 2 3 0).rdmaJudge ((sQp 1 2 3 0).qp 7) 0x4000000001FD 3 = 0 ∧ (sQp 1 2 3 0).reach (addrDie 0x4000000001FD) = true ∧ (sQp 1 2 3 0).mem.bad = [] ∧
     (sQp 1 2 3 0).accumCarve 0x4000000001FD 3 = none ∧ ((sQp 1 2 3 0).qp 7).base + 0xFD = 0x4000000001FD ∧
     (on (sQp 1 2 3 0) [(R.ID_DIE_PARTITION_COUNT, 2, 0, 0, 0)]).rdmaJudge ((sQp 1 2 3 0).qp 7) 0x4000000001FD 3 = 0) ∧
    ({ sQp 1 2 3 0 with held := [4] }.rdmaJudge ((sQp 1 2 3 0).qp 7) 0x4000000001FD 3 ≠ 0 ∧ { sQp 1 2 3 0 with held := [4] }.clocked 0 4 = true) ∧
    ((sQp 1 2 3 0).cnpDue (sQp 1 2 3 0).cnpCut 7 = true ∧ { sQp 1 2 3 0 with cnpCut := [(7, (sQp 1 2 3 0).mgmt)] }.cnpDue [(7, (sQp 1 2 3 0).mgmt)] 7 = false) :=
  ⟨rest_of (by decide +kernel), by decide +kernel, by decide +kernel, by decide +kernel, by decide +kernel⟩

/-- R372, R373. -/
theorem test_rdma :
    (fin (exec (.rdmaPacketRx (rdmaPkt 1 0x77)) (sQp 1 2 3 0))).mem.read 0x4000000001FD 3 = [7, 8, 9] ∧
    (fin (exec (.rdmaPacketRx (rdmaPkt 2 0x77)) (sQp 1 2 3 0))).out = [.eth 8 [7, 6] [0, 0, 0]] ∧
    (fin (exec (.rdmaPacketRx (rdmaPkt 1 0x78)) (sQp 1 2 3 0))).out = [.eth 6 [7, 6, 2] []] ∧
    (fin (exec (.rdmaPacketRx (rdmaPkt 1 0x78)) (sQp 1 2 3 0))).get R.RDMA_QP_CAUSE 0 0 7 = 5 ∧
    ((fin (exec (.rdmaCnpRx 7) (sQp 1 2 3 0))).qp 7).rateNum = 7 ∧ ((fin (exec (.rdmaRateRecover 7) (fin (exec (.rdmaCnpRx 7) (sQp 1 2 3 0))))).qp 7).rateNum = 120 ∧
    ((fin (exec (.rdmaRateRecover 7) (sQp 1 2 3 0))).qp 7).rateNum = 1 := by decide +kernel

/-! ### Firmware, attestation and Daybreak -/

/-- ATTEST: a request of KIND 1 or 2. -/
def attest (kind target : Nat) : OctHdr := req 0xFF 0 target (leBytes (if kind = 1 then 8 else 40) kind)

/-- Every signature spent. -/
def sSpent : State := { oct with flash := { lms0 := 2 ^ 40, lms1 := 2 ^ 40 } }

/-- AttestationAndInstalls: both KINDs to C0's home DRAM, to a place that is not aligned and to one without memory; every index spent. -/
theorem wit_attest :
    (∀ s ∈ [oct, sSpent], ∀ k ∈ [1, 2], ∀ a ∈ [0x400000000040, 0x400000000041, 0x300000000000],
      turnB s 0x60 (withFirst (attest k a) k) sess = true ∧ fieldAt (attest k a).payload 1 7 = 0 ∧
      (s.taken (withFirst (attest k a) k) sess).octWritable a 8192 = decide (a ≠ 0x300000000000) ∧
      (s.taken (withFirst (attest k a) k) sess).accumCarve a 8192 = none) ∧
    oct.flash.lms0 < 2 ^ 40 ∧ 2 ^ 40 ≤ sSpent.flash.lms0 ∧ oct.mem.bad = [] ∧ 0x400000000040 % 64 = 0 ∧ 0x300000000000 % 64 = 0 := by decide +kernel

/-- R401, R402: a refused report spends nothing; the identity goes out with no index spent. -/
theorem test_attest :
    answer (fin (exec (.attestReport (attest 2 0x400000000041)) oct)) = some (octRefused, secBadDest, []) ∧
    answer (fin (exec (.attestIdentity (attest 1 0x400000000040)) sSpent)) = some (octRefused, secExhausted, []) := by decide +kernel

/-- A full stream of a PART_CUT record for one partition and a record of type 4, by its bytes (R38 to R44). -/
def fullStream : List Byte := leBytes 172 0x84F6ED3D000000000000000100040004C5CB378900000000000000000000000000000000000000000000000000000000000000000000000000000000000000000000000100000001003000019DA545AD01EDF81AD609E96FBF94E2045946C24BDCA4587CAF48323A0F9077C8650990D82AD3083625036EB341A487DA000000000000000000000000000000000000000000000000123456780000004100000002000000AC00600002534F5A55

/-- FW_UPDATE: a request for a slot. -/
def fwReq (slot : Nat) : OctHdr := req 0xFF 0 0 (leBytes 8 slot)

/-- The first bytes of an image of one byte whose LMS signature fills the manifest (R395), with an SVN. -/
def imageHead (svn : Nat) : List Byte :=
  leBytes 0x164 (pack [(0, imgMagic), (32, 1), (48, 0x41), (64, svn), (96, 1), (0x160 * 8, 16028)])

/-- The live module with its part number written out. -/
def sPart : State := live.wr R.ID_PART 0 0 0 0x2020000410A4C

/-- Firmware 3 runs from slot A, one fuse is blown; an image stands in the staging buffer. -/
def sFw (svn : Nat) : State :=
  { mem [(stagingBase, imageHead svn)] (on (inSess sPart) [(R.SEC_STATUS_FW_SLOT, 1, 0, 0, 0)]) with aon := { oct.aon with fwSvn := 3 }, flash := { oct.flash with fuses := 1 } }

/-- The same with a full stream staged, and with an install in its background phase. -/
def sFwStream : State := mem [(stagingBase, fullStream)] (on oct [(R.SEC_STATUS_FW_SLOT, 1, 0, 0, 0)])
def sFwBusy (op : Nat) : State := { sFw 3 with install := some { op := op, slot := 2, bytes := [1, 2] } }

theorem read_piece (m : Mem) (a n off k : Nat) (h : off + k ≤ n) : ((m.read a n).drop off).take k = m.read (a + off) k := by
  apply List.ext_getElem
  · simp; omega
  · intro i h1 h2
    simp [Mem.read, Nat.add_assoc]

/-- An image as INSTALL_FW reads it has its form, by the fields at the head of its manifest. -/
theorem form_of {m : Mem} {a : Nat} (hd : (leVal (m.read (a + 0) 4) == imgMagic && leVal (m.read (a + 4) 2) == 1 &&
    leVal (m.read (a + 6) 2) == 0x41 && leVal (m.read (a + 0xC) 4) == 1 && leVal (m.read (a + 0x160) 4) == 16028 &&
    zeros (m.read (a + 0xB1) 15) && zeros (m.read (a + 0xFC) 4)) = true) :
    imageForm 0x41 (m.read a (manifestLen + min imageMax (leVal (m.read (a + 0xC) 4)))) = true := by
  simp only [Bool.and_eq_true, beq_iff_eq] at hd
  obtain ⟨⟨⟨⟨⟨⟨h0, h4⟩, h6⟩, hC⟩, h160⟩, hB1⟩, hFC⟩ := hd
  rw [hC, show manifestLen + min imageMax 1 = 0x4001 from rfl]
  unfold imageForm imgLen imgSigLen fieldAt piece
  simp only [read_piece m a 0x4001 0 4 (by omega), read_piece m a 0x4001 4 2 (by omega), read_piece m a 0x4001 6 2 (by omega),
    read_piece m a 0x4001 0xC 4 (by omega), read_piece m a 0x4001 0x160 4 (by omega), read_piece m a 0x4001 0xB1 15 (by omega),
    read_piece m a 0x4001 0xFC 4 (by omega), h0, h4, h6, hC, h160, hB1, hFC, Mem.read_length]
  simp [manifestLen, imageMax, zeros]

/-- AttestationAndInstalls: an image of SVN 3 that may be taken up, one of SVN 0, and none. -/
theorem wit_installFw :
    (∀ s ∈ [sFw 3, sFw 0, sFwStream, sFwBusy 1], turnB s 0x61 (withTarget (fwReq 2) 1) sess = true) ∧
    turnB (sFw 3) 0x61 (withTarget (fwReq 1) 1) sess = true ∧ fieldAt (fwReq 2).payload 1 7 = 0 ∧ fieldAt (fwReq 2).payload 0 1 = 2 ∧ (fwReq 2).count = 0 ∧
    (sFw 3).install = none ∧ (sFwBusy 1).install.isSome = true ∧ (sFw 3).get R.SEC_STATUS_FW_SLOT 0 = 1 ∧ (sFw 3).get R.ID_PART_PART 0 = 0x41 ∧
    (sFw 3).mem.read (stagingBase + 8) 4 = leBytes 4 3 ∧ (sFw 0).mem.read (stagingBase + 8) 4 = leBytes 4 0 ∧ (sFw 3).flash.fuses = 1 := by decide +kernel

theorem wit_imageForm (svn : Nat) (h : svn = 0 ∨ svn = 3) :
    imageForm 0x41 ((sFw svn).mem.read stagingBase (manifestLen + min imageMax (leVal ((sFw svn).mem.read (stagingBase + 0xC) 4)))) = true := by
  rcases h with rfl | rfl <;> exact form_of (by decide +kernel)

/-- AttestationAndInstalls: streams that validate and do not, slots without an image, and SVNs to raise and not. -/
theorem wit_fwUpdate :
    (turnB sFwStream 0x61 (withTarget (fwReq 2) 2) sess && turnB (sFw 3) 0x61 (withTarget (fwReq 2) 2) sess &&
     turnB (sFw 3) 0x61 (withTarget (fwReq 2) 3) sess && turnB (sFw 3) 0x61 (withTarget (fwReq 2) 4) sess && turnB oct 0x61 (withTarget (fwReq 2) 4) sess) = true ∧
    (let s0 := sFwStream.taken (withTarget (fwReq 2) 2) sess
     (s0.validate s0.staged none).toBool = true) ∧
    (let s0 := (sFw 3).taken (withTarget (fwReq 2) 2) sess
     (s0.validate s0.staged none).toBool = false) ∧
    ((sFw 3).taken (withTarget (fwReq 2) 3) sess).verifyImage ((sFw 3).fwSlot 2) ≠ 0 ∧
    (sFw 3).flash.fuses < min (sFw 3).aon.fwSvn 64 ∧ min oct.aon.fwSvn 64 ≤ oct.flash.fuses := by decide +kernel

/-- PART is a matter of the registers alone. -/
theorem part_of {s t : State} (hc : s.csr = t.csr) (h : t.get R.ID_PART_PART 0 = 0x41) : s.get R.ID_PART_PART 0 = 0x41 := by
  rw [← h]; simp only [State.get, State.rd, hc]

/-- What the flash holds does not matter to a state's rest, its step, or its registers. -/
theorem flash_free (s : State) (f : Flash) : (s.Rest → { s with flash := f }.Rest) ∧ ({ s with flash := f }.atStep 3 = s.atStep 3) ∧
    { s with flash := f }.recovery = s.recovery ∧ ({ s with flash := f } : State).csr = s.csr ∧ ({ s with flash := f } : State).flash = f :=
  ⟨fun h => ⟨⟨h.1.1, h.1.2.1, h.1.2.2.1, h.1.2.2.2⟩, h.2⟩, rfl, rfl, rfl, rfl⟩

theorem taken_flash (s : State) (f : Flash) (h : OctHdr) (x : Sess) :
    (({ s with flash := f } : State).taken h x).csr = (s.taken h x).csr ∧ (({ s with flash := f } : State).taken h x).flash = f := ⟨rfl, rfl⟩

/-- AttestationAndInstalls: PREFER of a slot whose image is well formed and signed. Signatures are left open, so that is a premise. -/
theorem wit_prefer (b : List Byte) (hf : imageForm 0x41 b = true) (hs : imageSigned b = 0) (hn : 1 ≤ imgSvn b) :
    let s : State := { sFw 3 with flash := { fwB := b, fuses := 1 } }
    (s.taken (withTarget (fwReq 2) 3) sess).verifyImage (s.fwSlot 2) = 0 := by
  have h1 : ∀ s : State, s.csr = ((sFw 3).taken (withTarget (fwReq 2) 3) sess).csr → s.flash.fuses = 1 → s.verifyImage b = 0 := by
    intro s hc hq
    have hp := part_of hc (by decide +kernel)
    unfold State.verifyImage State.minSvn
    simp [hp, hq, hf, hs]; omega
  intro s
  have k := taken_flash (sFw 3) { fwB := b, fuses := 1 } (withTarget (fwReq 2) 3) sess
  exact h1 _ k.1 (by rw [k.2])

/-- AttestationAndInstalls: the background phase ends, with an install and with none. -/
theorem wit_installDone : (sFw 3).Rest ∧ (sFwBusy 1).Rest ∧ (sFwBusy 2).Rest ∧ (sFw 3).clocked 0 5 = true ∧ (sFw 3).install = none ∧ (sFwBusy 2).clocked 0 5 = true :=
  ⟨rest_of (by decide +kernel), rest_of (by decide +kernel), rest_of (by decide +kernel), by decide +kernel⟩

/-- R398 to R400. -/
theorem test_fwUpdate :
    (fin (exec (.raiseSvn (fwReq 0)) (sFw 3))).flash.fuses = 3 ∧
    answer (fin (exec (.prefer (fwReq 2)) (sFw 3))) = some (octRefused, secBadImage, []) ∧
    answer (fin (exec (.installFw (fwReq 1)) (sFw 3))) = some (octRefused, secActive, []) ∧
    ((fin (exec (.installStream (fwReq 2)) sFwStream)).install.map (·.bytes)) = some fullStream ∧
    (fin (exec (.installBackgroundDone true) (sFwBusy 2))).flash.strB = [1, 2] ∧
    (fin (exec (.installBackgroundDone false) (sFwBusy 2))).flash.strB = [] ∧
    (fin (exec (.installBackgroundDone false) (sFwBusy 2))).get R.SEC_FW_STATUS_LAST_STATUS 0 = secFlash := by decide +kernel

/-- Daybreak in progress at a step: clocks and power as in the live module. -/
def sDay (n : Nat) (s : State) : State := { s with aon := { s.aon with step := n } }

/-- Step 4 with NEXT_SOURCE 0, slot A running, and streams in the slots. -/
def sSource (a b : List Byte) (src : Nat) : State :=
  { on live [(R.SEC_STATUS_FW_SLOT, 1, 0, 0, 0)] with aon := { live.aon with step := 4, source := src }, flash := { strA := a, strB := b } }

/-- DaybreakLoadsFirmwareAndStream: each step before the clocks, with a first and a second source that is valid, none valid, and none to try. -/
theorem wit_daybreak : (∀ n ∈ [1, 2, 3, 4, 5], restB (sDay n live) = true ∧ (sDay n live).atStep n = true) ∧
    ((sDay 0 live).atStep 0 = true ∧ (sDay 4 live).atStep 3 = false ∧ (on (sDay 6 live) [(R.WEAVE_STATUS_STATE, 0, 5, 0, 0)]).stepReady = false ∧
     (sDay 3 live).recovery = false ∧ (sDay 3 live).bootSlot = 0 ∧ (sDay 4 live).waiting = false ∧ (sDay 2 live).aon.lost100 = false ∧
     (sDay 5 live).aon.lost156 = false ∧ (sDay 5 live).power.tripped = [] ∧ (∀ d ∈ liveDies, (sDay 5 live).dieFailed d = false)) ∧
    (∀ s ∈ [sSource fullStream [] 0, sSource [] fullStream 0, sSource [] [] 1, sSource [] [] 3], restB s = true ∧ s.atStep 4 = true ∧ s.waiting = false) := by
  decide +kernel

theorem wit_sources :
    (sSource fullStream [] 0).sourcesTried = [1, 2] ∧ ((sSource fullStream [] 0).validate ((sSource fullStream [] 0).strSlot 1) none).toBool = true ∧
    ((sSource [] fullStream 0).validate ((sSource [] fullStream 0).strSlot 1) none).toBool = false ∧
    ((({ sSource [] fullStream 0 with aon := { (sSource [] fullStream 0).aon with sourceFailed := true } } : State).streamError (hdrFail 4 8)).validate
      ((sSource [] fullStream 0).strSlot 2) none).toBool = true ∧
    (sSource [] [] 1).sourcesTried = [1] ∧ ((sSource [] [] 1).validate ((sSource [] [] 1).strSlot 1) none).toBool = false ∧
    (sSource [] [] 3).sourcesTried = [] := by decide +kernel

/-- The slot booted is the one that verifies: a well-formed and signed image in slot A (signatures are left open, so that is a premise). -/
theorem wit_boot (b : List Byte) (hf : imageForm 0x41 b = true) (hs : imageSigned b = 0) :
    let s : State := { sDay 3 sPart with flash := { fwA := b } }
    s.Rest ∧ s.atStep 3 = true ∧ s.recovery = false ∧ s.bootSlot = 1 := by
  have h1 : ∀ s : State, s.csr = (sDay 3 sPart).csr → s.flash = { fwA := b } → s.bootSlot = 1 := by
    intro s hc hq
    have hp := part_of hc (by decide +kernel)
    have hv : s.verifyImage b = 0 := by
      unfold State.verifyImage State.minSvn
      simp [hp, hq, hf, hs]
    have hr : s.bootRec = (0, 0) := by simp [State.bootRec, hq]
    have hw : s.fwSlot 1 = b := by simp [State.fwSlot, hq]
    unfold State.bootSlot
    simp [hr, hw, hv]
  have r : (sDay 3 sPart).Rest ∧ (sDay 3 sPart).atStep 3 = true ∧ (sDay 3 sPart).recovery = false := ⟨rest_of (by decide +kernel), by decide +kernel⟩
  have f := flash_free (sDay 3 sPart) { fwA := b }
  exact ⟨f.1 r.1, f.2.1.trans r.2.1, f.2.2.1.trans r.2.2, h1 _ f.2.2.2.1 f.2.2.2.2⟩

/-- R408 to R410, R412. -/
theorem test_daybreak :
    (fin (exec (.daybreakStepComplete []) (sDay 1 live))).aon.step = 2 ∧ (fin (exec (.daybreakStepComplete []) (sDay 3 live))).recovery = true ∧
    (daybreakStepCompleteEff [] (sSource fullStream [] 0)).aon.sourceFailed = false ∧ (daybreakStepCompleteEff [] (sSource fullStream [] 0)).aon.step = 5 ∧
    (daybreakStepCompleteEff [] (sSource [] fullStream 0)).active = fullStream ∧ (daybreakStepCompleteEff [] (sSource [] fullStream 0)).aon.sourceFailed = true ∧
    (fin (exec (.daybreakStepComplete []) (sSource [] [] 3))).waiting = true ∧
    (fin (exec (.daybreakStepComplete []) { sDay 5 live with held := [1, 4, 5, 6, 7] })).held = [] := by decide +kernel

/-- DaybreakBringsUpTheModule: each step from the weaves on. -/
theorem wit_daybreakEnd :
    (∀ n ∈ [6, 7, 8, 9, 10, 11], restB (sDay n live) = true ∧ (sDay n live).atStep n = true) ∧
    ((∀ d ∈ compDies, ({ sDay 6 live with held := [5, 6, 7] }.isHeld d = true ∨ { sDay 6 live with held := [5, 6, 7] }.weaveUp d = true)) ∧
     (Instr.daybreakStepComplete [(4, 7)]).wf = true ∧ 7 ∈ (sDay 7 live).stacks 4 ∧ (sDay 7 live).isHeld 4 = false ∧ (sDay 7 live).excluded 4 = false ∧
     (sDay 8 live).seamTrained = true ∧ (sDay 9 live).portsUp = true ∧ (sDay 10 live).flag R.ETH_STATUS_LINK_UP 0 = true ∧
     (sDay 10 bare).starts = [] ∧ (sDay 10 bare).atStep 10 = true ∧ (sDay 10 bare).region 1 = 2 ∧ (sDay 11 live).starts = [] ∧
     { sDay 11 live with starts := [4] }.atStep 11 = true) ∧
    ((clkDoms 4).length = 12 ∧ (sDay 5 live).domainOut 4 11 = false ∧ (sDay 5 live).atStep 5 = true ∧ (sDay 6 live).weaveUp 6 = false ∧ (sDay 6 live).isHeld 6 = false ∧
     (sDay 8 bare).seamTrained = false ∧ (sDay 8 bare).atStep 8 = true ∧ live.clocked 0 5 = true ∧ live.eth.announcing = 0 ∧ bare.aon.powered = true) := by decide +kernel

/-- The announcement is due. -/
def sAnn : State := { live with eth := { live.eth with announcing := 1, announced := 4 } }

/-- R413 to R417: a stack that fails holds its die; the seam's limit, with its regions; a repeated announcement has the next number. -/
theorem test_daybreakEnd :
    (fin (exec (.daybreakStepComplete [(4, 7)]) (sDay 7 live))).isHeld 4 = true ∧ (fin (exec (.daybreakStepComplete [(4, 7)]) (sDay 7 live))).get R.HBMC_STATUS_TRAINED 4 6 = 1 ∧
    (fin (exec (.daybreakStepComplete [(4, 7)]) (sDay 7 live))).get R.STREAM_DAYBREAK_FIRST_FAIL 0 = 7 ∧
    (fin (exec (.pllLockTimeout 4 11) (sDay 5 live))).region 4 = 5 ∧ (fin (exec (.pllLockTimeout 0 4) (sDay 5 live))).aon.stopped = true ∧
    (fin (exec (.weaveStepTimeout 6) (sDay 6 live))).region 6 = 5 ∧ (fin (exec .seamWaitTimeout (sDay 8 bare))).region 0x11 = 5 ∧
    (fin (exec .peerStepTimeout (sDay 9 bare))).aon.step = 10 ∧ (fin (exec .ethStepTimeout (sDay 10 bare))).aon.step = 11 ∧
    (fin (exec .announceRepeat sAnn)).eth.announced = 5 := by decide +kernel

/-! ### Hangs, resets, dumps, the service port -/

/-- A record of GLOBAL with a carve-out of a kind at C1: 2 MiB. -/
def carve (kind : Nat) : SRec := ⟨0, 0, 5, 0, 0, 0, leBytes 24 (pack [(0, kind), (16, 0xFF), (64, 0x500000000000), (128, 0x200000)]), []⟩

/-- Core 0 of C0 has work of context 3 in hand, under a watchdog, with automatic resets of engines (or none). -/
def sHang (auto valid : Nat) : State :=
  unit 0 { inHand := [{ ctx := 3, gen := 0, raw := 1, id := 1, stage := .waiting }] } (on live [(R.RST_WDOG_LIMIT, 10, 4, 0, 0), (R.RST_POLICY_MAX_AUTO, auto, 0, 0, 0),
    (R.RST_HANG_VALID, valid, 4, 0, 0), (R.RST_POLICY_DUMP_ON_HANG, 0, 0, 0, 0)])

/-- HangsAndQuarantine: a unit that hangs, a second one noted with MORE, with and without automatic resets; units that are left alone. -/
theorem wit_hang : (∀ s ∈ [sHang 1 0, sHang 0 1, live], restB s = true ∧ s.aon.powered = true ∧ s.resets = [] ∧ s.dump = none) ∧ (Instr.watchdogExpire 4 0x10 0).wf = true ∧
    (∀ s ∈ [sHang 1 0, sHang 0 1], s.get R.RST_WDOG_LIMIT 4 = 10 ∧ s.watched 4 0x10 0 = true ∧ s.unitHeld 4 0x10 0 = false ∧ s.isHeld 4 = false) ∧
    (sHang 1 0).flag R.RST_HANG_VALID 4 = false ∧ (sHang 0 1).flag R.RST_HANG_VALID 4 = true ∧ (sHang 1 0).get R.RST_POLICY_MAX_AUTO 0 ≠ 0 ∧
    (sHang 0 1).get R.RST_POLICY_MAX_AUTO 0 = 0 ∧ live.watched 4 0x10 0 = false := by decide +kernel

/-- A unit in quarantine with suspects left, its queues empty, or with work of context 3 in hand. -/
def quar (left : List Nat) : Quar := { die := 4, block := 0x10, inst := 0, suspects := 0x28, left := left }
def sQuar (left : List Nat) : State := { live with quars := [quar left] }
def sQuarBusy : State := { sHang 1 0 with quars := [quar [3, 5]] }

/-- HangsAndQuarantine: turns with a suspect after them, the last turn, and one that goes on. -/
theorem wit_quarantine : (∀ s ∈ [sQuar [3, 5], sQuar [3], sQuarBusy], restB s = true ∧ s.aon.powered = true) ∧
    ((sQuar [3, 5]).quars = [quar [3, 5]] ∧ (sQuar [3]).quars = [quar [3]] ∧ sQuarBusy.quars = [quar [3, 5]]) ∧ isDie (quar [3]).die = true ∧
    (quar [3]).inst < 4096 ∧ (sQuar [3, 5]).quarIdle (quar [3, 5]) 3 = true ∧ sQuarBusy.quarIdle (quar [3, 5]) 3 = false := by decide +kernel

/-- R427, R428, R436. -/
theorem test_hang :
    (fin (exec (.watchdogExpire 4 0x10 0) (sHang 1 0))).get R.RST_HANG_BLOCK 4 = 0x10 ∧ (fin (exec (.watchdogExpire 4 0x10 0) (sHang 1 0))).get R.RST_SUSPECTS_MASK 4 = 8 ∧
    (fin (exec (.watchdogExpire 4 0x10 0) (sHang 1 0))).resets.length = 1 ∧ (fin (exec (.watchdogExpire 4 0x10 0) (sHang 0 1))).flag R.RST_HANG_MORE 4 = true ∧
    (fin (exec (.quarantineTurnEnd 4 0) (sQuar [3, 5]))).get R.RST_REPLAY_CURRENT 4 = 5 ∧ (fin (exec (.quarantineTurnEnd 4 0) sQuarBusy)).quars = [quar [3, 5]] ∧
    (fin (exec (.replayWindowExpire 4 0) (sQuar [3]))).get R.RST_REPLAY_RESULT 4 = 2 := by decide +kernel

/-- Daybreak is over, and a DUMP carve-out at C1 holds the destination of dumps; C1's weave is up. -/
def sRun : State := recs [(0, [carve 4])] (on oct
  [(R.STREAM_DAYBREAK_DONE, 1, 0, 0, 0), (R.DBG_DUMP_DEST_BASE, 0x500000000000, 0, 0, 0), (R.DBG_DUMP_SIZE_SIZE, 0x200000, 0, 0, 0),
   (R.ID_UNITS_STACK_PRESENT, 0xFF, 5, 0, 0), (R.WEAVE_STATUS_STATE, 2, 5, 0, 0), (R.WEAVE_STATUS_STATE, 2, 0, 1, 0)])

/-- A RESET request: TARGET, with a dump. -/
def resetOf (target : Nat) (dump : Bool) : OctHdr := req 0xFF 0 target [0, BitVec.ofNat 8 (b2n dump), 0, 0, 0, 0, 0, 0]

/-- ResetRequestsBegin: each domain with its TARGET, with and without a dump; one misplaced, and one before Daybreak is over. -/
theorem wit_resetRequests :
    (∀ x ∈ [(1, R.MXC_ERROR.addr 4 0 0, false), (2, 4 * 2 ^ 36, false), (2, 4 * 2 ^ 36, true), (3, 2 ^ 36, false), (4, 0, false)],
      turnB sRun 0x40 (withFirst (resetOf x.2.1 x.2.2) x.1) sess = true ∧
      (sRun.taken (withFirst (resetOf x.2.1 x.2.2) x.1) sess).resetCheck { op := 0x40, hdr := withFirst (resetOf x.2.1 x.2.2) x.1, opening := 1 } = 0 ∧
      bit (fieldAt (resetOf x.2.1 x.2.2).payload 1 1) 0 = x.2.2) ∧
    ((sRun.taken (withFirst (resetOf 5 false) 2) sess).resetCheck { op := 0x40, hdr := withFirst (resetOf 5 false) 2, opening := 1 } ≠ 0 ∧
     turnB sRun 0x40 (withFirst (resetOf 5 false) 2) sess = true) ∧
    (turnB oct 0x40 (withFirst (resetOf (4 * 2 ^ 36) false) 2) sess = true ∧ oct.daybreakDone = false ∧ resetForm 2 (4 * 2 ^ 36) = true ∧
     fieldAt (resetOf (4 * 2 ^ 36) false).payload 1 7 = 0) ∧
    sRun.resets = [] ∧ sRun.dump = none ∧ sRun.fences = [] ∧ sRun.dumpFits [4] = true := by decide +kernel

/-- R431, R433: a die in dusk, or first its dump; a request before Daybreak is over; a TARGET that is none. -/
theorem test_resetRequests :
    (fin (exec (.resetDie (resetOf (4 * 2 ^ 36) false)) sRun)).get R.RST_STATUS_STATE 4 = 2 ∧ (fin (exec (.resetDie (resetOf (4 * 2 ^ 36) true)) sRun)).get R.RST_STATUS_STATE 4 = 1 ∧
    (fin (exec (.resetEngine (resetOf (R.MXC_ERROR.addr 4 5 0) false)) sRun)).resets.map (·.units) = [[(0x10, 5)]] ∧
    (fin (exec (.resetHalf (resetOf (2 ^ 36) false)) sRun)).get R.RST_STATUS_DOMAIN 7 = 3 ∧ (fin (exec (.resetModule (resetOf 0 false)) sRun)).resets.map (·.domain) = [4] ∧
    answer (fin (exec (.resetDie (resetOf 5 false)) sRun)) = some (octRefused, rstBadDomain, []) ∧
    answer (fin (exec (.resetDie (resetOf (4 * 2 ^ 36) false)) oct)) = some (octRefused, rstNotRunning, []) := by decide +kernel

/-- A sequence of a domain at a stage: an engine of C0, C0, or half PM. -/
def rseq (domain stage : Nat) : ResetSeq :=
  { domain := domain, die := if domain = 3 then 1 else if domain = 4 then 0 else 4, block := if domain = 1 then 0x10 else 0, stage := stage,
    units := if domain = 1 then [(0x10, 0)] else [], regions := if domain = 2 then [4] else [] }

/-- The one sequence in progress, with a fill outstanding at C0, or with C0 held and its region STOPPED. -/
def sSeq (domain stage : Nat) : State := { sHang 2 0 with resets := [rseq domain stage] }
def sFilling : State := { sSeq 2 2 with fills := [{ die := 4, line := 0x500000000000 }] }
def sInReset : State := { on (sSeq 2 4) [(R.STREAM_REGION_STATE, 2, 0, 0, 4)] with held := [4] }

/-- ResetSequencesEnd: each domain in dusk, with requests outstanding and with none. -/
theorem wit_dusk : (∀ x ∈ [(1, 2), (2, 3), (3, 2), (4, 2)], restB (sSeq x.1 x.2) = true ∧ (sSeq x.1 x.2).resets = [rseq x.1 x.2] ∧ isDie (rseq x.1 x.2).die = true ∧
      (rseq x.1 x.2).die ∈ (rseq x.1 x.2).dies ∧ (sSeq x.1 x.2).dump = none ∧ (sSeq x.1 x.2).install = none ∧ (sSeq x.1 x.2).duskDry (rseq x.1 x.2) = true ∧
      (((sSeq x.1 x.2).setSeq (rseq x.1 x.2) { rseq x.1 x.2 with stage := 3 }).showRst (rseq x.1 x.2) 3).duskStill = true) ∧
    restB sFilling = true ∧ sFilling.duskDry (rseq 2 2) = false ∧ sFilling.resets = [rseq 2 2] ∧ (0x10, 0) ∈ (rseq 1 2).units ∧ (sSeq 1 2).lead 4 0 = 0 ∧
    isComp (rseq 2 2).die = true ∧ isHub (rseq 3 2).die = true := by decide +kernel

/-- ResetSequencesEnd: an engine and a die to be released, or not in time, with a larger domain and with none. -/
theorem wit_released : (∀ s ∈ [sSeq 1 4, sInReset, sSeq 3 4], restB s = true ∧ s.aon.powered = true ∧ s.dump = none ∧ s.install = none) ∧
    ((sSeq 1 4).quars = [] ∧ (rseq 1 4).replay = false ∧ (rseq 1 4).domain = 1 ∧ (sSeq 1 4).resets = [rseq 1 4]) ∧
    (sInReset.resets = [rseq 2 4] ∧ (rseq 2 4).domain = 2 ∧ hubOf 4 = 0 ∧ (rseq 2 4).stuck = [] ∧ sInReset.region 4 = 2 ∧ sInReset.parentOk 4 = true ∧
     (∀ c ∈ (rseq 2 4).regions, c = (rseq 2 4).die) ∧ (rseq 2 4).regions = [4] ∧ sInReset.starts = []) ∧
    ((sSeq 1 4).nextDomain (rseq 1 4)).isSome = true ∧ (sSeq 3 4).nextDomain (rseq 3 4) = none := by decide +kernel

/-- R423, R430 to R432. -/
theorem test_resetSequences :
    ((fin (exec (.duskDrained 4) (sSeq 1 2))).unit 4 0).inHand = [] ∧ (fin (exec (.duskDrained 4) (sSeq 2 3))).isHeld 4 = true ∧
    (fin (exec (.duskDrained 4) sFilling)).resets.map (·.stage) = [2] ∧ (fin (exec (.duskLimit 4 7) sFilling)).resets.map (·.forced) = [7] ∧
    (fin (exec (.duskDrained 1) (sSeq 3 2))).isHeld 7 = true ∧ (fin (exec (.duskDrained 0) (sSeq 4 2))).get R.RST_LAST_CAUSE 0 = 1 ∧
    (fin (exec (.resetReleased 4 []) (sSeq 1 4))).resets = [] ∧ (fin (exec (.resetReleased 4 []) sInReset)).region 4 = 4 ∧
    (fin (exec (.regionUnitsInitialised 4 true) (fin (exec (.resetReleased 4 []) sInReset)))).resets = [] ∧
    (fin (exec (.resetReleased 4 [4]) sInReset)).region 4 = 5 ∧ (fin (exec (.resetEscalate 4) (sSeq 1 4))).resets.map (·.domain) = [2] ∧
    (fin (exec (.resetEscalate 1) (sSeq 3 4))).region 2 = 5 := by decide +kernel

/-- A dump of no die, or of C0, in progress; and one whose destination's die is held. -/
def sDump (dies : List Nat) : State := { sRun with dump := some { dies := dies, seq := 3, start := 8, lost := dies.map (fun d => (d, 1024)) } }
def sDumpHeld : State := { sDump [] with held := [5] }

/-- DumpsAreWrittenOut: a dump that may begin, one that may not, and dumps that end in each way. -/
theorem wit_dumps : (∀ s ∈ [sRun, oct, sDump [], sDump [4], sDumpHeld], restB s = true ∧ s.clocked 0 5 = true ∧ s.resets = []) ∧
    (sRun.put R.DBG_DUMP_CTRL_DIES 1 0).dumpFits [4] = true ∧ (oct.put R.DBG_DUMP_CTRL_DIES 1 0).dumpFits [4] = false ∧ sRun.dump = none ∧ oct.dump = none ∧
    compDies.filter (fun d => bit 1 (d - 4)) = [4] ∧ (sDump []).dumpWritable = true ∧ sDumpHeld.dumpWritable = false ∧ (sDump []).mem.bad = [] ∧
    (sDump []).dump.isSome = true ∧
    (sDump []).judge { die := 0, part := none } (sDump []).dumpDest ((sDump []).dumpBytes { dies := [], seq := 3, start := 8 }).length = 0 := by decide +kernel

/-- R438, R439: a dump's header, with its number; a bank without answer makes it PARTIAL. -/
theorem test_dumps :
    (fin (exec (.dumpOnDemand 1) sRun)).dump.map (·.dies) = some [4] ∧ (fin (exec (.dumpOnDemand 1) oct)).get R.DBG_DUMP_STATUS_STATUS 0 = rstNoDest ∧
    (fin (exec .dumpDone (sDump []))).mem.read 0x500000000000 8 = leBytes 4 0x504D5544 ++ leBytes 4 0x30001 ∧
    (fin (exec .dumpDone (sDump []))).get R.DBG_DUMP_STATUS_STATUS 0 = rstOk ∧ (fin (exec .dumpDone sDumpHeld)).get R.DBG_DUMP_STATUS_STATUS 0 = rstDestFault ∧
    (fin (exec (.debugRingTimeout true 4 0) (sDump [4]))).dump = none ∧
    (fin (exec (.debugRingTimeout false 4 7) (sDump [4]))).dump.map (·.lost) = some [(4, 7), (4, 1024)] := by decide +kernel

/-- A line of the service UART: a read, and a write. -/
def uartRead (a : Nat) : List Byte := [0x52, 0x20] ++ hexText 10 a ++ [0x0A]
def uartWrite (a v : Nat) : List Byte := [0x57, 0x20] ++ hexText 10 a ++ [0x20] ++ hexText 16 v ++ [0x0A]

/-- A register of hub AM, and an address with no register. -/
def theCap : Nat := R.PWR_LIMITS.addr 0 0 0
def sTap (s : State) : State := { s with aon := { s.aon with mode := true } }

/-- TheServicePortReachesRegisters: each port with the access and without, a dump running and none, an address that is reached and one that is not. -/
theorem wit_j20 : (∀ s ∈ [live, sTap live, sDump [], sTap (sDump [])], restB s = true ∧ s.aon.powered = true) ∧
    (uartCommand (uartRead theCap) = some (theCap, none) ∧ uartCommand (uartWrite theCap 7) = some (theCap, some 7) ∧ uartCommand [0x52, 0x0A] = none ∧
     live.aon.mode = false ∧ (sTap live).aon.mode = true ∧ live.dump = none ∧ (sDump []).dump.isSome = true ∧ live.j20Status theCap = 0 ∧ live.j20Status 1 ≠ 0 ∧
     (sTap live).j20Status theCap = 0 ∧ (sTap live).j20Status 1 ≠ 0 ∧ theCap < 2 ^ 40) := by decide +kernel

/-- R443: a write, a read, and a register that does not exist (status 0B). -/
theorem test_j20 :
    (fin (exec (.j20UartCommand (uartWrite theCap 5000)) live)).get R.PWR_LIMITS_CAP 0 = 5000 ∧
    (fin (exec (.j20UartCommand (uartRead theCap)) live)).out = [.j20 0 (0x3D :: hexText 16 (live.rd R.PWR_LIMITS 0 0 0))] ∧
    (fin (exec (.j20UartCommand (uartRead 1)) live)).out = [.j20 0 [0x21, 0x30, 0x42]] ∧
    (fin (exec (.j20TapAccess theCap) (sTap live))).tap = (0, live.rd R.PWR_LIMITS 0 0 0) ∧
    (fin (exec (.j20TapAccess (theCap + 5000 * 2 ^ 40 + 2 ^ 104)) (sTap live))).get R.PWR_LIMITS_CAP 0 = 5000 := by decide +kernel

/-- AddressesPlaceTheirParts: a register, and a scratchpad byte of a core in service, of an excluded die, and of a core that is out. -/
theorem wit_addresses : regAt (R.ARB_REQ_CFG.addr 7 0x3FF 5) = some (R.ARB_REQ_CFG, 5) ∧ R.ARB_REQ_CFG.addr 7 0x3FF 5 < 2 ^ 40 ∧ theCap % 8 = 0 ∧
    (isComp 4 = true ∧ live.excluded 4 = false ∧ bit (live.get R.ID_UNITS_MC_PRESENT 4) 31 = true ∧ live.partOk { die := 0, part := none } (spadBase 4 31) = true) ∧
    (on live [(R.ID_DIE_EXCLUDED, 1, 4, 0, 0)]).excluded 4 = true ∧ bit ((on live [(R.ID_UNITS_MC_PRESENT, 1, 4, 0, 0)]).get R.ID_UNITS_MC_PRESENT 4) 31 = false := by decide +kernel

/-- AccessesAreJudgedByTheirLowestFault: an access whose fifth byte is the first to fault, and one that is free of fault. -/
theorem wit_judge : (∀ i < 4, live.kindAt { die := 0, part := none } (0x17FFFFFC + i) = 0) ∧ live.kindAt { die := 0, part := none } 0x18000000 = 1 ∧
    live.judge { die := 0, part := none } 0x17FFFFFC 8 = 1 ∧ live.judge { die := 0, part := none } 0x17FFFFF8 8 = 0 := by decide +kernel

/-- ArbiterWritesKeepTheirLimits: requesters of every kind of an arbiter whose region is STOPPED. -/
theorem wit_arbiterWrites : (sRegion 2).Rest ∧ (∀ i ∈ [0, 3, 5], (sRegion 2).Reaches R.ARB_REQ_CFG 4 0 i) ∧ (sRegion 2).Reaches R.ARB_CFG 4 0 0 ∧
    ((sRegion 2).aon.powered = true ∧ isDie 4 = true ∧ regionOf 4 0x05 0 = some 4 ∧ (sRegion 2).region 4 = 2 ∧ (sRegion 2).arbKind 4 0 0 = 1 ∧
     (sRegion 2).arbKind 4 0 3 = 2 ∧ (sRegion 2).arbKind 4 0 5 = 0) :=
  ⟨rest_of (by decide +kernel), fun i h => by
    simp only [List.mem_cons, List.not_mem_nil, or_false] at h
    rcases h with rfl | rfl | rfl <;> exact reach_of (by decide +kernel), reach_of (by decide +kernel), by decide +kernel⟩

/-- R317: CLASS 0, PREEMPT, and AGING of 0, of 15 and of 16. -/
theorem test_arbiterWrites :
    (fin (exec (.registerWrite (R.ARB_REQ_CFG.addr 4 0 3) 4) (sRegion 2))).get R.ARB_REQ_CFG_CLASS 4 0 3 = 1 ∧
    (fin (exec (.registerWrite (R.ARB_REQ_CFG.addr 4 0 3) 4) (sRegion 2))).get R.ARB_REQ_CFG_PREEMPT 4 0 3 = 1 ∧
    (fin (exec (.registerWrite (R.ARB_REQ_CFG.addr 4 0 0) 6) (sRegion 2))).get R.ARB_REQ_CFG_PREEMPT 4 0 0 = 0 ∧
    (fin (exec (.registerWrite (R.ARB_CFG.addr 4 0 0) 0) (sRegion 2))).get R.ARB_CFG_AGING 4 = 64 ∧
    (fin (exec (.registerWrite (R.ARB_CFG.addr 4 0 0) 15) (sRegion 2))).get R.ARB_CFG_AGING 4 = 16 := by decide +kernel

/-- Daybreak waits at step 4 for the staging buffer, with a full stream there, or with nothing. -/
def sAwaiting (b : List Byte) : State := mem [(stagingBase, b)] (on (sDay 4 oct) [(R.STREAM_DAYBREAK_WAITING, 1, 0, 0, 0)])

/-- GoAppliesTheStagedStream: a stream that validates, one that does not, no wait, and step 10 with the port up. -/
theorem wit_go : (∀ s ∈ [live, sAwaiting fullStream, sAwaiting [], sDay 10 live], restB s = true ∧ s.aon.powered = true) ∧
    live.waiting = false ∧ (sAwaiting fullStream).waiting = true ∧ (sAwaiting []).waiting = true ∧
    ((sAwaiting fullStream).validate (sAwaiting fullStream).staged none).toBool = true ∧ ((sAwaiting []).validate (sAwaiting []).staged none).toBool = false ∧
    (sDay 10 live).atStep 10 = true ∧ (sDay 10 live).flag R.ETH_STATUS_LINK_UP 0 = true := by decide +kernel

/-- R411. -/
theorem test_go : (daybreakGoEff (sAwaiting fullStream)).aon.step = 5 ∧ (daybreakGoEff (sAwaiting fullStream)).active = fullStream ∧
    (fin (exec .daybreakGo (sAwaiting []))).waiting = true ∧ (fin (exec .daybreakGo (sAwaiting []))).get R.STREAM_ERROR_STATUS 0 = 1 := by decide +kernel

/-- The firmware runs, and AON counts a number of cycles. -/
def sKick (n : Nat) : State := on live [(R.SEC_STATUS_FW_SLOT, 1, 0, 0, 0), (R.CLK_COUNT_COUNT, n, 0, 0, clkAON)]

/-- TheFirmwareMustKickItsWatchdog: at its limit, one cycle before it, and with no firmware. -/
theorem wit_watchdog : live.Rest ∧ (sKick 50000000).Rest ∧ (sKick 49999999).Rest ∧ (live.aon.powered = true ∧ live.fwRuns = false ∧ (sKick 50000000).fwRuns = true ∧
    (sKick 50000000).aon.kickAt + 50000000 ≤ (sKick 50000000).get R.CLK_COUNT_COUNT 0 0 clkAON ∧
    (sKick 49999999).get R.CLK_COUNT_COUNT 0 0 clkAON < (sKick 49999999).aon.kickAt + 50000000 ∧ (sKick 50000000).install = none) :=
  ⟨live_rest, rest_of (by decide +kernel), rest_of (by decide +kernel), by decide +kernel⟩

/-- R429. -/
theorem test_watchdog : (fin (exec .fwWatchdogExpire (sKick 50000000))).get R.RST_LAST_CAUSE 0 = 3 ∧ (fin (exec .fwWatchdogExpire (sKick 49999999))).aon.step = 11 ∧
    (fin (exec .rstKick (sKick 49999999))).aon.kickAt = 49999999 := by decide +kernel

/-- ResetLeavesTheModuleAtRest has no hypotheses; the registers after reset are those of the tables (R10). -/
theorem test_reset : State.reset.get R.PWR_LIMITS_CAP 0 = 5400 ∧ State.reset.region 0x10 = 2 ∧ State.reset.held = [1, 4, 5, 6, 7] := by decide +kernel

/-! ### The ill-formed commands -/

/-- Operands that are well formed, and one of each kind that is not. -/
def okH : OctHdr := { src := 0, port := 0, version := 0, session := 0, seq := 0 }
def okQ : MemReq := { tag := 0, die := 4, part := none, addr := 0, len := 0, write := false, plain := true, data := [], damage := [] }
def okP : RdmaPkt := ⟨0, 0, true, true, 0, false, 0, 0, 0, []⟩
def okF : Frame := { channel := 0, pass := 0, flags := 0, redId := 0, epoch := 0, step := 0, seg := 0, segs := 0, elems := 0, present := 0,
                     carried := 0, firstNf := 0, esc := 0, sender := 0, ext := [], payload := [] }
def okE : EthFrame := { kind := 0, len := 0, exts := false, src := 0, dst := 0, srcPort := 0, dstPort := 0, payload := [], rdma := none }
def okU : VUnit := { profile := .other, level := 0, tools := false, within := true, error := 0, frames := [], userData := [] }
def okB : ABlock := { rate := 0, pts := 0, samples := 0, channels := [] }
def okC : CapRec := { service := 0, channel := 0, lang := 0, duration := 0, pts := 0, text := [], bmW := 0, bmH := 0, page := 0, sub := false }
def okV : VFrame := { width := 0, height := 0, layout := 0, sample := 0, depth := 0, prim := 0, transfer := 0, matrix := 0, rgb := false, nits := 0, range := 0, pts := 0, key := false, blocks := [], damage := [], planes := [[]] }
def badH : OctHdr := { okH with port := 65536 }
def badQ : MemReq := { okQ with die := 2 }
def badP : RdmaPkt := { okP with op := 4 }
def badF : Frame := { okF with channel := 256 }
def badE : EthFrame := { okE with rdma := some badP }
def badU : VUnit := { okU with error := 16 }
def badB : ABlock := { okB with rate := 2 ^ 32 }
def badC : CapRec := { okC with service := 256 }

/-- Each field of an operand past its width. -/
theorem smoke_header : okH.wf = true ∧ ([{ okH with src := 2 ^ 128 }, { okH with port := 65536 }, { okH with version := 256 }, { okH with flags := 65536 },
     { okH with ctx := 256 }, { okH with status := 256 }, { okH with detailSrc := 256 }, { okH with detail := 256 },
     { okH with session := 2 ^ 32 }, { okH with seq := 2 ^ 32 }, { okH with length := 2 ^ 32 }, { okH with count := 2 ^ 32 },
     { okH with target := 2 ^ 64 }] : List OctHdr).all (fun x => !x.wf) = true := by decide
theorem smoke_memReq : okQ.wf = true ∧ ([{ okQ with die := 2 }, { okQ with part := some 4 }, { okQ with addr := 2 ^ 48 }, { okQ with len := 2 ^ 32 },
     { okQ with damage := [2 ^ 48] }] : List MemReq).all (fun x => !x.wf) = true := by decide
theorem smoke_packet : okP.wf = true ∧ ([{ okP with qp := 2 ^ 24 }, { okP with op := 4 }, { okP with psn := 2 ^ 24 }, { okP with va := 2 ^ 64 },
     { okP with rkey := 2 ^ 32 }, { okP with len := 2 ^ 32 }] : List RdmaPkt).all (fun x => !x.wf) = true := by decide
theorem smoke_frame : okF.wf = true ∧ ([{ okF with channel := 256 }, { okF with pass := 256 }, { okF with flags := 65536 }, { okF with redId := 65536 },
     { okF with epoch := 65536 }, { okF with step := 2 ^ 32 }, { okF with sender := 65536 }] : List Frame).all (fun x => !x.wf) = true := by decide
theorem smoke_ethFrame : okE.wf = true ∧ ([{ okE with len := 65536 }, { okE with src := 2 ^ 128 }, { okE with dst := 2 ^ 128 }, { okE with srcPort := 65536 },
     { okE with dstPort := 65536 }, { okE with rdma := some badP }] : List EthFrame).all (fun x => !x.wf) = true := by decide
theorem smoke_unit : okU.wf = true ∧ ([{ okU with error := 16 }, { okU with frames := [{ okV with width := 65536 }] },
     { okU with frames := [{ okV with height := 65536 }] }, { okU with frames := [{ okV with pts := 2 ^ 64 }] }, { okU with error := 5 },
     { okU with frames := [{ okV with layout := 16 }] }, { okU with frames := [{ okV with depth := 17 }] }, { okU with frames := [{ okV with sample := 2 }] },
     { okU with frames := [{ okV with planes := [] }] }, { okU with frames := [{ okV with blocks := [⟨0, 0, 0, 0⟩] }] },
     { okU with frames := [{ okV with rgb := true }] }] : List VUnit).all (fun x => !x.wf) = true := by decide
theorem smoke_audioBlock : okB.wf = true ∧ ([{ okB with rate := 2 ^ 32 }, { okB with pts := 2 ^ 64 }, { okB with samples := 2 ^ 32 }] : List ABlock).all (fun x => !x.wf) = true := by decide
theorem smoke_caption : okC.wf = true ∧ ([{ okC with service := 256 }, { okC with channel := 256 }, { okC with pts := 2 ^ 64 }, { okC with bmW := 65536 },
     { okC with bmH := 65536 }, { okC with page := 0x900 }] : List CapRec).all (fun x => !x.wf) = true := by decide

/-- Well-formed commands, one of each constructor (part 1). -/
theorem smoke_good1 :
    ([.registerWrite 0 0, .regionStop okH, .regionDrained 0, .drainTimeout 0, .regionLoad okH true, .regionStart okH,
     .regionUnitsInitialised 0 true, .mxcQtailWrite 4 0 0 0, .queueEnable 0 0 0 0 0, .queueResume 0 0 0 0, .tokenClear 4 0,
     .descriptorTake 4 0, .tokenWaitMet true 4 0 0, .productStart 4 0 0, .productComplete 4 0 0, .barrierComplete 4 0 0,
     .lockLimitExpire 4 0, .groupSleep 4 0 0, .groupWake 4 0 0, .accEccUncorr 4 0 0, .feedParity 4 0, .postChainStart 4 0,
     .chainComplete 4 0 0 0, .routedProductComplete 4 0 0, .tbEccUncorr 4 0 0, .spadQtailWrite 4 0 0 0, .moveTake 4 0,
     .moveComplete 4 0 0, .spadEccUncorr 4 0 0, .memoryRequest okQ, .rlcFillReturn 4 0, .rlcInvalidation 4 0,
     .patrolScrub 4 0 0 0, .dramRefresh 4 0 0, .farSpillAck 4 0 0 [], .reservoirPacket okP, .reservoirChunkComplete 0,
     .demuxChunk 0 0, .vdecUnit 0 0 okU, .adecAudioBlock 0 0 0 [], .adecCaption 0 0 0 [], .xformFrame 0 0, .tokenTile 0 0,
     .deliveryEntry 0 0, .deliveryConsumedPoll 0 0, .stageRoomResume 0 0 0, .permGenBlock 0, .permHostGo 0, .permHostDone 0,
     .shuffleEntry 0, .shuffleFlush 0, .seteBlock 0 0, .seteQtailWrite 0 0 0, .setDescTake 0, .setDescComplete 0 0, .stepBegin 0,
     .stepAdvance 0, .discardAccum 0, .discardAccumDone 0, .stepAbort 0] : List Instr).all Instr.wf = true := by decide

/-- Well-formed commands, one of each constructor (part 2). -/
theorem smoke_good2 :
    ([.updTableReport 4, .closingReductionIssue 0, .verdict 0, .updApplyDone 4, .verdictTimeout 0, .updCommitFault 4 0 0,
     .redQtailWrite 0 0, .redRequestTake 0, .redRequestStart 0, .exponentFrame 0 0 okF, .reduceScatterFrame 0 0 okF,
     .allGatherFrame 0 0 okF, .rollCallFrame 0 0 okF, .stragglerDecision 0, .redHang 0, .peerReplay 0 true, .peerLinkDown 0,
     .peerLinkUp 0 0 0 0 true, .peerLinkRetry 0 0 0 0 true, .allgatherShardFrame 0 0 okF, .gatherConsumedPoll 0, .permuteStart 0,
     .permuteMoveFrame 0 0 okF, .permuteComplete 0, .arbGrant 4 0 [], .arbAged 4 0 0, .arbFreeze 4 0 0, .weaveRetrain 4,
     .weaveTrainDone 4 true true, .weaveWordError 4 true true, .weaveDownRetry 4, .seamRetrain 0, .seamReceiverLock 0,
     .seamLaneTestEnd 0 0, .seamTrainingSet 0 [], .seamAgreeLimit 0, .seamConfirmEnd 0 true, .seamLossLimit 0, .seamUpStable 0,
     .seamDownRetry 0, .seamFlitError 0 true, .fence okH, .fenceProbe 0 0, .fenceWatermarkSend 0 0, .fenceWatermarkArrive 0 0,
     .fenceTimeout 0, .pllLockLost 4 0, .referenceLost 0, .powerApplied true, .vinSample 0, .powerLost, .powerReading 0 0,
     .powerMsBoundary [], .throttleStep 4, .thermalTrip 4 0, .coolantFault 0 0 0, .coolantClear 0 0 0, .emergencyReset,
     .ethSpeedTry, .ethLinkLoss] : List Instr).all Instr.wf = true := by decide

/-- Well-formed commands, one of each constructor (part 3). -/
theorem smoke_good3 :
    ([.ethSpeedsWrite 0, .ethRxFrame okE, .pfcRx 0 [], .pfcRefresh, .rdmaPacketRx okP, .rdmaCnpRx 0, .rdmaRateRecover 0,
     .rdmaAckTimeout 0, .qpLoad 0, .qpToError 0, .qpToReset 0, .negotiate okH, .close okH, .csrRead okH, .csrWrite okH,
     .memRead okH, .memWrite okH, .doorbell okH, .ctxOpen okH, .ctxClose okH, .ctxStopConfirmed 0, .ctxClosed 0,
     .ctxDrainLimit 0, .subscribe okH, .octSessionIdle 0 0 0, .attestIdentity okH, .attestReport okH, .installFw okH,
     .installStream okH, .prefer okH, .raiseSvn okH, .installBackgroundDone true, .daybreakStepComplete [], .daybreakGo,
     .pllLockTimeout 4 0, .weaveStepTimeout 4, .seamWaitTimeout, .peerStepTimeout, .ethStepTimeout, .announceRepeat,
     .watchdogExpire 4 0 0, .fwWatchdogExpire, .rstKick, .resetEngine okH, .resetDie okH, .resetHalf okH, .resetModule okH,
     .duskDrained 4, .duskLimit 4 0, .dumpDone, .debugRingTimeout true 4 0, .resetReleased 4 [], .resetEscalate 4,
     .quarantineTurnEnd 4 0, .replayWindowExpire 4 0, .dumpOnDemand 0, .j20UartCommand [], .j20TapAccess 0, .pcsLock 0,
     .emrstNRelease] : List Instr).all Instr.wf = true := by decide

/-- Well-formed commands, one of each constructor (part 4). -/
theorem smoke_good4 :
    ([.pauseQuantaExpire 0, .nakReceived 0] : List Instr).all Instr.wf = true := by decide

/-- An ill-formed command for each check (part 1). -/
theorem smoke_bad1 :
    ([.registerWrite (2 ^ 40) 0, .registerWrite 0 (2 ^ 64), .regionStop badH, .regionDrained 256, .drainTimeout 256,
     .regionLoad badH true, .regionStart badH, .regionUnitsInitialised 256 true, .mxcQtailWrite 3 0 0 0, .mxcQtailWrite 4 32 0 0,
     .mxcQtailWrite 4 0 64 0, .mxcQtailWrite 4 0 0 65536, .queueEnable 256 0 0 0 0, .queueEnable 0 16 0 0 0,
     .queueEnable 0 0 4096 0 0, .queueEnable 0 0 0 64 0, .queueEnable 0 0 0 0 32, .queueResume 256 0 0 0, .queueResume 0 16 0 0,
     .queueResume 0 0 4096 0, .queueResume 0 0 0 64, .tokenClear 3 0, .tokenClear 4 32, .descriptorTake 3 0,
     .descriptorTake 4 32, .tokenWaitMet true 3 0 0, .tokenWaitMet true 4 32 0, .tokenWaitMet true 4 0 64, .productStart 3 0 0,
     .productStart 4 32 0, .productStart 4 0 (2 ^ 64), .productComplete 3 0 0, .productComplete 4 32 0,
     .productComplete 4 0 (2 ^ 64), .barrierComplete 3 0 0, .barrierComplete 4 32 0, .barrierComplete 4 0 64,
     .lockLimitExpire 3 0, .lockLimitExpire 4 32, .groupSleep 3 0 0, .groupSleep 4 32 0, .groupSleep 4 0 (2 ^ 64),
     .groupWake 3 0 0, .groupWake 4 32 0, .groupWake 4 0 (2 ^ 64), .accEccUncorr 3 0 0, .accEccUncorr 4 32 0,
     .accEccUncorr 4 0 4, .feedParity 3 0, .feedParity 4 32, .postChainStart 3 0, .postChainStart 4 32, .chainComplete 3 0 0 0,
     .chainComplete 4 32 0 0, .chainComplete 4 0 (2 ^ 64) 0, .chainComplete 4 0 0 (2 ^ 64), .routedProductComplete 3 0 0,
     .routedProductComplete 4 32 0, .routedProductComplete 4 0 (2 ^ 64), .tbEccUncorr 3 0 0] : List Instr).all (fun c => !c.wf) = true := by decide

/-- An ill-formed command for each check (part 2). -/
theorem smoke_bad2 :
    ([.tbEccUncorr 4 32 0, .tbEccUncorr 4 0 8, .spadQtailWrite 3 0 0 0, .spadQtailWrite 4 32 0 0, .spadQtailWrite 4 0 64 0,
     .spadQtailWrite 4 0 0 65536, .moveTake 3 0, .moveTake 4 32, .moveComplete 3 0 0, .moveComplete 4 32 0,
     .moveComplete 4 0 (2 ^ 64), .spadEccUncorr 3 0 0, .spadEccUncorr 4 32 0, .spadEccUncorr 4 0 0x400000, .memoryRequest badQ,
     .rlcFillReturn 3 0, .rlcFillReturn 4 (2 ^ 48), .rlcInvalidation 3 0, .rlcInvalidation 4 (2 ^ 48), .patrolScrub 3 0 0 0,
     .patrolScrub 4 8 0 0, .patrolScrub 4 0 4 0, .patrolScrub 4 0 0 (2 ^ 48), .dramRefresh 3 0 0, .dramRefresh 4 8 0,
     .dramRefresh 4 0 32, .farSpillAck 3 0 0 [], .farSpillAck 4 32 0 [], .farSpillAck 4 0 (2 ^ 64) [], .reservoirPacket badP,
     .reservoirChunkComplete (2 ^ 24), .demuxChunk 2 0, .demuxChunk 0 16, .vdecUnit 2 0 okU, .vdecUnit 0 16 okU,
     .vdecUnit 0 0 badU, .adecAudioBlock 2 0 0 [], .adecAudioBlock 0 16 0 [], .adecAudioBlock 0 0 16 [],
     .adecAudioBlock 0 0 0 [badB], .adecCaption 2 0 0 [], .adecCaption 0 16 0 [], .adecCaption 0 0 16 [],
     .adecCaption 0 0 0 [badC], .xformFrame 2 0, .xformFrame 0 16, .tokenTile 2 0, .tokenTile 0 16, .deliveryEntry 2 0,
     .deliveryEntry 0 256, .deliveryConsumedPoll 2 0, .deliveryConsumedPoll 0 256, .stageRoomResume 2 0 0,
     .stageRoomResume 0 256 0, .stageRoomResume 0 0 256, .permGenBlock 2, .permHostGo 2, .permHostDone 2, .shuffleEntry 2,
     .shuffleFlush 2] : List Instr).all (fun c => !c.wf) = true := by decide

/-- An ill-formed command for each check (part 3). -/
theorem smoke_bad3 :
    ([.seteBlock 2 0, .seteBlock 0 4, .seteQtailWrite 2 0 0, .seteQtailWrite 0 64 0, .seteQtailWrite 0 0 65536, .setDescTake 2,
     .setDescComplete 2 0, .setDescComplete 0 (2 ^ 64), .stepBegin 4, .stepAdvance 4, .discardAccum 4, .discardAccumDone 4,
     .stepAbort 4, .updTableReport 3, .closingReductionIssue 4, .verdict 4, .updApplyDone 3, .verdictTimeout 4,
     .updCommitFault 3 0 0, .updCommitFault 4 65536 0, .updCommitFault 4 0 (2 ^ 48), .redQtailWrite 32 0, .redQtailWrite 0 65536,
     .redRequestTake 32, .redRequestStart 32, .exponentFrame 32 0 okF, .exponentFrame 0 4 okF, .exponentFrame 0 0 badF,
     .reduceScatterFrame 32 0 okF, .reduceScatterFrame 0 4 okF, .reduceScatterFrame 0 0 badF, .allGatherFrame 32 0 okF,
     .allGatherFrame 0 4 okF, .allGatherFrame 0 0 badF, .rollCallFrame 32 0 okF, .rollCallFrame 0 4 okF, .rollCallFrame 0 0 badF,
     .stragglerDecision 32, .redHang 32, .peerReplay 16 true, .peerLinkDown 16, .peerLinkUp 16 0 0 0 true,
     .peerLinkUp 0 256 0 0 true, .peerLinkUp 0 0 256 0 true, .peerLinkUp 0 0 0 65536 true, .peerLinkRetry 16 0 0 0 true,
     .peerLinkRetry 0 256 0 0 true, .peerLinkRetry 0 0 256 0 true, .peerLinkRetry 0 0 0 65536 true,
     .allgatherShardFrame 32 0 okF, .allgatherShardFrame 0 4 okF, .allgatherShardFrame 0 0 badF, .gatherConsumedPoll 32,
     .permuteStart 32, .permuteMoveFrame 32 0 okF, .permuteMoveFrame 0 4 okF, .permuteMoveFrame 0 0 badF, .permuteComplete 32,
     .arbGrant 2 0 [], .arbGrant 4 4096 []] : List Instr).all (fun c => !c.wf) = true := by decide

/-- An ill-formed command for each check (part 4). -/
theorem smoke_bad4 :
    ([.arbGrant 4 0 [(256, 0)], .arbGrant 4 0 [(0, 65536)], .arbAged 2 0 0, .arbAged 4 4096 0, .arbAged 4 0 4, .arbFreeze 2 0 0,
     .arbFreeze 4 4096 0, .arbFreeze 4 0 (2 ^ 64), .weaveRetrain 3, .weaveTrainDone 3 true true, .weaveWordError 3 true true,
     .weaveDownRetry 3, .seamRetrain 2, .seamReceiverLock 2, .seamLaneTestEnd 2 0, .seamLaneTestEnd 0 (2 ^ 64),
     .seamTrainingSet 2 [], .seamAgreeLimit 2, .seamConfirmEnd 2 true, .seamLossLimit 2, .seamUpStable 2, .seamDownRetry 2,
     .seamFlitError 2 true, .fence badH, .fenceProbe (2 ^ 32) 0, .fenceProbe 0 65536, .fenceWatermarkSend (2 ^ 32) 0,
     .fenceWatermarkSend 0 65536, .fenceWatermarkArrive (2 ^ 32) 0, .fenceWatermarkArrive 0 65536, .fenceTimeout (2 ^ 32),
     .pllLockLost 2 0, .pllLockLost 4 16, .referenceLost 2, .vinSample 65536, .powerReading 65536 0, .powerReading 0 65536,
     .powerMsBoundary [(2, 0)], .powerMsBoundary [(4, 256)], .throttleStep 2, .thermalTrip 2 0, .thermalTrip 4 256,
     .coolantFault 256 0 0, .coolantFault 0 256 0, .coolantFault 0 0 65536, .coolantClear 256 0 0, .coolantClear 0 256 0,
     .coolantClear 0 0 65536, .ethSpeedsWrite 8, .ethRxFrame badE, .pfcRx 256 [], .pfcRx 0 [65536], .rdmaPacketRx badP,
     .rdmaCnpRx (2 ^ 24), .rdmaRateRecover (2 ^ 24), .rdmaAckTimeout (2 ^ 24), .qpLoad (2 ^ 24), .qpToError (2 ^ 24),
     .qpToReset (2 ^ 24), .negotiate badH] : List Instr).all (fun c => !c.wf) = true := by decide

/-- An ill-formed command for each check (part 5). -/
theorem smoke_bad5 :
    ([.close badH, .csrRead badH, .csrWrite badH, .memRead badH, .memWrite badH, .doorbell badH, .ctxOpen badH, .ctxClose badH,
     .ctxStopConfirmed 64, .ctxClosed 64, .ctxDrainLimit 64, .subscribe badH, .octSessionIdle (2 ^ 128) 0 0,
     .octSessionIdle 0 65536 0, .octSessionIdle 0 0 (2 ^ 32), .attestIdentity badH, .attestReport badH, .installFw badH,
     .installStream badH, .prefer badH, .raiseSvn badH, .daybreakStepComplete [(256, 0)], .daybreakStepComplete [(0, 4096)],
     .pllLockTimeout 2 0, .pllLockTimeout 4 16, .weaveStepTimeout 3, .watchdogExpire 2 0 0, .watchdogExpire 4 256 0,
     .watchdogExpire 4 0 4096, .resetEngine badH, .resetDie badH, .resetHalf badH, .resetModule badH, .duskDrained 2,
     .duskLimit 2 0, .duskLimit 4 (2 ^ 32), .debugRingTimeout true 2 0, .debugRingTimeout true 4 65536, .resetReleased 2 [],
     .resetReleased 4 [16], .resetEscalate 2, .quarantineTurnEnd 2 0, .quarantineTurnEnd 4 4096, .replayWindowExpire 2 0,
     .replayWindowExpire 4 4096, .dumpOnDemand 256, .j20TapAccess (2 ^ 105), .pcsLock 256, .pauseQuantaExpire 8,
     .nakReceived (2 ^ 24)] : List Instr).all (fun c => !c.wf) = true := by decide

end Sys2Proof.Tests
end

section
/-!
PROOFS. Control-register addresses (R5) and what stands at them (R8, R31): an address at which a register stands is that
register's own address for the die, block, unit and index that the address names.
-/

namespace Sys2Proof.Machine

/-- R31: the registers of a block code carry that code. -/
theorem R.block_of_mem_blockRegs : ∀ b < 256, ∀ r ∈ R.blockRegs b, r.block = b := by decide +kernel

/-- R5: a control-register address is the sum of its parts. -/
theorem csr_parts {a : Nat} (h : a < 2 ^ 40) :
    a = csrDie a * 2 ^ 36 + csrBlock a * 2 ^ 28 + csrInst a * 2 ^ 16 + csrOff a := by
  unfold csrDie csrBlock csrInst csrOff
  omega

theorem csrBlock_lt (a : Nat) : csrBlock a < 256 := Nat.mod_lt _ (by decide)
theorem csrInst_lt (a : Nat) : csrInst a < 4096 := Nat.mod_lt _ (by decide)

/-- An offset falls in a register at an index only where that index stands, and only at an index that the register has. -/
theorem RegDef.off_of_index? {r : RegDef} {off i : Nat} (h : r.index? off = some i) :
    off = r.off + r.stride * i ∧ i < max 1 r.count := by
  unfold RegDef.index? at h
  split at h
  · cases h
  next hlo =>
    split at h
    next hst =>
      split at h
      next heq =>
        cases h
        exact ⟨by rw [heq, Nat.mul_zero, Nat.add_zero], by omega⟩
      · cases h
    · split at h
      next hmod =>
        obtain ⟨hdvd, hlt⟩ := hmod
        cases h
        rw [Nat.mul_div_cancel' (Nat.dvd_of_mod_eq_zero hdvd)]
        exact ⟨by omega, by omega⟩
      · cases h

/-- R8, R31: everything that a register standing at an address says of the address. -/
theorem regAt_some {a : Nat} {r : RegDef} {i : Nat} (h : regAt a = some (r, i)) :
    a % 8 = 0 ∧ a < 2 ^ 40 ∧ blockHas (csrDie a) r.block (csrInst a) = true ∧ r.block = csrBlock a ∧
      csrOff a = r.off + r.stride * i ∧ i < max 1 r.count := by
  unfold regAt at h
  dsimp only at h
  split at h
  · cases h
  next hok =>
    obtain ⟨q, hq, hqi⟩ := List.exists_of_findSome?_eq_some h
    split at hqi
    · obtain ⟨j, hj, hji⟩ := Option.map_eq_some_iff.1 hqi
      cases hji
      have hb : r.block = csrBlock a := R.block_of_mem_blockRegs _ (csrBlock_lt a) r hq
      simp only [not_or, Bool.not_eq_true', Bool.not_eq_false, Nat.not_le, ne_eq, Decidable.not_not] at hok
      obtain ⟨h8, h40, hhas⟩ := hok
      exact ⟨h8, h40, hb ▸ hhas, hb, RegDef.off_of_index? hj⟩
    · cases hqi

/-- R5: the register standing at an address has it as its own. -/
theorem regAt_addr {a : Nat} {r : RegDef} {i : Nat} (h : regAt a = some (r, i)) : a = r.addr (csrDie a) (csrInst a) i := by
  obtain ⟨_, h40, _, hb, ho, _⟩ := regAt_some h
  have hp := csr_parts h40
  rw [RegDef.addr, hb, Nat.add_assoc, ← ho]
  exact hp

/-- R5: a register's addresses on different dies and units differ. -/
theorem RegDef.addr_inj {r : RegDef} {d d' j j' i : Nat} (hj : j < 4096) (hj' : j' < 4096)
    (h : r.addr d j i = r.addr d' j' i) : d = d' ∧ j = j' := by
  simp only [RegDef.addr] at h
  omega

/-- What is reached at an address stands there (R8). -/
theorem State.regAt_of_regHere {s : State} {a : Nat} {p : RegDef × Nat} (h : s.regHere a = some p) : regAt a = some p := by
  unfold State.regHere at h
  cases hr : regAt a with
  | none => simp [hr] at h
  | some q =>
    obtain ⟨r, i⟩ := q
    simp only [hr, Option.ite_none_left_eq_some] at h
    obtain ⟨_, _, _, _, h⟩ := h
    exact h

/-- The address of a register reached names its die, block and unit, the block stands there, and the register has the index. -/
theorem State.Reaches.addr_parts {s : State} {r : RegDef} {die inst i : Nat} (h : s.Reaches r die inst i) (hi : inst < 4096) :
    csrDie (r.addr die inst i) = die ∧ csrInst (r.addr die inst i) = inst ∧ csrBlock (r.addr die inst i) = r.block ∧
      r.addr die inst i < 2 ^ 40 ∧ blockHas die r.block inst = true ∧ i < max 1 r.count := by
  obtain ⟨_, hhere, _, _⟩ := h
  have hat := State.regAt_of_regHere hhere
  obtain ⟨_, h40, hhas, hb, _, hidx⟩ := regAt_some hat
  have haddr := regAt_addr hat
  obtain ⟨hdie, hinst⟩ := RegDef.addr_inj hi (csrInst_lt _) haddr
  rw [← hdie, ← hinst] at hhas
  exact ⟨hdie.symm, hinst.symm, hb.symm, h40, hhas, hidx⟩

end Sys2Proof.Machine
end

section
/-!
PROOFS. Addresses (R5, R6, R36) and the state after reset (R10, R71, R407, R419).
-/

namespace Sys2Proof.Machine

/-- R161: home DRAM ends below the scratchpads, however many stacks are in service. -/
theorem State.homeSize_le (s : State) (d : Nat) : s.homeSize d ≤ 0x8000000000 := by
  have h : (s.stacks d).length ≤ 8 := by
    simpa [State.stacks] using List.length_filter_le (fun i => bit (s.get R.ID_UNITS_STACK_PRESENT d) i) (List.range 8)
  unfold State.homeSize
  omega

/-- R6, R36: where the address of a byte of a core's scratchpad lies. -/
theorem spad_parts {die m o : Nat} (hd : die < 16) (hm : m < 32) (ho : o < 0x400000) :
    spadBase die m + o < 2 ^ 48 ∧ addrDie (spadBase die m + o) = die ∧
      addrOff (spadBase die m + o) = 0x0F0000000000 + m * 0x400000 + o := by
  unfold addrDie addrOff spadBase
  omega

/-- R1: a compute die's code is a die code of four bits, and neither a hub's nor the far window's. -/
theorem isComp_code {die : Nat} (h : isComp die = true) : die < 16 ∧ die ≠ 14 ∧ isHub die = false := by
  simp only [isComp, Bool.or_eq_true, beq_iff_eq] at h
  rcases h with ((rfl | rfl) | rfl) | rfl <;> decide

/-- R36, R37, R171: how a byte of a core's scratchpad is judged. -/
theorem State.kindAt_spad (s : State) (w : Who) {die m o : Nat} (hc : isComp die = true) (hm : m < 32) (ho : o < 0x400000) :
    s.kindAt w (spadBase die m + o) =
      if s.excluded die then 3
      else if bit (s.get R.ID_UNITS_MC_PRESENT die) m then (if s.partOk w (spadBase die m + o) then 0 else 4) else 3 := by
  obtain ⟨hd, hE, hh⟩ := isComp_code hc
  obtain ⟨h48, hdie, hoff⟩ := spad_parts hd hm ho
  have hhome : ¬ 0x0F0000000000 + m * 0x400000 + o < s.homeSize die := by
    have := s.homeSize_le die
    omega
  have hspad : 0x0F0000000000 ≤ 0x0F0000000000 + m * 0x400000 + o ∧
      0x0F0000000000 + m * 0x400000 + o < 0x0F0008000000 := by omega
  have hcore : (0x0F0000000000 + m * 0x400000 + o - 0x0F0000000000) / 0x400000 = m := by omega
  unfold State.kindAt
  dsimp only
  rw [hdie, hoff, if_neg (Nat.not_le.2 h48), if_neg hE, if_neg (by simp [hh]), if_pos hc, if_neg hhome, if_pos hspad, hcore]

/-- A control-register access at an address that is not 8-byte aligned reaches nothing (R5). -/
theorem State.accessStatus_unaligned (s : State) (oct : Bool) {a : Nat} (h : a % 8 ≠ 0) :
    s.accessStatus oct a = octNoRegister := by
  unfold State.accessStatus
  exact if_pos (.inl h)

end Sys2Proof.Machine

namespace Sys2Proof.Proofs
open Sys2Proof.Machine

/-- Settles O55: the arithmetic of R5 and R6, the register standing at an address, and the judgement of a scratchpad byte. -/
theorem addressesPlaceTheirParts : Obligations.AddressesPlaceTheirParts := by
  refine ⟨fun a ha => ?_, fun a r i h => ⟨regAt_addr h, (regAt_some h).1⟩, fun s r die inst i v => s.rd_wr_same r die inst i v,
    fun s oct a h => ?_, fun a ha => ?_, rfl, fun s w die m o hc hm ho => ?_⟩
  · unfold csrDie csrBlock csrInst csrOff
    omega
  · rw [s.accessStatus_unaligned oct h]
    decide
  · unfold addrDie addrOff
    omega
  · have hbase : die * 2 ^ 44 + (0x0F0000000000 + m * 0x400000) + o = spadBase die m + o := by
      unfold spadBase
      omega
    dsimp only
    rw [hbase]
    refine ⟨fun hex hin hok => ?_, fun hout => ?_, rfl⟩
    · simp [s.kindAt_spad w hc hm ho, hex, hin, hok]
    · rw [s.kindAt_spad w hc hm ho]
      rcases hout with hex | hin
      · simp [hex]
      · simp [hin]

/-- Settles O57: every field of the reset state is its default, and an unlisted register reads its table's reset value. -/
theorem resetLeavesTheModuleAtRest : Obligations.ResetLeavesTheModuleAtRest :=
  ⟨State.Rest.reset, rfl, rfl, rfl, rfl, rfl, rfl, rfl, by decide, by decide, by decide, by decide, by decide, fun _ => rfl⟩

end Sys2Proof.Proofs
end

section
/-!
PROOFS. REGISTER_WRITE (R9, R12, R13, R72): what a write makes of a register's fields, and where it acts on a register that a
command reaches.
-/

namespace Sys2Proof.Machine

/-! ### A write acts on each field by its own code (R12) -/

/-- Two fields of a register that have no bit in common. -/
abbrev FieldDef.Apart (f g : FieldDef) : Prop := f.lo + f.width ≤ g.lo ∨ g.lo + g.width ≤ f.lo

/-- A field reads alike in numbers whose bits in it are the same. -/
theorem bits_congr {x y lo w : Nat} (h : ∀ k, lo ≤ k → k < lo + w → x.testBit k = y.testBit k) : bits x lo w = bits y lo w := by
  apply Nat.eq_of_testBit_eq
  intro k
  rw [bits_testBit, bits_testBit]
  by_cases hk : k < w
  · rw [h _ (Nat.le_add_right ..) (by omega)]
  · simp [hk]

/-- A field reads as it was set, in a number of any size. -/
theorem bits_setBits_same (x lo w v : Nat) : bits (setBits x lo w v) lo w = v % 2 ^ w := by
  apply Nat.eq_of_testBit_eq
  intro k
  rw [bits_testBit, setBits_testBit, Nat.testBit_mod_two_pow]
  by_cases hk : k < w
  · have hlo : ¬ lo + k < lo := by omega
    have hhi : lo + k < lo + w := by omega
    rw [if_neg hlo, if_pos hhi, Nat.add_sub_cancel_left]
  · simp only [hk, decide_false, Bool.false_and]

/-- Setting fields leaves a bit outside them all alone. -/
theorem foldl_setBits_testBit_outside (g : FieldDef → Nat) {k : Nat} (l : List FieldDef) (x : Nat)
    (h : ∀ f ∈ l, k < f.lo ∨ f.lo + f.width ≤ k) :
    (l.foldl (fun x f => setBits x f.lo f.width (g f)) x).testBit k = x.testBit k := by
  induction l generalizing x with
  | nil => rfl
  | cons e t ih =>
    rw [List.foldl_cons, ih _ (fun f hf => h f (List.mem_cons_of_mem _ hf)), setBits_testBit]
    rcases h e (List.mem_cons_self ..) with hk | hk
    · rw [if_pos hk]
    · rw [if_neg (by omega), if_neg (by omega)]

/-- Of fields that are apart, each reads as it was set. -/
theorem bits_foldl_setBits (g : FieldDef → Nat) {f : FieldDef} (l : List FieldDef) (x : Nat) (hl : l.Pairwise FieldDef.Apart)
    (hf : f ∈ l) : bits (l.foldl (fun x f => setBits x f.lo f.width (g f)) x) f.lo f.width = g f % 2 ^ f.width := by
  induction l generalizing x with
  | nil => cases hf
  | cons e t ih =>
    obtain ⟨he, ht⟩ := List.pairwise_cons.1 hl
    rw [List.foldl_cons]
    rcases List.mem_cons.1 hf with rfl | hf
    · rw [← bits_setBits_same x f.lo f.width (g f)]
      refine bits_congr fun k hlo hhi => foldl_setBits_testBit_outside g t _ fun q hq => ?_
      have hap := he q hq
      unfold FieldDef.Apart at hap
      omega
    · exact ih _ ht hf

/-- What a write makes of a field fits the field. -/
theorem fieldWrite_lt (old v : Nat) (f : FieldDef) : fieldWrite old v f < 2 ^ f.width := by
  have ho := bits_lt old f.lo f.width
  have hn := bits_lt v f.lo f.width
  unfold fieldWrite
  cases f.acc with
  | rw | rwl => exact hn
  | w1c => exact Nat.lt_of_le_of_lt Nat.and_le_left ho
  | w1s => exact Nat.or_lt_two_pow ho hn
  | ro | wo | rc => exact ho

theorem bits_regMerge {r : RegDef} (old v : Nat) {f : FieldDef} (hr : r.fields.Pairwise FieldDef.Apart) (hf : f ∈ r.fields) :
    bits (regMerge r old v) f.lo f.width = fieldWrite old v f := by
  rw [regMerge, bits_foldl_setBits (fieldWrite old v) _ _ hr hf, Nat.mod_eq_of_lt (fieldWrite_lt old v f)]

theorem regMerge_testBit_outside {r : RegDef} (old v : Nat) {k : Nat} (h : ∀ f ∈ r.fields, k < f.lo ∨ f.lo + f.width ≤ k) :
    (regMerge r old v).testBit k = old.testBit k :=
  foldl_setBits_testBit_outside (fieldWrite old v) r.fields old h

/-! ### Registers whose writes have no other effect (R9) -/

/-- The registers that act on a write beyond their fields' codes, outside the blocks that judge every write. -/
def actingRegs : List RegDef :=
  [R.MXC_CTRL, R.RED_CH_TIMING, R.RED_CH_ROUTE, R.ARB_REQ_CFG, R.ARB_CFG, R.ARB_FREEZE, R.WEAVE_CTRL, R.SEAM_CTRL, R.ETH_CFG,
   R.OCT_CFG, R.OCT_SUB_CFG, R.RDMA_QP, R.RST_KICK, R.STREAM_DAYBREAK]

/-- The registers of a queue that its own rules govern (R84, R104). -/
def QRegs.regs (q : QRegs) : List RegDef :=
  [q.tail.reg, q.head.reg, q.enable.reg, q.base.reg, q.cqbase.reg, q.cqhead.reg, q.cqtail.reg]

/-- A register whose write is its fields' codes alone, wherever it stands. -/
def RegDef.isPlain (r : RegDef) : Bool :=
  !actingRegs.contains r && !([0x03, 0x07, 0x63].contains r.block) && (qOf r.block).all (fun q => !q.regs.contains r) &&
  !(r.block == 0x35 && decide (0x100 ≤ r.off) && decide (r.off ≤ 0x130))

/-- R9, R12: a write to a plain register merges its fields. -/
theorem State.regSet_plain (s : State) {r : RegDef} (h : r.isPlain = true) (die inst i v : Nat) (hctx : Option Nat) :
    s.regSet die inst r i v hctx = (s.plainWrite die inst r i v, wOk) := by
  simp only [RegDef.isPlain, actingRegs, Bool.and_eq_true, Bool.not_eq_true', List.contains_cons, List.contains_nil,
    Bool.or_eq_false_iff, beq_eq_false_iff_ne, ne_eq, Bool.or_false] at h
  obtain ⟨⟨⟨hact, hblock⟩, hq⟩, hperm⟩ := h
  have hperm' : ¬ (r.block = 0x35 ∧ 0x100 ≤ r.off ∧ r.off ≤ 0x130) := by
    simpa [and_assoc] using hperm
  cases hqof : qOf r.block with
  | none => simp [State.regSet, hqof, hact, hblock, hperm']
  | some q =>
    have hnot : ¬ r ∈ q.regs := by simpa [hqof] using hq
    simp only [QRegs.regs, List.mem_cons, List.not_mem_nil, or_false] at hnot
    simp [State.regSet, hqof, hnot, hact, hblock, hperm']

/-! ### A register that a write reaches -/

theorem exec_registerWrite_eq (a v : Nat) (s : State) : exec (.registerWrite a v) s = execRegisterWrite a v s := rfl

theorem wf_registerWrite {a v : Nat} (ha : a < 2 ^ 40) (hv : v < 2 ^ 64) : Instr.wf (.registerWrite a v) = true := by
  rw [Instr.wf, decide_eq_true ha, decide_eq_true hv, Bool.and_self]

/-- R8, R9: REGISTER_WRITE, with the module powered, is the write at the address, where that reaches a register. -/
theorem exec_registerWrite_reached {s : State} {a v : Nat} (hp : s.aon.powered = true) (ha : a < 2 ^ 40) (hv : v < 2 ^ 64)
    (hacc : s.accessStatus false a = 0) : exec (.registerWrite a v) s = s.ends (s.regWrite a v none).1 := by
  rw [exec_registerWrite_eq, execRegisterWrite, wf_registerWrite ha hv, hp, Bool.and_self, State.when_true, registerWriteEff,
    State.csrStore, hacc, Nat.mod_eq_of_lt hv]
  rfl

section
variable {s : State} {a die inst i : Nat} {r : RegDef}

/-- R12: a register in service without an RWL field takes a write as it is. -/
theorem State.regWrite_free (hhere : s.regHere a = some (r, i)) (hdie : csrDie a = die) (hinst : csrInst a = inst)
    (hout : s.unitOut die r.block inst = false) (hidle : s.regIdle die inst r i = false) (hr : hasRwl r = false) (v : Nat) :
    s.regWrite a v none = s.regSet die inst r i v none := by
  cases hc : regionOf die r.block inst with
  | none => simp [State.regWrite, hhere, hdie, hinst, hout, hidle, hc]
  | some c => simp [State.regWrite, hhere, hdie, hinst, hout, hidle, hc, hr]

/-- R72: a register in service with an RWL field takes a write only while its region allows it. -/
theorem State.regWrite_rwl {c : Nat} (hhere : s.regHere a = some (r, i)) (hdie : csrDie a = die) (hinst : csrInst a = inst)
    (hout : s.unitOut die r.block inst = false) (hidle : s.regIdle die inst r i = false) (hr : hasRwl r = true)
    (hc : regionOf die r.block inst = some c) (v : Nat) :
    s.regWrite a v none =
      if s.rwlOpen c then
        (if (s.regSet die inst r i v none).2 = wOk then (s.regSet die inst r i v none).1.rwlAccept c
          else (s.regSet die inst r i v none).1, (s.regSet die inst r i v none).2)
      else (s.rwlReject, wRefused 1 0x17) := by
  simp [State.regWrite, hhere, hdie, hinst, hout, hidle, hc, hr]

end

/-- REGISTER_WRITE to a register reached that has no RWL field: what its register makes of it. -/
theorem State.Reaches.exec_free {v : Nat} {s : State} {r : RegDef} {die inst i : Nat} (h : s.Reaches r die inst i)
    (hi : inst < 4096) (hp : s.aon.powered = true) (hv : v < 2 ^ 64) (hr : hasRwl r = false) :
    exec (.registerWrite (r.addr die inst i) v) s = s.ends (s.regSet die inst r i v none).1 := by
  obtain ⟨hdie, hinst, _, h40, _, _⟩ := h.addr_parts hi
  obtain ⟨hacc, hhere, hout, hidle⟩ := h
  rw [exec_registerWrite_reached hp h40 hv hacc, State.regWrite_free hhere hdie hinst hout hidle hr]

/-- REGISTER_WRITE to a register reached that has an RWL field, in a region that takes no such write: it is counted. -/
theorem State.Reaches.exec_rwl_shut {v c : Nat} {s : State} {r : RegDef} {die inst i : Nat} (h : s.Reaches r die inst i)
    (hi : inst < 4096) (hp : s.aon.powered = true) (hv : v < 2 ^ 64) (hr : hasRwl r = true)
    (hc : regionOf die r.block inst = some c) (hshut : s.rwlOpen c = false) :
    exec (.registerWrite (r.addr die inst i) v) s = s.ends s.rwlReject := by
  obtain ⟨hdie, hinst, _, h40, _, _⟩ := h.addr_parts hi
  obtain ⟨hacc, hhere, hout, hidle⟩ := h
  rw [exec_registerWrite_reached hp h40 hv hacc, State.regWrite_rwl hhere hdie hinst hout hidle hr hc, hshut]
  rfl

/-- REGISTER_WRITE to a register reached that has an RWL field, in a region that takes it: it is done and marked (R73). -/
theorem State.Reaches.exec_rwl_open {v c : Nat} {s t : State} {r : RegDef} {die inst i : Nat} (h : s.Reaches r die inst i)
    (hi : inst < 4096) (hp : s.aon.powered = true) (hv : v < 2 ^ 64) (hr : hasRwl r = true)
    (hc : regionOf die r.block inst = some c) (hopen : s.rwlOpen c = true) (hset : s.regSet die inst r i v none = (t, wOk)) :
    exec (.registerWrite (r.addr die inst i) v) s = s.ends (t.rwlAccept c) := by
  obtain ⟨hdie, hinst, _, h40, _, _⟩ := h.addr_parts hi
  obtain ⟨hacc, hhere, hout, hidle⟩ := h
  rw [exec_registerWrite_reached hp h40 hv hacc, State.regWrite_rwl hhere hdie hinst hout hidle hr hc, hopen, hset]
  rfl

/-- Writing a register other than the trace's leaves a state at rest. -/
theorem State.Rest.wr {s : State} (h : s.Rest) (r : RegDef) (die inst i v : Nat)
    (hr : R.DBG_TRACE_CFG.addr 0 0 0 ≠ r.addr die inst i) : (s.wr r die inst i v).Rest := by
  obtain ⟨⟨hq, hbusy, hwait, htrace⟩, hsound⟩ := h
  refine ⟨⟨hq, hbusy, hwait, ?_⟩, hsound⟩
  rw [State.flag, State.get] at htrace ⊢
  rwa [State.rd_wr_ne s v (q := R.DBG_TRACE_CFG_EN.reg) hr]

/-- A register reached of another block is not the trace's. -/
theorem State.Reaches.addr_ne_trace {s : State} {r : RegDef} {die inst i : Nat} (h : s.Reaches r die inst i) (hi : inst < 4096)
    (hb : r.block ≠ 0x07) : R.DBG_TRACE_CFG.addr 0 0 0 ≠ r.addr die inst i := by
  obtain ⟨_, _, hblock, _, _, _⟩ := h.addr_parts hi
  intro heq
  rw [← heq] at hblock
  exact hb (hblock.symm.trans (by decide))

end Sys2Proof.Machine
end

section
/-!
PROOFS. REGISTER_WRITE to the error registers and to the vector engine's operation table (R9, R12, R13, R72).
-/

namespace Sys2Proof.Machine

/-! ### Error registers -/

/-- R13: an error register's fields are apart, and each is W1C or not to be written. -/
theorem errorRegs_fields : ∀ r ∈ errorRegs, r.fields.Pairwise FieldDef.Apart ∧ ∀ f ∈ r.fields, f.acc = .w1c ∨ f.acc = .ro := by
  decide +kernel

theorem errorRegs_plain : ∀ r ∈ errorRegs, r ≠ R.STEP_ERROR → r ≠ R.PWR_ERROR → r.isPlain = true := by decide +kernel

theorem errorRegs_noRwl : ∀ r ∈ errorRegs, hasRwl r = false := by decide +kernel

theorem errorRegs_notTrace : ∀ r ∈ errorRegs, r.block ≠ 0x07 := by decide +kernel

/-- A write to an error register does what its fields' codes say and nothing more: the two whose block has writes of its own
stand in unit 0, and STEP's on hub AM. -/
theorem State.regSet_errorReg {r : RegDef} (hr : r ∈ errorRegs) (s : State) {die inst i : Nat}
    (hhas : blockHas die r.block inst = true) (hidx : i < max 1 r.count) (v : Nat) :
    s.regSet die inst r i v none = (s.plainWrite die inst r i v, wOk) := by
  by_cases hstep : r = R.STEP_ERROR
  · subst hstep
    obtain ⟨hd, hi⟩ : die = 0 ∧ inst = 0 := by simpa [R.STEP_ERROR, blockHas] using hhas
    subst hd hi
    rfl
  by_cases hpwr : r = R.PWR_ERROR
  · subst hpwr
    obtain ⟨_, hi⟩ : isDie die = true ∧ inst = 0 := by simpa [R.PWR_ERROR, blockHas] using hhas
    have hidx0 : i = 0 := by simpa [R.PWR_ERROR] using hidx
    subst hi hidx0
    rfl
  · exact s.regSet_plain (errorRegs_plain r hr hstep hpwr) ..

/-- REGISTER_WRITE to an error register reached writes the merged value, and nothing else happens. -/
theorem State.Reaches.exec_errorReg {s : State} {r : RegDef} {die inst i v : Nat} (h : s.Reaches r die inst i) (hs : s.Rest)
    (hi : inst < 4096) (hp : s.aon.powered = true) (hv : v < 2 ^ 64) (hr : r ∈ errorRegs) :
    exec (.registerWrite (r.addr die inst i) v) s = .next (s.wr r die inst i (regMerge r (s.rd r die inst i) v)) := by
  obtain ⟨_, _, _, _, hhas, hidx⟩ := h.addr_parts hi
  rw [h.exec_free hi hp hv (errorRegs_noRwl r hr), State.regSet_errorReg hr s hhas hidx, State.plainWrite]
  exact State.ends_rest s _ (hs.wr r die inst i _ (h.addr_ne_trace hi (errorRegs_notTrace r hr))) rfl

/-! ### The operation table of the vector engine -/

/-- The two registers of an operation-table entry: one RWL field of 64 bits each, in a region of their die. -/
theorem vecOp_facts : ∀ r ∈ [R.VEC_OP_LO, R.VEC_OP_HI], r.isPlain = true ∧ hasRwl r = true ∧ r.block = 0x11 ∧
    r.fields = [⟨0, 64, .rwl, false, 0⟩] := by decide +kernel

theorem State.rwlOpen_eq (s : State) {c : Nat} (hc : c ≠ 0) : s.rwlOpen c = (s.region c == 2) := if_neg hc

/-- Only the low 64 bits of what is written to a register count. -/
theorem State.wr_congr (s : State) (r : RegDef) (die inst i : Nat) {x y : Nat} (h : x % 2 ^ 64 = y % 2 ^ 64) :
    s.wr r die inst i x = s.wr r die inst i y := by
  have hw : BitVec.ofNat 64 x = BitVec.ofNat 64 y := BitVec.eq_of_toNat_eq (by simpa using h)
  rw [State.wr, State.wr, hw]

/-- R12: a register that is one RWL field takes the whole value written. -/
theorem State.plainWrite_whole (s : State) {r : RegDef} (hr : r.fields = [⟨0, 64, .rwl, false, 0⟩]) (die inst i v : Nat) :
    s.plainWrite die inst r i v = s.wr r die inst i v := by
  refine s.wr_congr r die inst i ?_
  have hb := bits_regMerge (r := r) (s.rd r die inst i) v (f := ⟨0, 64, .rwl, false, 0⟩) (by simp [hr]) (by simp [hr])
  simpa [bits, fieldWrite] using hb

/-- R72: a rejected write of an RWL register leaves a state at rest. -/
theorem State.Rest.rwlReject {s : State} (h : s.Rest) : s.rwlReject.Rest :=
  h.put R.STREAM_RWL_REJECTS_COUNT _ 0 0 0 (by decide)

/-- R73: marking an accepted write leaves a state at rest. -/
theorem State.Rest.rwlAccept {s : State} (h : s.Rest) {c : Nat} (hc : c < 16) : (s.rwlAccept c).Rest := by
  refine (h.put R.STREAM_STATUS_CSR_MODIFIED 1 0 0 0 (by decide)).put R.STREAM_REGION_MODIFIED 1 0 0 c ?_
  simp only [RegDef.addr, R.DBG_TRACE_CFG, R.STREAM_REGION_MODIFIED, R.STREAM_REGION]
  omega

end Sys2Proof.Machine

namespace Sys2Proof.Proofs
open Sys2Proof.Machine

/-- Settles O8: an error register's write is the merge of its fields, field by field; a write to the operation table is judged by
its region's state, and either counted or done and marked. -/
theorem registerWritesActByAccessCode : Obligations.RegisterWritesActByAccessCode := by
  refine ⟨fun s r die inst i v hs hp _ hi hv hr h => ?_, fun s r die inst i v c hs hp hd hi hv hr h hc hc0 => ?_⟩
  · obtain ⟨hapart, hacc⟩ := errorRegs_fields r hr
    refine ⟨_, h.exec_errorReg hs hi hp hv hr, fun f hf => ?_, fun k hk => regMerge_testBit_outside _ v hk⟩
    rw [bits_regMerge _ v hapart hf, fieldWrite]
    rcases hacc f hf with hcode | hcode <;> rw [hcode]
  · obtain ⟨hplain, hrwl, hblock, hfields⟩ := vecOp_facts r hr
    have hcd : die = c := by simpa [hblock, regionOf] using hc
    have hset : s.regSet die inst r i v none = (s.wr r die inst i v, wOk) := by
      rw [s.regSet_plain hplain, s.plainWrite_whole hfields]
    have hwr : (s.wr r die inst i v).Rest := hs.wr r die inst i v (h.addr_ne_trace hi (by rw [hblock]; decide))
    refine ⟨fun hrun => ?_, fun hstop => ?_⟩
    · rw [h.exec_rwl_shut hi hp hv hrwl hc (by simpa [s.rwlOpen_eq hc0] using hrun)]
      exact State.ends_rest s _ hs.rwlReject rfl
    · rw [h.exec_rwl_open hi hp hv hrwl hc (by simpa [s.rwlOpen_eq hc0] using hstop) hset]
      exact State.ends_rest s _ (hwr.rwlAccept (hcd ▸ hd)) rfl

end Sys2Proof.Proofs
end

section
/-!
PROOFS. The reduction channels' operations that leave memory as it was: counts, records of faults, reads, and what is sent on a
hop.
-/

namespace Sys2Proof.Machine

/-- A fold of operations that leave memory as it was leaves memory as it was. -/
theorem State.foldl_mem {α : Type} (f : State → α → State) (h : ∀ s x, (f s x).mem = s.mem) (l : List α) (s : State) :
    (l.foldl f s).mem = s.mem :=
  State.foldl_keeps (fun t s => t.mem = s.mem) (fun _ => rfl) (fun _ _ _ => Eq.trans) f h l s

/-! ### State put back, counts and faults recorded -/

@[simp] theorem State.putChan_mem (s : State) (c : Nat) (ch : Chan) : (s.putChan c ch).mem = s.mem := rfl
@[simp] theorem State.putStep_mem (s : State) (p : Nat) (t : StepSt) : (s.putStep p t).mem = s.mem := rfl
@[simp] theorem State.redPut_mem (s : State) (f : Fld) (v c : Nat) : (s.redPut f v c).mem = s.mem := rfl
@[simp] theorem State.stepFinished_mem (s : State) (p : Nat) : (s.stepFinished p).mem = s.mem := rfl
@[simp] theorem State.qDone_mem (s : State) (q : QRegs) (die inst c : Nat) : (s.qDone q die inst c).mem = s.mem := rfl
@[simp] theorem State.ctxRelease_mem (s : State) (c : Nat) : (s.ctxRelease c).mem = s.mem := rfl
@[simp] theorem State.digest_mem (s : State) (c : Nat) (h : RHead) (b : Bool) : (s.digest c h b).mem = s.mem := rfl

@[simp] theorem State.redCount_mem (s : State) (f : Fld) (n c : Nat) : (s.redCount f n c).mem = s.mem := by
  unfold State.redCount
  split <;> rfl

@[simp] theorem State.redSignal_mem (s : State) (q : RedReq) : (s.redSignal q).mem = s.mem := by
  unfold State.redSignal
  split <;> rfl

@[simp] theorem State.countWeave_mem (s : State) (c a n : Nat) : (s.countWeave c a n).mem = s.mem := by
  unfold State.countWeave
  split <;> rfl

@[simp] theorem State.stepBad_mem (s : State) (p step : Nat) : (s.stepBad p step).mem = s.mem := by
  unfold State.stepBad
  dsimp only
  split <;> rfl

@[simp] theorem State.stepEpoch_mem (s : State) (p step : Nat) : (s.stepEpoch p step).mem = s.mem := by
  unfold State.stepEpoch
  dsimp only
  split <;> rfl

@[simp] theorem State.loadDeadline_mem (s : State) (c : Nat) : (s.loadDeadline c).mem = s.mem := by
  unfold State.loadDeadline
  repeat' split
  all_goals rfl

@[simp] theorem State.dieRecord_mem (s : State) (die requester ctx kind addr : Nat) :
    (s.dieRecord die requester ctx kind addr).mem = s.mem := by
  unfold State.dieRecord
  split <;> rfl

@[simp] theorem State.hubRecord_mem (s : State) (hub block inst ctx kind addr : Nat) :
    (s.hubRecord hub block inst ctx kind addr).mem = s.mem := by
  unfold State.hubRecord
  split <;> simp

@[simp] theorem State.hubFault_mem (s : State) (hub block inst ctx kind addr : Nat) :
    (s.hubFault hub block inst ctx kind addr).mem = s.mem := by
  unfold State.hubFault
  dsimp only
  split <;> simp

/-! ### Reads -/

@[simp] theorem State.redLoad_mem (s : State) (c : Nat) (h : RHead) (a n : Nat) : (s.redLoad c h a n).1.mem = s.mem := by
  have hl := s.load_mem (s.redWho c) a n
  unfold State.redLoad
  split <;> simp_all

@[simp] theorem State.spillLoad_mem (s : State) (c a n : Nat) : (s.spillLoad c a n).1.mem = s.mem := by
  have hl := s.load_mem (s.redWho c) a n
  unfold State.spillLoad
  split <;> simp_all

@[simp] theorem State.readBack_mem (s : State) (c : Nat) (x : HeldFrame) : (s.readBack c x).1.mem = s.mem := by
  unfold State.readBack
  split <;> simp

@[simp] theorem State.carryVals_mem (s : State) (c : Nat) (e : CarryE) : (s.carryVals c e).1.mem = s.mem := by
  unfold State.carryVals
  split <;> simp

@[simp] theorem State.contribution_mem (s : State) (c : Nat) (h : RHead) (seg : Nat) :
    (s.contribution c h seg).1.mem = s.mem := by
  unfold State.contribution
  repeat' split
  all_goals simp

@[simp] theorem State.slotFree_mem (s : State) (c : Nat) (h : RHead) (k : Nat) : (s.slotFree c h k).1.mem = s.mem := by
  unfold State.slotFree
  dsimp only
  split <;> simp

@[simp] theorem State.headTakes_mem (s : State) (c : Nat) (h : RHead) (f : Frame) : (s.headTakes c h f).1.mem = s.mem := by
  unfold State.headTakes
  repeat' split
  all_goals simp

/-! ### What is sent -/

@[simp] theorem State.sendHop_mem (s : State) (hub hop part : Nat) (f : Frame) : (s.sendHop hub hop part f).mem = s.mem := by
  unfold State.sendHop
  dsimp only
  repeat' split
  all_goals simp

@[simp] theorem State.redSend_mem (s : State) (c : Nat) (h : RHead) (f : Frame) (data : Bool) :
    (s.redSend c h f data).1.mem = s.mem := by
  simp only [State.redSend, apply_ite Prod.fst, apply_ite State.mem, State.count_mem, State.loadDeadline_mem,
    State.sendHop_mem, ite_self]

@[simp] theorem State.rollDuty_mem (s : State) (c : Nat) (h : RHead) : (s.rollDuty c h).1.mem = s.mem := by
  unfold State.rollDuty
  dsimp only
  repeat' split
  all_goals simp

@[simp] theorem State.onRoll_mem (s : State) (c : Nat) (h : RHead) (f : Frame) (mis : Bool) :
    (s.onRoll c h f mis).1.mem = s.mem := by
  unfold State.onRoll
  dsimp only
  repeat' split
  all_goals simp

@[simp] theorem State.redMismatch_mem (s : State) (c : Nat) (h : RHead) (f : Frame) (st : Nat) :
    (s.redMismatch c h f st).1.mem = s.mem := by
  unfold State.redMismatch
  dsimp only
  repeat' split
  all_goals simp

@[simp] theorem State.absentOp_mem (s : State) (ch : Chan) : (s.absentOp ch).1.mem = s.mem := by
  unfold State.absentOp
  split <;> simp

end Sys2Proof.Machine
end

section
/-!
PROOFS. A reduction channel at work (R248 to R304) keeps memory in its canonical form: all that it writes goes through a store,
an add near memory, or spans left undefined.
-/

namespace Sys2Proof.Machine

/-- The state that an operation answers, once its answer is taken apart. -/
theorem State.wf_of_eq {α : Type} {x : State × α} {t : State} {a : α} (hx : x.1.mem.wf = true) (e : x = (t, a)) :
    t.mem.wf = true := by
  subst e
  exact hx

/-- A fold of operations that keep the canonical form keeps it, whatever they carry along. -/
theorem State.foldl_fst_wf {α β : Type} (f : State × β → α → State × β)
    (hf : ∀ x e, x.1.mem.wf = true → (f x e).1.mem.wf = true) (l : List α) (x : State × β) (hx : x.1.mem.wf = true) :
    (l.foldl f x).1.mem.wf = true :=
  List.foldlRecOn (motive := fun x => x.1.mem.wf = true) l f hx fun x hx e _ => hf x e hx

/-! ### Writes -/

/-- Spans left undefined keep the canonical form. -/
theorem State.forgetSpans_wf (s : State) (l : List (Nat × Nat)) (hs : s.mem.wf = true) : (s.forgetSpans l).mem.wf = true :=
  List.foldlRecOn (motive := fun t : State => t.mem.wf = true) l _ hs fun t ht x _ => t.mem.forget_wf x.1 x.2 _ ht

/-- R169: an add near memory keeps the canonical form, element by element. -/
theorem State.nmaAdd_wf (s : State) (c a : Nat) (b : List Byte) (hs : s.mem.wf = true) : (s.nmaAdd c a b).mem.wf = true := by
  unfold State.nmaAdd
  simp only [State.countWeave_mem, State.invalidate_mem, State.countDram_mem]
  exact State.foldl_fst_wf _ (fun x g hx => Mem.write_wf _ x.1.mem g.1 hx) _ (s, b) hs

@[simp] theorem State.redStore_wf (s : State) (c : Nat) (h : RHead) (a : Nat) (b : List Byte) (hs : s.mem.wf = true) :
    (s.redStore c h a b).1.mem.wf = true := by
  have hw := s.store_wf (s.redWho c) a b false hs
  unfold State.redStore
  split <;> simp_all

@[simp] theorem State.spillStore_wf (s : State) (c a : Nat) (b : List Byte) (hs : s.mem.wf = true) :
    (s.spillStore c a b).mem.wf = true := by
  simp [State.spillStore, State.store_wf, hs]

/-- A completion record is a store, and a count of its queue. -/
@[simp] theorem State.qRecord_wf (s : State) (q : QRegs) (w : Who) (die inst c tag status flags beats elapsed core gen : Nat)
    (hs : s.mem.wf = true) : (s.qRecord q w die inst c tag status flags beats elapsed core gen).mem.wf = true := by
  simp [State.qRecord, State.store_wf, hs]

/-! ### Contributions and results (R254 to R257) -/

@[simp] theorem State.redAdd_wf (s : State) (c : Nat) (h : RHead) (f : Frame) (origin : Bool) (loc : Option Nat)
    (hs : s.mem.wf = true) : (s.redAdd c h f origin loc).1.mem.wf = true := by
  unfold State.redAdd
  dsimp only
  split
  · simp [hs]
  · repeat' split
    all_goals simp [State.nmaAdd_wf, hs]

@[simp] theorem State.redDeliver_wf (s : State) (c : Nat) (h : RHead) (f : Frame) (hs : s.mem.wf = true) :
    (s.redDeliver c h f).1.mem.wf = true := by
  simp [State.redDeliver, hs]

@[simp] theorem State.redFinal_wf (s : State) (c : Nat) (h : RHead) (f : Frame) (mis : Bool) (hs : s.mem.wf = true) :
    (s.redFinal c h f mis).1.mem.wf = true := by
  unfold State.redFinal
  dsimp only
  repeat' split
  all_goals simp [hs]

@[simp] theorem State.originate_wf (s : State) (c : Nat) (h : RHead) (seg : Nat) (hs : s.mem.wf = true) :
    (s.originate c h seg).1.mem.wf = true := by
  simp [State.originate, hs]

@[simp] theorem State.originateAll_wf (s : State) (c : Nat) (h : RHead) (hs : s.mem.wf = true) :
    (s.originateAll c h).1.mem.wf = true := by
  refine State.foldl_fst_wf _ (fun x seg hx => ?_) _ _ hs
  dsimp only
  repeat' split
  all_goals simp [hx]

@[simp] theorem State.onExponent_wf (s : State) (c : Nat) (h : RHead) (f : Frame) (mis : Bool) (hs : s.mem.wf = true) :
    (s.onExponent c h f mis).1.mem.wf = true := by
  unfold State.onExponent
  dsimp only
  repeat' split
  all_goals simp [hs]

@[simp] theorem State.onReduce_wf (s : State) (c : Nat) (h : RHead) (f : Frame) (mis : Bool) (loc : Option Nat)
    (hs : s.mem.wf = true) : (s.onReduce c h f mis loc).1.mem.wf = true := by
  unfold State.onReduce
  dsimp only
  repeat' split
  all_goals simp [hs]

@[simp] theorem State.onGathered_wf (s : State) (c : Nat) (h : RHead) (f : Frame) (mis : Bool) (hs : s.mem.wf = true) :
    (s.onGathered c h f mis).1.mem.wf = true := by
  unfold State.onGathered
  dsimp only
  split <;> simp [hs]

/-! ### Gathers (R294, R296) -/

@[simp] theorem State.writeShard_wf (s : State) (c : Nat) (h : RHead) (origin seg : Nat) (payload : List Byte)
    (hs : s.mem.wf = true) : (s.writeShard c h origin seg payload).1.mem.wf = true := by
  unfold State.writeShard
  extract_lets d
  split
  split
  next t h1 ok e1 =>
    have ht : t.mem.wf = true := State.wf_of_eq (s.redStore_wf c h _ _ hs) e1
    split
    next u h2 ok2 e2 =>
      have hu : u.mem.wf = true := State.wf_of_eq (by split <;> simp [ht]) e2
      extract_lets h3 n h4
      split
      · dsimp only
        split <;> simp [hu]
      · exact hu

@[simp] theorem State.gatherOwn_wf (s : State) (c : Nat) (h : RHead) (hs : s.mem.wf = true) :
    (s.gatherOwn c h).1.mem.wf = true := by
  refine State.foldl_fst_wf _ (fun x seg hx => ?_) _ _ hs
  dsimp only
  repeat' split
  all_goals simp [hx]

@[simp] theorem State.onShard_wf (s : State) (c : Nat) (h : RHead) (f : Frame) (mis : Bool) (hs : s.mem.wf = true) :
    (s.onShard c h f mis).1.mem.wf = true := by
  unfold State.onShard
  dsimp only
  repeat' split
  all_goals simp [hs]

/-! ### Moves and the overnight carry (R260, R299 to R302) -/

@[simp] theorem State.carryAdd_wf (s : State) (c : Nat) (e : CarryE) (hs : s.mem.wf = true) :
    (s.carryAdd c e).1.mem.wf = true := by
  unfold State.carryAdd
  repeat' split
  all_goals simp [hs]

@[simp] theorem State.moveWrite_wf (s : State) (c : Nat) (h : RHead) (f : Frame) (hs : s.mem.wf = true) :
    (s.moveWrite c h f).1.mem.wf = true := by
  unfold State.moveWrite
  split
  · have hw := s.redStore_wf c h (f.mvDst % 2 ^ 48) f.payload hs
    dsimp only
    split <;> next e => simpa using State.wf_of_eq hw e
  · dsimp only
    repeat' split
    all_goals simp [State.store_wf, hs]

@[simp] theorem State.moveOut_wf (s : State) (c : Nat) (h : RHead) (f : Frame) (hs : s.mem.wf = true) :
    (s.moveOut c h f).1.mem.wf = true := by
  unfold State.moveOut
  split <;> simp [hs]

@[simp] theorem State.moveEntryOut_wf (s : State) (c : Nat) (h : RHead) (e : MoveEntry) (hs : s.mem.wf = true) :
    (s.moveEntryOut c h e).1.mem.wf = true := by
  unfold State.moveEntryOut
  dsimp only
  split
  · refine State.foldl_fst_wf _ (fun x i hx => ?_) _ _ hs
    have hl (a n : Nat) : (x.1.redLoad c x.2 a n).1.mem.wf = true := by simp [hx]
    split
    · next e1 => exact State.moveOut_wf _ c _ _ (State.wf_of_eq (hl _ _) e1)
    · next e1 => exact State.wf_of_eq (hl _ _) e1
  · split
    · exact hs
    · refine State.foldl_fst_wf _ (fun x i hx => ?_) _ _ (by simp [hs])
      exact State.moveOut_wf _ c _ _ hx

@[simp] theorem State.permuteBegin_wf (s : State) (c : Nat) (h : RHead) (hs : s.mem.wf = true) :
    (s.permuteBegin c h).1.mem.wf = true := by
  unfold State.permuteBegin
  extract_lets t n
  split
  next u h1 b e =>
    have hu : u.mem.wf = true := State.wf_of_eq (by simp [t, hs]) e
    extract_lets h2
    split
    · exact hu
    · extract_lets es st
      split
      · exact hu
      · exact State.foldl_fst_wf _ (fun x e hx => x.1.moveEntryOut_wf c x.2 e hx) es _ hu

@[simp] theorem State.onMove_wf (s : State) (c : Nat) (h : RHead) (f : Frame) (mis : Bool) (hs : s.mem.wf = true) :
    (s.onMove c h f mis).1.mem.wf = true := by
  unfold State.onMove
  dsimp only
  repeat' split
  all_goals simp [hs]

/-! ### The head (R248, R251, R258, R262 to R266) -/

@[simp] theorem State.headFrame_wf (s : State) (c : Nat) (h : RHead) (f : Frame) (loc : Option Nat) (hs : s.mem.wf = true) :
    (s.headFrame c h f loc).1.mem.wf = true := by
  unfold State.headFrame
  extract_lets s1 h1 st s2
  have hs2 : s2.mem.wf = true := by
    simp only [s2, s1]
    split <;> simp [hs]
  split
  next t h2 g e =>
    have ht : t.mem.wf = true := State.wf_of_eq (by split <;> simp [hs2]) e
    repeat' split
    all_goals simp [ht]

@[simp] theorem State.takeHeld_wf (s : State) (c : Nat) (h : RHead) (x : HeldFrame) (hs : s.mem.wf = true) :
    (s.takeHeld c h x).1.mem.wf = true := by
  unfold State.takeHeld
  split
  · simp [hs]
  · dsimp only
    split <;> simp [hs]

@[simp] theorem State.redDone_wf (s : State) (c : Nat) (q : RedReq) (held : Bool) (status flags beats : Nat)
    (hs : s.mem.wf = true) : (s.redDone c q held status flags beats).mem.wf = true := by
  unfold State.redDone
  extract_lets hub
  split
  next k s1 e =>
    have h1 : s1.mem.wf = true := by
      cases e
      exact hs
    extract_lets elapsed s2 s3 s4 s5
    have h2 : s2.mem.wf = true := by
      simp only [s2]
      split <;> simp [h1]
    have h3 : s3.mem.wf = true := by
      simp only [s3]
      split <;> simp [h2]
    have h4 : s4.mem.wf = true := by
      simp only [s4]
      split <;> simp [h3]
    split <;> simp [s5, h4]

@[simp] theorem State.permuteEnd_wf (s : State) (c : Nat) (h : RHead) (hs : s.mem.wf = true) :
    (s.permuteEnd c h).mem.wf = true := by
  unfold State.permuteEnd
  dsimp only
  split
  · simp [hs]
  · exact State.forgetSpans_wf _ _ (by simp [hs])

@[simp] theorem State.headDone_wf (s : State) (c : Nat) (h : RHead) (hs : s.mem.wf = true) : (s.headDone c h).mem.wf = true := by
  unfold State.headDone
  split
  · exact hs
  next q _ =>
    extract_lets t
    have ht : t.mem.wf = true := by
      simp only [t]
      split <;> simp [hs]
    split
    next u h1 e =>
      have hu : u.mem.wf = true := by
        refine State.wf_of_eq ?_ e
        repeat' split
        all_goals simp [ht]
      dsimp only
      repeat' split
      all_goals simp [hu]

@[simp] theorem State.headFinish_wf (s : State) (c : Nat) (h : RHead) (hs : s.mem.wf = true) :
    (s.headFinish c h).mem.wf = true := by
  unfold State.headFinish
  dsimp only
  repeat' split
  all_goals simp [hs]

@[simp] theorem State.headAbort_wf (s : State) (c : Nat) (h : RHead) (q : RedReq) (hs : s.mem.wf = true) :
    (s.headAbort c h q).mem.wf = true :=
  s.redDone_wf c q _ _ _ _ hs

@[simp] theorem State.headBegin_wf (s : State) (c : Nat) (h : RHead) (hs : s.mem.wf = true) :
    (s.headBegin c h).mem.wf = true := by
  unfold State.headBegin
  dsimp only
  split <;> simp [hs]

@[simp] theorem State.closingBegin_wf (s : State) (c : Nat) (vals : List W32) (stale : Bool) (hs : s.mem.wf = true) :
    (s.closingBegin c vals stale).mem.wf = true :=
  s.headBegin_wf c _ hs

@[simp] theorem State.becomeAbsent_wf (s : State) (c : Nat) (hs : s.mem.wf = true) : (s.becomeAbsent c).mem.wf = true := by
  unfold State.becomeAbsent
  dsimp only
  split <;> simp [hs]

/-! ### The channel at work -/

@[simp] theorem State.chanStep_wf (s : State) (c : Nat) (hs : s.mem.wf = true) : (s.chanStep c).1.mem.wf = true := by
  unfold State.chanStep
  dsimp only
  repeat' split
  all_goals simp [hs]

theorem State.chanRun_wf (c k : Nat) (s : State) (hs : s.mem.wf = true) : (State.chanRun c k s).mem.wf = true := by
  induction k generalizing s with
  | zero => exact hs
  | succ k ih =>
    have hstep := s.chanStep_wf c hs
    unfold State.chanRun
    split <;> simp_all

theorem State.chanPump_wf (s : State) (c : Nat) (hs : s.mem.wf = true) : (s.chanPump c).mem.wf = true :=
  State.chanRun_wf c _ s hs

end Sys2Proof.Machine
end

section
/-!
PROOFS. Every step keeps memory in its canonical form (R35): a command ends by bringing it there, and the millisecond that passes
with no command waiting moves memory only through the reduction channels.
-/

namespace Sys2Proof.Machine

/-! ### A millisecond of the clocks -/

theorem State.eng_mem (s : State) (hub : Nat) (n : NodeCfg) (k c : Nat) : (s.eng hub n k c).mem = s.mem := by
  unfold State.eng
  split <;> rfl

theorem State.idleClocks_mem (s : State) : s.idleClocks.mem = s.mem := by
  refine State.foldl_mem _ (fun s d => State.foldl_mem _ (fun s k => ?_) _ _) _ _
  split <;> rfl

theorem State.idlePower_mem (s : State) : s.idlePower.mem = s.mem := by
  unfold State.idlePower
  dsimp only
  rw [State.foldl_mem _ (fun s d => by split <;> rfl), State.count_mem]

theorem State.idleIngest_mem (s : State) : s.idleIngest.mem = s.mem := by
  refine State.foldl_mem _ (fun s h => State.foldl_mem _ (fun s n => ?_) _ _) _ _
  dsimp only
  repeat' split
  all_goals simp [State.eng_mem]

theorem State.idleSteps_mem (s : State) : s.idleSteps.mem = s.mem := by
  refine State.foldl_mem _ (fun s p => ?_) _ _
  split
  · rfl
  · refine (State.foldl_mem _ (fun s d => ?_) _ _).trans (State.foldl_mem _ (fun s h => ?_) _ _)
    · split <;> rfl
    · dsimp only
      repeat' split
      all_goals rfl

theorem State.idleDeadlines_mem (s : State) : s.idleDeadlines.mem = s.mem := by
  refine State.foldl_mem _ (fun s e => ?_) _ _
  dsimp only
  split <;> rfl

theorem State.idleChans_wf (s : State) (hs : s.mem.wf = true) : s.idleChans.mem.wf = true := by
  refine List.foldlRecOn (motive := fun t : State => t.mem.wf = true) _ _ hs fun t ht e _ => ?_
  split
  · exact t.chanPump_wf e.1 ht
  · exact ht

/-- A millisecond with no command waiting keeps memory in its canonical form. -/
theorem State.idle_sound {s : State} (hs : s.Sound) : s.idle.Sound := by
  unfold State.idle
  split
  · apply State.idleChans_wf
    rwa [State.idleDeadlines_mem, State.idleSteps_mem, State.idleIngest_mem, State.idlePower_mem, State.idleClocks_mem]
  · exact hs

/-! ### Commands -/

/-- Every command ends as commands end: in what `after` leaves of the state that its own effect makes. -/
theorem exec_eq_ends (c : Instr) (s : State) : ∃ t, exec c s = s.ends t := by
  cases c <;> exact ⟨_, rfl⟩

end Sys2Proof.Machine

namespace Sys2Proof.Proofs
open Sys2Proof.Machine

/-- Settles O3: a command's state after it is in canonical form whatever came before, and a millisecond of the clocks keeps the
form. -/
theorem stepKeepsMemoryCanonical : Obligations.StepKeepsMemoryCanonical := by
  intro s t hs hstep
  unfold step at hstep
  split at hstep
  next c rest _ =>
    obtain ⟨u, hu⟩ := exec_eq_ends c { s with pending := rest }
    rw [hu] at hstep
    cases hstep
    exact State.after_wf _ _
  next =>
    cases hstep
    exact State.idle_sound hs

end Sys2Proof.Proofs
end

section
/-!
PROOFS. How an access is judged (R37, R171): between two neighbouring addresses the judgement changes only at one of the addresses
that `bounds` lists, so the lowest byte that faults is the first byte of the access or the lowest faulting bound within it.
-/

namespace Sys2Proof.Machine

/-! ### Addresses that no bound separates -/

/-- No address at which a judgement can change lies above one of the two and not above the other. -/
def State.SameSide (s : State) (x y : Nat) : Prop := ∀ b ∈ s.bounds, (b ≤ x ↔ b ≤ y)

/-- Between an address and the next only that next address can be a bound. -/
theorem State.sameSide_succ {s : State} {x : Nat} (h : x + 1 ∉ s.bounds) : s.SameSide x (x + 1) := by
  intro b hb
  have hne : b ≠ x + 1 := fun e => h (e ▸ hb)
  omega

section
variable {s : State} {x y : Nat}

theorem State.mem_bounds_die (s : State) {k : Nat} (hk : k < 17) : k * 2 ^ 44 ∈ s.bounds := by
  have : k * 2 ^ 44 ∈ (List.range 17).map (· * 2 ^ 44) := List.mem_map.2 ⟨k, List.mem_range.2 hk, rfl⟩
  simp only [State.bounds, List.mem_append, this, true_or]

theorem State.mem_bounds_far (s : State) : 0xE * 2 ^ 44 + s.farSize ∈ s.bounds := by
  have : 0xE * 2 ^ 44 + s.farSize ∈ [0x18000000, 2 ^ 44 + 0x18000000, 0xE * 2 ^ 44 + s.farSize] := by simp
  simp only [State.bounds, List.mem_append, this, true_or, or_true]

theorem State.mem_bounds_hub (s : State) {d : Nat} (hd : isHub d = true) : d * 2 ^ 44 + 0x18000000 ∈ s.bounds := by
  have : d * 2 ^ 44 + 0x18000000 ∈ [0x18000000, 2 ^ 44 + 0x18000000, 0xE * 2 ^ 44 + s.farSize] := by
    simp only [isHub, Bool.or_eq_true, beq_iff_eq] at hd
    rcases hd with rfl | rfl <;> simp
  simp only [State.bounds, List.mem_append, this, true_or, or_true]

theorem mem_compDies {d : Nat} (hd : isComp d = true) : d ∈ compDies := by
  simp only [isComp, Bool.or_eq_true, beq_iff_eq] at hd
  rcases hd with ((rfl | rfl) | rfl) | rfl <;> decide

theorem mem_hubs {d : Nat} (hd : isHub d = true) : d ∈ hubs := by
  simp only [isHub, Bool.or_eq_true, beq_iff_eq] at hd
  rcases hd with rfl | rfl <;> decide

theorem State.mem_bounds_home (s : State) {d : Nat} (hd : isComp d = true) : d * 2 ^ 44 + s.homeSize d ∈ s.bounds := by
  have : d * 2 ^ 44 + s.homeSize d ∈ compDies.map (fun d => d * 2 ^ 44 + s.homeSize d) :=
    List.mem_map.2 ⟨d, mem_compDies hd, rfl⟩
  simp only [State.bounds, List.mem_append, this, true_or, or_true]

theorem State.mem_bounds_spad (s : State) {d m : Nat} (hd : isComp d = true) (hm : m < 33) : spadBase d m ∈ s.bounds := by
  have : spadBase d m ∈ compDies.flatMap (fun d => (List.range 33).map (spadBase d)) :=
    List.mem_flatMap.2 ⟨d, mem_compDies hd, List.mem_map.2 ⟨m, List.mem_range.2 hm, rfl⟩⟩
  simp only [State.bounds, List.mem_append, this, true_or, or_true]

theorem State.mem_bounds_carve {c : Carve} (hc : c ∈ s.carves) : c.base ∈ s.bounds ∧ c.base + c.size ∈ s.bounds := by
  have hends (b : Nat) (hb : b ∈ [c.base, c.base + c.size]) : b ∈ s.bounds := by
    have : b ∈ s.carves.flatMap (fun c => [c.base, c.base + c.size]) := List.mem_flatMap.2 ⟨c, hc, hb⟩
    simp only [State.bounds, List.mem_append, this, true_or, or_true]
  exact ⟨hends _ (by simp), hends _ (by simp)⟩

/-- R181, R225: with four partitions the ends of a hub's work areas are bounds, and those of its SETE_QWORK area. -/
theorem State.mem_bounds_work {d : Nat} (h3 : s.cut = 3) (hd : isHub d = true) {b : Nat}
    (hb : b ∈ (s.workAreas d).flatMap (fun a => [a.1, a.1 + a.2.1]) ++
      [(s.qworkArea d).1, (s.qworkArea d).1 + (s.qworkArea d).2]) : b ∈ s.bounds := by
  unfold State.bounds
  rw [if_pos h3]
  exact List.mem_append_right _ (List.mem_flatMap.2 ⟨d, mem_hubs hd, hb⟩)

/-- Addresses on the same side of every bound are on the same side of the end of the 48-bit space. -/
theorem State.SameSide.within (h : s.SameSide x y) : x < 2 ^ 48 ↔ y < 2 ^ 48 := by
  have := h _ (s.mem_bounds_die (k := 16) (by omega))
  omega

/-- And, within it, on the same die. -/
theorem State.SameSide.addrDie_eq (h : s.SameSide x y) (hx : x < 2 ^ 48) : addrDie x = addrDie y := by
  have hy := h.within.1 hx
  have h1 := h _ (s.mem_bounds_die (k := x / 2 ^ 44) (by omega))
  have h2 := h _ (s.mem_bounds_die (k := y / 2 ^ 44) (by omega))
  unfold addrDie
  omega

/-- An offset that is a bound of the die does not separate them. -/
theorem State.SameSide.addrOff_lt (h : s.SameSide x y) (hx : x < 2 ^ 48) {o : Nat} (ho : addrDie x * 2 ^ 44 + o ∈ s.bounds) :
    addrOff x < o ↔ addrOff y < o := by
  have hy := h.within.1 hx
  have hd := h.addrDie_eq hx
  have := h _ ho
  unfold addrDie at *
  unfold addrOff
  omega

/-- Nor does a span whose two ends are bounds. -/
theorem State.SameSide.inSpan (h : s.SameSide x y) {lo hi : Nat} (hlo : lo ∈ s.bounds) (hhi : hi ∈ s.bounds) :
    (decide (lo ≤ x) && decide (x < hi)) = (decide (lo ≤ y) && decide (y < hi)) := by
  have h1 := h lo hlo
  have h2 := h hi hhi
  simp only [← Nat.not_le, h1, h2]

/-- Nor do the spans of a list whose ends are all bounds. -/
theorem State.SameSide.any_inSpan (h : s.SameSide x y) {α : Type} {l : List α} (p : α → Bool) {lo len : α → Nat}
    (hb : ∀ e ∈ l, lo e ∈ s.bounds ∧ lo e + len e ∈ s.bounds) :
    (l.any fun e => p e && decide (lo e ≤ x) && decide (x < lo e + len e)) =
      l.any fun e => p e && decide (lo e ≤ y) && decide (y < lo e + len e) := by
  rw [Bool.eq_iff_iff, List.any_eq_true, List.any_eq_true]
  refine exists_congr fun e => and_congr_right fun he => ?_
  obtain ⟨hlo, hhi⟩ := hb e he
  rw [Bool.and_assoc, h.inSpan hlo hhi, ← Bool.and_assoc]

/-! ### The judgement of a byte -/

/-- R27: what work of a partition may reach changes, on a die, only at a bound. -/
theorem State.SameSide.partOk_eq (h : s.SameSide x y) (hx : x < 2 ^ 48)
    (hd : isComp (addrDie x) = true ∨ isHub (addrDie x) = true) (w : Who) : s.partOk w x = s.partOk w y := by
  have hcarve (p : Carve → Bool) := h.any_inSpan (l := s.carves) p (lo := Carve.base) (len := Carve.size)
    fun c hc => State.mem_bounds_carve hc
  unfold State.partOk
  rw [← h.addrDie_eq hx]
  cases w.part with
  | none => rfl
  | some p =>
    dsimp only
    by_cases hcut : s.cut ≤ 1
    · rw [if_pos hcut, if_pos hcut]
    by_cases hcomp : isComp (addrDie x) = true
    · rw [if_neg hcut, if_neg hcut, if_pos hcomp, if_pos hcomp, hcarve]
    by_cases h2 : s.cut = 2
    · rw [if_neg hcut, if_neg hcut, if_neg hcomp, if_neg hcomp, if_pos h2, if_pos h2]
    have hhub := hd.resolve_left hcomp
    have h3 : s.cut = 3 := by
      have : s.cut < 2 ^ 2 := s.get_lt R.ID_DIE_PARTITION_COUNT 0 0 0
      omega
    have hwork := h.any_inSpan (l := s.workAreas (addrDie x)) (fun a => a.2.2 == p) (lo := fun a => a.1) (len := fun a => a.2.1)
      fun a ha => by
        have hends (b : Nat) (hb : b ∈ [a.1, a.1 + a.2.1]) : b ∈ s.bounds :=
          State.mem_bounds_work h3 hhub (List.mem_append_left _ (List.mem_flatMap.2 ⟨a, ha, hb⟩))
        exact ⟨hends _ (by simp), hends _ (by simp)⟩
    have hq := h.inSpan (State.mem_bounds_work h3 hhub (List.mem_append_right _ List.mem_cons_self))
      (State.mem_bounds_work h3 hhub (List.mem_append_right _ (List.mem_cons_of_mem _ List.mem_cons_self)))
    rw [if_neg hcut, if_neg hcut, if_neg hcomp, if_neg hcomp, if_neg h2, if_neg h2, hcarve, hwork, Bool.and_assoc, hq,
      ← Bool.and_assoc]

/-- R36: among the scratchpads of a compute die, addresses on the same side of every bound are in the same core's. -/
theorem State.SameSide.core_eq (h : s.SameSide x y) (hx : x < 2 ^ 48) (hd : isComp (addrDie x) = true)
    (hs : 0x0F0000000000 ≤ addrOff x ∧ addrOff x < 0x0F0008000000) :
    (addrOff x - 0x0F0000000000) / 0x400000 = (addrOff y - 0x0F0000000000) / 0x400000 := by
  have hbound {m : Nat} (hm : m < 33) : addrOff x < 0x0F0000000000 + m * 0x400000 ↔ addrOff y < 0x0F0000000000 + m * 0x400000 :=
    h.addrOff_lt hx (by simpa [spadBase, Nat.add_assoc] using s.mem_bounds_spad hd hm)
  have hlo := hbound (m := (addrOff x - 0x0F0000000000) / 0x400000) (by omega)
  have hhi := hbound (m := (addrOff x - 0x0F0000000000) / 0x400000 + 1) (by omega)
  omega

/-- Addresses that no bound separates are judged alike. -/
theorem State.SameSide.kindAt_eq (h : s.SameSide x y) (w : Who) : s.kindAt w x = s.kindAt w y := by
  by_cases hx : x < 2 ^ 48
  · have hd := h.addrDie_eq hx
    have hy := h.within.1 hx
    unfold State.kindAt
    dsimp only
    rw [← hd, if_neg (Nat.not_le.2 hx), if_neg (Nat.not_le.2 hy)]
    by_cases hE : addrDie x = 0xE
    · have hfar := h.addrOff_lt hx (o := s.farSize) (hE ▸ s.mem_bounds_far)
      simp only [hE, if_true, hfar]
    by_cases hhub : isHub (addrDie x) = true
    · have hwin := h.addrOff_lt hx (s.mem_bounds_hub hhub)
      simp only [hE, if_false, hhub, if_true, hwin, h.partOk_eq hx (.inr hhub) w]
    by_cases hcomp : isComp (addrDie x) = true
    · have hhome := h.addrOff_lt hx (s.mem_bounds_home hcomp)
      have hlo := h.addrOff_lt hx (o := 0x0F0000000000) (by simpa [spadBase] using s.mem_bounds_spad hcomp (m := 0) (by omega))
      have hhi := h.addrOff_lt hx (o := 0x0F0008000000)
        (by simpa [spadBase, Nat.add_assoc] using s.mem_bounds_spad hcomp (m := 32) (by omega))
      by_cases hspad : 0x0F0000000000 ≤ addrOff x ∧ addrOff x < 0x0F0008000000
      · have hspad' : 0x0F0000000000 ≤ addrOff y ∧ addrOff y < 0x0F0008000000 := by omega
        simp [hE, hhub, hcomp, hspad, hspad', hhome, h.partOk_eq hx (.inl hcomp) w, h.core_eq hx hcomp hspad]
      · have hspad' : ¬ (0x0F0000000000 ≤ addrOff y ∧ addrOff y < 0x0F0008000000) := by omega
        simp [hE, hhub, hcomp, hspad, hspad', hhome, h.partOk_eq hx (.inl hcomp) w]
    · simp [hE, hhub, hcomp]
  · have hy : ¬ y < 2 ^ 48 := fun hy => hx (h.within.2 hy)
    rw [State.kindAt, State.kindAt, if_pos (Nat.not_lt.1 hx), if_pos (Nat.not_lt.1 hy)]

/-- R171: the judgement of bytes changes from one address to the next only at a bound. -/
theorem State.mem_bounds_of_kindAt_ne {w : Who} (h : s.kindAt w x ≠ s.kindAt w (x + 1)) : x + 1 ∈ s.bounds :=
  Classical.byContradiction fun hb => h ((State.sameSide_succ hb).kindAt_eq w)

end

/-! ### The judgement of an access -/

section
variable {s : State} {w : Who} {a n : Nat}

/-- An access to bytes that may all be reached is free of fault. -/
theorem State.judge_eq_zero (h : ∀ i, i < n → s.kindAt w (a + i) = 0) : s.judge w a n = 0 := by
  unfold State.judge
  by_cases hn : n = 0
  · rw [if_pos hn]
  have h0 : s.kindAt w a = 0 := h 0 (by omega)
  have hcand : (s.bounds.filter (fun b => decide (a < b) && decide (b < a + n))).filter (fun b => s.kindAt w b != 0) = [] := by
    refine List.filter_eq_nil_iff.2 fun b hb => ?_
    obtain ⟨_, hb⟩ := List.mem_filter.1 hb
    simp only [Bool.and_eq_true, decide_eq_true_eq] at hb
    have := h (b - a) (by omega)
    rw [Nat.add_sub_cancel' (by omega)] at this
    simp [this]
  simp [hn, h0, hcand]

/-- R37: an access has the kind of the first of its bytes that faults. -/
theorem State.judge_eq_first {i : Nat} (hi : i < n) (hk : s.kindAt w (a + i) ≠ 0)
    (hlow : ∀ j, j < i → s.kindAt w (a + j) = 0) : s.judge w a n = s.kindAt w (a + i) := by
  unfold State.judge
  rw [if_neg (by omega)]
  dsimp only
  cases i with
  | zero => exact if_pos hk
  | succ i =>
    have h0 : s.kindAt w a = 0 := hlow 0 (by omega)
    rw [if_neg (by simp [h0])]
    have hbound : a + (i + 1) ∈ s.bounds := by
      refine State.mem_bounds_of_kindAt_ne (x := a + i) (w := w) ?_
      rw [hlow i (by omega)]
      exact hk.symm
    have hmin : ((s.bounds.filter (fun b => decide (a < b) && decide (b < a + n))).filter
        (fun b => s.kindAt w b != 0)).min? = some (a + (i + 1)) := by
      simp only [List.min?_eq_some_iff, List.mem_filter, Bool.and_eq_true, decide_eq_true_eq, bne_iff_ne]
      refine ⟨⟨⟨hbound, by omega, by omega⟩, hk⟩, fun b hb => ?_⟩
      obtain ⟨⟨_, hab, _⟩, hbk⟩ := hb
      refine Nat.le_of_not_lt fun hlt => hbk ?_
      have := hlow (b - a) (by omega)
      rwa [Nat.add_sub_cancel' (by omega)] at this
    generalize (s.bounds.filter _).filter _ = l at hmin ⊢
    cases l with
    | nil => cases hmin
    | cons b bs =>
      rw [List.min?_cons', Option.some_inj] at hmin
      exact congrArg (s.kindAt w) hmin

end
end Sys2Proof.Machine

namespace Sys2Proof.Proofs
open Sys2Proof.Machine

/-- Settles O56: the first faulting byte after the access's own first is a bound, and the least of the candidates. -/
theorem accessesAreJudgedByTheirLowestFault : Obligations.AccessesAreJudgedByTheirLowestFault := by
  intro s w a n
  refine ⟨fun i hi hk hlow => State.judge_eq_first hi hk hlow, fun hj i => ?_, State.judge_eq_zero⟩
  induction i using Nat.strongRecOn with
  | ind i ih =>
    refine fun hi => Classical.byContradiction fun hk => hk ?_
    exact (State.judge_eq_first hi hk fun j hjlt => ih j hjlt (Nat.lt_trans hjlt hi)).symm.trans hj

end Sys2Proof.Proofs
end
